-- ==== Sys2Proof/Word.lean ====
section
/-! DEFINITION. The words of the yard link and the numbers of the part's tables (00_scope.md, section 1.1). -/

namespace Sys2Proof

/-- One byte of the yard link. -/
abbrev Byte := BitVec 8

/-- A frame of the yard link: its bytes in the order they cross the line (R151, R190). -/
abbrev Frame := List Byte

/-- An anemometer mast record, 0–7. -/
abbrev MastId := Fin 8
/-- A dust monitor record, 0–11. -/
abbrev DustId := Fin 12
/-- A stockpile zone, and the moisture probe record of that zone, 0–31. -/
abbrev ZoneId := Fin 32
/-- A band profile, 0–3. -/
abbrev ProfileId := Fin 4
/-- A spray cannon, 0–47. -/
abbrev CannonId := Fin 48
/-- A sweep pattern, 0–7. -/
abbrev PatternId := Fin 8
/-- A pump station, 0–3. -/
abbrev StationId := Fin 4
/-- A water source, 0–3. -/
abbrev SourceId := Fin 4
/-- A machine record, 0–7. -/
abbrev MachineId := Fin 8
/-- A wind direction sector of 22.5 degrees, 0–15. -/
abbrev Sector := Fin 16

end Sys2Proof
end

