-- ==== Sys2Proof/Config.lean ====
section
/-! DEFINITION. What one implementation fixes, and the values the manual leaves open. The opaque constants have
no body: a statement that mentions one holds whatever its value is. -/

namespace Sys2Proof

/-- The vendor code IDENTIFY returns (R182, R194). -/
def Config.vendorCode : Nat := 5203
/-- The part code IDENTIFY returns (R182, R194). -/
def Config.partCode : Nat := 48
/-- The revision letter A (R182, R194). -/
def Config.revision : Nat := 65

/-- The twenty capacities of section 1.1 in the order of its table, as IDENTIFY returns them (R182, R194). -/
def Config.capacities : List Nat :=
  [239, 8, 12, 32, 32, 4, 48, 48, 768, 8, 4, 20, 4, 8, 2, 4, 48, 4, 4, 32]

/-- The configuration store's format code (R187). The manual gives no value (log entry 12). -/
opaque Config.formatCode : Byte

/-- The free choices the part makes where a rule says that either order may occur within one step, or gives no
order, or gives no value (log entries 7 to 11). The argument counts the choices already made. -/
opaque Config.freeChoice : Nat → Nat

end Sys2Proof
end

