-- ==== Sys2Proof/Syntax.lean ====
section
/-! DEFINITION. The commands of the block: one constructor per row of spec/opcode_table.json. -/

namespace Sys2Proof

/-- The two ports of the part (R149): port 0 is the control port, port 1 the field port. -/
inductive Port where
  | control
  | field
  deriving DecidableEq, Repr

/-- One step of the part, as spec/opcode_table.json lists them. The constructors of the management requests
(`identify` to `restart`) carry no operand: the request they carry out, with its source, tag and body, is the one at
the head of the request queue, where `frameCompletion` of a MANAGE frame put it (R156, R179; log entry 3). -/
inductive Instr where
  /-- POWER_ON (R187): power is applied. -/
  | powerOn
  /-- PIN_RESET_ASSERTED (R169): the reset pin is asserted. -/
  | pinResetAsserted
  /-- RESET_RELEASE (R169, R198): the reset pin is released; `straps` is the level of the four address straps,
  strap 0 the least significant bit. -/
  | resetRelease (straps : BitVec 4)
  /-- STORE_LOAD_END (R187): the load of the configuration store ends. -/
  | storeLoadEnd
  /-- FRAME_COMPLETION (R151): the idle gap after a run of `bytes` at port `p` ends. -/
  | frameCompletion (p : Port) (bytes : List Byte)
  /-- END_OF_SENDING (R158): the transmitter of port `p` ends a frame. -/
  | endOfSending (p : Port)
  /-- SECOND_EVENT (R24): one second of the crystal passes. -/
  | secondEvent
  /-- MAST_STALENESS_EXPIRY (R16). -/
  | mastStalenessExpiry (m : MastId)
  /-- DUST_STALENESS_EXPIRY (R18). -/
  | dustStalenessExpiry (d : DustId)
  /-- PROBE_STALENESS_EXPIRY (R19). -/
  | probeStalenessExpiry (z : ZoneId)
  /-- EVALUATION_TIMER_EXPIRY (R42). -/
  | evaluationTimerExpiry (z : ZoneId)
  /-- PUMP_STALENESS_EXPIRY (R86). -/
  | pumpStalenessExpiry (g : StationId)
  /-- SLOT_START (R92). -/
  | slotStart (g : StationId)
  /-- HOLD_TIMER_EXPIRY (R77). -/
  | holdTimerExpiry (c : CannonId)
  /-- ACKNOWLEDGEMENT_TIMER_EXPIRY (R106). -/
  | acknowledgementTimerExpiry (c : CannonId)
  /-- BURST_TIMER_EXPIRY (R107). -/
  | burstTimerExpiry (c : CannonId)
  /-- QUALITY_STALENESS_EXPIRY (R126). -/
  | qualityStalenessExpiry (w : SourceId)
  /-- MACHINE_STALENESS_EXPIRY (R140). -/
  | machineStalenessExpiry (m : MachineId)
  /-- LIVENESS_TIMER_EXPIRY (R160). -/
  | livenessTimerExpiry (p : Port)
  /-- SAVE_COMPLETION (R185). -/
  | saveCompletion
  /-- IDENTIFY (R182). -/
  | identify
  /-- READ_ENTRIES (R183). -/
  | readEntries
  /-- READ_STATE (R183). -/
  | readState
  /-- WRITE_NODE_MAP (R3). -/
  | writeNodeMap
  /-- WRITE_ZONE (R40). -/
  | writeZone
  /-- WRITE_PROFILE (R41). -/
  | writeProfile
  /-- WRITE_CANNON (R64). -/
  | writeCannon
  /-- WRITE_COVERAGE (R68). -/
  | writeCoverage
  /-- WRITE_PATTERN (R78). -/
  | writePattern
  /-- WRITE_STATION (R91). -/
  | writeStation
  /-- WRITE_SOURCE (R121). -/
  | writeSource
  /-- WRITE_SUBSTITUTION (R167). -/
  | writeSubstitution
  /-- WRITE_SETTINGS (R184). -/
  | writeSettings
  /-- LOAD_FORECAST (R33). -/
  | loadForecast
  /-- START (R171): SET-DISPATCH with verb START. -/
  | start
  /-- WATCH (R172): SET-DISPATCH with verb WATCH. -/
  | watch
  /-- HALT (R172): SET-DISPATCH with verb HALT. -/
  | halt
  /-- RESUME (R172): SET-DISPATCH with verb RESUME. -/
  | resume
  /-- STOP (R174): SET-DISPATCH with verb STOP. -/
  | stop
  /-- SET_CANNON_MODE (R67). -/
  | setCannonMode
  /-- CLEAR_FAULT (R117). -/
  | clearFault
  /-- CLEAR_FLAGS (R162). -/
  | clearFlags
  /-- CLEAR_MACHINE (R141). -/
  | clearMachine
  /-- SAVE (R185). -/
  | save
  /-- RESTART (R186). -/
  | restart
  /-- POWER_FAIL (R185): power to the part fails. -/
  | powerFail
  deriving DecidableEq, Repr

end Sys2Proof
end

