-- ==== Sys2Proof/Decode.lean ====
section
/-! DEFINITION. The command a word spells by the bits of spec/opcode_table.json. No row of the table has bits: the
part's commands are events at its pins, ports and timers and requests in frames, so no word spells one. -/

namespace Sys2Proof

/-- The command the first `nbits` bits of `w` spell: none, since no row of spec/opcode_table.json gives bits. -/
def decodeTableWord (_nbits _w : Nat) : Option Instr := none

end Sys2Proof
end

