-- ==== Sys2Proof/Machine/State.lean ====
section
/-! DEFINITION. Everything the manual gives the part: the configuration tables and settings, the dynamic records of
every block, the ports and queues, and the configuration store; and the state right after a reset. -/

namespace Sys2Proof.Machine

/-! ## Named values. The order of each list is the order of the rule that owns it: it gives the codes of chapter 12. -/

/-- Whether power is applied, the reset pin held, and the store load ended (R169, R187). -/
inductive Phase where
  | unpowered
  | held
  | loading
  | running
  deriving DecidableEq, Repr

/-- The role of a node map entry with the index it carries (R2). -/
inductive NodeRole where
  | none
  | mast (m : MastId)
  | dust (d : DustId)
  | moisture (z : ZoneId)
  | level (w : SourceId)
  | quality (w : SourceId)
  | valve (c : CannonId)
  | pump (g : StationId)
  | machine (m : MachineId)
  | supervisor (i : Fin 2)
  deriving DecidableEq, Repr

/-- A zone's band (R39, R52). -/
inductive Band where
  | calm
  | watch
  | act
  | severe
  deriving DecidableEq, Repr

/-- A cannon's mode (R63). -/
inductive CannonMode where
  | automatic
  | bypass
  | outOfService
  deriving DecidableEq, Repr

/-- A cannon's state (R66). -/
inductive CannonState where
  | unknown
  | idle
  | opening
  | spraying
  | closing
  | stuck
  | fault
  | bypassClosed
  | bypassOpen
  | retired
  deriving DecidableEq, Repr

/-- The class of a request or burst (R73, R97). -/
inductive BurstClass where
  | auto
  | manual
  | fire
  deriving DecidableEq, Repr

/-- The verb of a command to a valve (R104, R192). -/
inductive Verb where
  | openValve
  | closeValve
  deriving DecidableEq, Repr

/-- A station's pump state (R85). -/
inductive PumpState where
  | stopped
  | running
  | tripped
  | unknown
  deriving DecidableEq, Repr

/-- The kind of a source (R120). -/
inductive SourceKind where
  | recycledPond
  | settlingPond
  | tank
  | fresh
  deriving DecidableEq, Repr

/-- The grade of a water parameter, and of a source (R122). -/
inductive Grade where
  | ok
  | marginal
  | reject
  deriving DecidableEq, Repr

/-- The presence of a machine record (R138). -/
inductive Presence where
  | absent
  | present
  | stale
  deriving DecidableEq, Repr

/-- The kind of a machine (R138). -/
inductive MachineKind where
  | stacker
  | reclaimer
  | dozer
  | other
  deriving DecidableEq, Repr

/-- The activity of a machine (R138). -/
inductive Activity where
  | travel
  | stacking
  | reclaiming
  | parked
  deriving DecidableEq, Repr

/-- The dispatch mode (R170). -/
inductive DispatchMode where
  | off
  | run
  | watch
  | halt
  deriving DecidableEq, Repr

/-- The cause of a change of dispatch mode (R170, R196). -/
inductive ModeCause where
  | request
  | wake
  deriving DecidableEq, Repr

/-- The source that sent a port's last frame (R150). -/
inductive Turn where
  | forward
  | insertion
  deriving DecidableEq, Repr

/-- A port error flag (R150, R152, R153). -/
inductive FlagKind where
  | check
  | length
  | header
  | overrun
  deriving DecidableEq, Repr

/-- The reason of a COMMAND-REFUSED notice (R164). -/
inductive RefuseReason where
  | notPermitted
  | malformed
  | wrongMode
  | linkDown
  | cannonState
  | noSubstitute
  | unwired
  | water
  deriving DecidableEq, Repr

/-- The cause of a CANNON-FAULT notice (R196). -/
inductive FaultCause where
  | noOpenAck
  | valveFault
  deriving DecidableEq, Repr

/-- The cause of a STORE-INVALID notice (R187, R196). -/
inductive StoreCause where
  | check
  | content
  deriving DecidableEq, Repr

/-- The status of a reply (R194). -/
inductive Status where
  | done
  | partialDone
  | notPermitted
  | badRequest
  | badTable
  | badIndex
  | badValue
  | conflict
  | inUse
  | busy
  | wrongMode
  deriving DecidableEq, Repr

/-! ## Configuration: the ten tables of WRITE-ENTRIES (R183, R195) -/

/-- A zone entry (R38). -/
structure ZoneEntry where
  enabled : Bool
  primary : MastId
  fallback : Option MastId
  dust : Option DustId
  threshold : Nat
  mref : Nat
  area : Nat
  profile : ProfileId
  sensitive : BitVec 16
  policy : Bool
  watch : Bool
  deriving DecidableEq, Repr

/-- A band profile (R41). -/
structure Profile where
  tw : Nat
  ta : Nat
  ts : Nat
  hysteresis : Nat
  dutyWatch : Nat
  dutyAct : Nat
  dutySevere : Nat
  deriving DecidableEq, Repr

/-- A cannon entry (R63). -/
structure CannonEntry where
  mode : CannonMode
  station : StationId
  flow : Nat
  slotMask : BitVec 20
  refMast : MastId
  holdTime : Nat
  deriving DecidableEq, Repr

/-- A coverage entry (R68). -/
structure Coverage where
  zone : Option ZoneId
  efficiency : Nat
  pattern : PatternId
  cutoff : Nat
  deriving DecidableEq, Repr

/-- A sweep pattern (R78). -/
structure Pattern where
  azStart : Nat
  azStep : Nat
  cols : Nat
  elStart : Nat
  elStep : Nat
  rows : Nat
  deriving DecidableEq, Repr

/-- A station entry (R84). -/
structure StationEntry where
  slotLength : Nat
  limit : Nat
  maxFlow : Nat
  prefs : List SourceId
  deriving DecidableEq, Repr

/-- A source entry (R120). -/
structure SourceEntry where
  kind : SourceKind
  metered : Bool
  floor : Nat
  fireReserve : Nat
  allowance : Nat
  turbMarginal : Nat
  turbReject : Nat
  condMarginal : Nat
  condReject : Nat
  deriving DecidableEq, Repr

/-- A substitution window (R167). -/
structure Window where
  base : CannonId
  limit : CannonId
  target : CannonId
  deriving DecidableEq, Repr

/-- The settings entry (R20, R36, R60, R102, R118, R136, R147, R163, R195). -/
structure Settings where
  gustDecay : Nat
  mastStale : Nat
  dustStale : Nat
  probeStale : Nat
  alertLevels : Vector Nat 12
  ownId : Nat
  lead : Nat
  rainThreshold : Nat
  defaultEvap : Nat
  evalPeriod : Nat
  pumpStale : Nat
  ackTime : Nat
  stuckRetry : Nat
  qualityStale : Nat
  machineStale : Nat
  linkTimeout : Nat
  watchQuiet : Bool
  deriving DecidableEq, Repr

/-- The configuration: every entry of the ten tables. The node map holds node id n at place n − 1; the coverage
entry of cannon c and sector k is at c × 16 + k (R68). -/
structure Tables where
  nodeMap : Vector NodeRole 239
  zones : Vector ZoneEntry 32
  profiles : Vector Profile 4
  cannons : Vector CannonEntry 48
  coverage : Vector Coverage 768
  patterns : Vector Pattern 8
  stations : Vector StationEntry 4
  sources : Vector SourceEntry 4
  windows : Vector Window 2
  settings : Settings
  deriving DecidableEq, Repr

/-! ## The records of the sensing unit, the forecast unit and the risk evaluator -/

/-- A mast record (R12). A timer is none while stopped, else the seconds it still has to run (log entry 2). -/
structure Mast where
  acc : Nat
  gust : Nat
  sector : Sector
  pendingSector : Option Sector
  count : Nat
  fresh : Bool
  timer : Option Nat
  deriving DecidableEq, Repr

/-- A dust monitor record (R17). -/
structure Dust where
  acc : Nat
  fresh : Bool
  timer : Option Nat
  deriving DecidableEq, Repr

/-- A moisture probe record (R19). -/
structure Probe where
  value : Nat
  fresh : Bool
  timer : Option Nat
  deriving DecidableEq, Repr

/-- The time state, the yard clock and the uptime count (R23). -/
structure Clock where
  timeSet : Bool
  day : Nat
  second : Nat
  upDay : Nat
  upSecond : Nat
  deriving DecidableEq, Repr

/-- A forecast slot (R29). -/
structure ForecastSlot where
  valid : Bool
  hour : Nat
  mean : Nat
  gust : Nat
  sector : Sector
  rain : Nat
  evap : Nat
  deriving DecidableEq, Repr

/-- A running evaluation timer: the seconds left, and the period it was started with, which R44 uses. -/
structure EvalTimer where
  remaining : Nat
  period : Nat
  deriving DecidableEq, Repr

/-- The dynamic part of a zone record (R39). -/
structure Zone where
  risk : Nat
  band : Band
  mest : Nat
  remainder : Nat
  blind : Bool
  forecastOnly : Bool
  uplift : Bool
  sectorUsed : Sector
  timer : Option EvalTimer
  deriving DecidableEq, Repr

/-! ## The records of the cannon, dispatch and water units and the machine table -/

/-- A request (R73). -/
inductive CannonRequest where
  | auto (priority : Nat) (zone : ZoneId)
  | manual (priority duration azimuth elevation : Nat)
  | fire (priority duration azimuth elevation : Nat)
  deriving DecidableEq, Repr

/-- A cannon's current target (R69). -/
structure Target where
  zone : Option ZoneId
  efficiency : Nat
  pattern : PatternId
  deriving DecidableEq, Repr

/-- A burst record (R97, R103). `grantClass` is the class at grant, which decides the aim of the burst's OPEN (R80,
R105) when a conversion has changed `cls` before it is sent; the manual implies it and does not list it. -/
structure Burst where
  cls : BurstClass
  grantClass : BurstClass
  priority : Nat
  credited : Option ZoneId
  efficiency : Nat
  source : SourceId
  planned : Nat
  duration : Nat
  azimuth : Nat
  elevation : Nat
  openSent : Bool
  counting : Bool
  openSeconds : Nat
  deriving DecidableEq, Repr

/-- The dynamic part of a cannon record (R65, R103, R111). `station` is the station the cannon belongs to: a written
station holds from a slot start of the new station on (R64; log entry 23). -/
structure Cannon where
  state : CannonState
  station : StationId
  request : Option CannonRequest
  owed : Nat
  target : Target
  column : Nat
  row : Nat
  holdTimer : Option Nat
  burst : Option Burst
  burstTimer : Option Nat
  ackTimer : Option Nat
  faultPending : Bool
  openMark : Bool
  bypassSeconds : Nat
  deriving DecidableEq, Repr

/-- The dynamic part of a station record (R85). Whether the station is available is read from `pump` (R87). A pair
of the preemption list is the FIRE cannon and the closing cannon. -/
structure Station where
  slot : Fin 20
  slotTimer : Option Nat
  pointer : CannonId
  inUse : Nat
  inUseFlow : Nat
  pump : PumpState
  pressure : Nat
  pumpTimer : Option Nat
  waiting : List CannonId
  preempt : List (CannonId × CannonId)
  deriving DecidableEq, Repr

/-- The dynamic part of a source record (R122); the estimate is none while UNKNOWN. -/
structure Source where
  estimate : Option Nat
  committed : Nat
  dayDraw : Nat
  turbidity : Grade
  conductivity : Grade
  stale : Bool
  timer : Option Nat
  quality : Grade
  deriving DecidableEq, Repr

/-- A machine record (R138). -/
structure MachineRecord where
  presence : Presence
  kind : MachineKind
  activity : Activity
  zone : Option ZoneId
  timer : Option Nat
  deriving DecidableEq, Repr

/-- An entry of the command queue (R104). -/
structure Command where
  cannon : CannonId
  verb : Verb
  deriving DecidableEq, Repr

/-! ## The through path and the management unit -/

/-- The four error flags of a port (R150). -/
structure PortFlags where
  check : Bool
  length : Bool
  header : Bool
  overrun : Bool
  deriving DecidableEq, Repr

/-- The state of a port (R150); `sending` is the frame its transmitter is sending (R158), none while it is idle. -/
structure PortState where
  buffer : List Frame
  flags : PortFlags
  up : Bool
  liveness : Option Nat
  turn : Turn
  sending : Option Frame
  deriving DecidableEq, Repr

/-- A MANAGE frame in the request queue: its source and its payload (R179, R194). -/
structure MgmtRequest where
  source : Byte
  payload : List Byte
  deriving DecidableEq, Repr

/-- A REPLY frame in the reply queue (R181, R194). -/
structure Reply where
  dest : Byte
  code : Byte
  tag : Byte
  status : Status
  body : List Byte
  deriving DecidableEq, Repr

/-- The stamp of a notice, with its time-set flag (R28). -/
structure Stamp where
  day : Nat
  second : Nat
  timeSet : Bool
  deriving DecidableEq, Repr

/-- A notice as a block raises it: its kind, its subject and its value (R196). -/
inductive Report where
  | bandChange (z : ZoneId) (band : Band) (risk : Nat)
  | zoneBlind (z : ZoneId) (entering : Bool)
  | mastStale (m : MastId) (mean : Nat)
  | machineStale (m : MachineId) (zone : Option ZoneId) (kind : MachineKind) (activity : Activity)
  | cannonFault (c : CannonId) (cause : FaultCause)
  | cannonStuck (c : CannonId)
  | unexpectedClose (c : CannonId) (draw : Nat)
  | uncommandedOpen (c : CannonId)
  | commandRefused (subject : CannonId) (reason : RefuseReason) (verb : Option Verb) (fire : Bool)
      (addressed : CannonId) (substitute : Option CannonId)
  | sourceLow (w : SourceId) (kind : SourceKind) (estimate : Nat)
  | sourceQuality (w : SourceId) (quality : Grade) (stale : Bool) (kind : SourceKind)
  | stationDown (g : StationId) (pump : PumpState)
  | wake (z : ZoneId) (band : Band)
  | fieldDown (madeUnknown : Nat)
  | fieldUp (closes : Nat)
  | portError (p : Port) (flag : FlagKind) (all : PortFlags)
  | dispatchMode (new previous : DispatchMode) (cause : ModeCause)
  | storeInvalid (cause : StoreCause)
  deriving DecidableEq, Repr

/-- An entry of the notice queue (R188). -/
structure NoticeEntry where
  report : Report
  stamp : Stamp
  deriving DecidableEq, Repr

/-- The notice queue with its overflow marker, which holds the marker's stamp while set (R188). -/
structure NoticeQueue where
  entries : List NoticeEntry
  marker : Option Stamp
  lost : Nat
  deriving DecidableEq, Repr

/-- The non-volatile configuration store (R185, R187): `whole` is false from the moment a SAVE makes the store
invalid until one completes; `check` is the stored CRC-32 over the format code and the content. -/
structure Store where
  whole : Bool
  format : Byte
  content : Tables
  check : BitVec 32
  deriving DecidableEq, Repr

/-- A SAVE that is running (R185): the requester of its reply, and the configuration as it stood at the taking. -/
structure SaveJob where
  source : Byte
  tag : Byte
  content : Tables
  deriving DecidableEq, Repr

/-- The last change of the dispatch mode since a reset (R178). -/
structure ModeChange where
  previous : DispatchMode
  cause : ModeCause
  deriving DecidableEq, Repr

/-! ## The state of the part -/

/-- Everything the manual gives the part, block by block, and four fields of the model's own: `pending`, the commands
waiting to be taken; `dueCapacity`, the capacity events of R90 still to be taken within the step in hand, empty
between steps (log entry 8); `choices` and `choiceCount`, from which the free choices are read (log entry 20). -/
structure State where
  phase : Phase
  straps : BitVec 4
  cfg : Tables
  masts : Vector Mast 8
  dusts : Vector Dust 12
  probes : Vector Probe 32
  clock : Clock
  ring : Vector ForecastSlot 48
  zones : Vector Zone 32
  cannons : Vector Cannon 48
  stations : Vector Station 4
  sources : Vector Source 4
  machines : Vector MachineRecord 8
  machineCounts : Vector Nat 32
  mode : DispatchMode
  lastChange : Option ModeChange
  commands : List Command
  controlPort : PortState
  fieldPort : PortState
  requests : List MgmtRequest
  replies : List Reply
  notices : NoticeQueue
  store : Store
  saving : Option SaveJob
  storeFound : Bool
  dueCapacity : List StationId
  choices : List Nat
  choiceCount : Nat
  pending : List Instr
  deriving DecidableEq, Repr

/-- Why a step may stop with a fault. It has no constructor: the part never stops, since every row of the table
has an effect in every state. -/
inductive Fault : Type
  deriving DecidableEq, Repr

/-- Why a step may be refused. -/
inductive Refusal where
  /-- Raised by `exec` alone, for a row whose meaning is not written (safe: the model claims nothing of it). No arm
  of `exec` raises it. -/
  | notModelled (mnemonic : String)
  deriving DecidableEq, Repr

/-! ## Default entries (R38, R41, R63, R68, R78, R84, R120, R167) and settings -/

def ZoneEntry.default : ZoneEntry :=
  { enabled := false, primary := 0, fallback := none, dust := none, threshold := 100, mref := 80, area := 1000,
    profile := 0, sensitive := 0, policy := false, watch := false }

def Profile.default : Profile :=
  { tw := 100, ta := 200, ts := 400, hysteresis := 20, dutyWatch := 4, dutyAct := 8, dutySevere := 12 }

def CannonEntry.default : CannonEntry :=
  { mode := .outOfService, station := 0, flow := 1000, slotMask := BitVec.allOnes 20, refMast := 0, holdTime := 300 }

def Coverage.default : Coverage := { zone := none, efficiency := 0, pattern := 0, cutoff := 600 }

def Pattern.default : Pattern := { azStart := 0, azStep := 1, cols := 1, elStart := 30, elStep := 0, rows := 1 }

def StationEntry.default : StationEntry := { slotLength := 30, limit := 2, maxFlow := 6000, prefs := [0] }

def SourceEntry.default : SourceEntry :=
  { kind := .tank, metered := true, floor := 0, fireReserve := 0, allowance := 0, turbMarginal := 50,
    turbReject := 100, condMarginal := 2000, condReject := 4000 }

def Window.default : Window := { base := 1, limit := 0, target := 0 }

/-- The default settings; the own id is 224 plus the strap value (R5, R20). -/
def Settings.default (straps : BitVec 4) : Settings :=
  { gustDecay := 2, mastStale := 20, dustStale := 300, probeStale := 900, alertLevels := Vector.replicate 12 150,
    ownId := 224 + straps.toNat, lead := 1, rainThreshold := 0, defaultEvap := 3, evalPeriod := 30, pumpStale := 30,
    ackTime := 3, stuckRetry := 10, qualityStale := 600, machineStale := 60, linkTimeout := 5, watchQuiet := false }

/-- Every table at its default entry, and the node map empty (R2, R187). -/
def Tables.default (straps : BitVec 4) : Tables :=
  { nodeMap := Vector.replicate 239 .none, zones := Vector.replicate 32 ZoneEntry.default,
    profiles := Vector.replicate 4 Profile.default, cannons := Vector.replicate 48 CannonEntry.default,
    coverage := Vector.replicate 768 Coverage.default, patterns := Vector.replicate 8 Pattern.default,
    stations := Vector.replicate 4 StationEntry.default, sources := Vector.replicate 4 SourceEntry.default,
    windows := Vector.replicate 2 Window.default, settings := Settings.default straps }

/-! ## Reset values of the dynamic records -/

/-- R12. -/
def Mast.initial : Mast :=
  { acc := 0, gust := 0, sector := 0, pendingSector := none, count := 0, fresh := false, timer := none }

/-- R17. -/
def Dust.initial : Dust := { acc := 0, fresh := false, timer := none }

/-- R19. -/
def Probe.initial : Probe := { value := 0, fresh := false, timer := none }

/-- R23. -/
def Clock.initial : Clock := { timeSet := false, day := 0, second := 0, upDay := 0, upSecond := 0 }

/-- R29. -/
def ForecastSlot.initial : ForecastSlot :=
  { valid := false, hour := 0, mean := 0, gust := 0, sector := 0, rain := 0, evap := 0 }

/-- R39: the moisture estimate is floor(Mref / 2) of the entry in force; the timer starts under R42. -/
def Zone.initial (e : ZoneEntry) : Zone :=
  { risk := 0, band := .calm, mest := e.mref / 2, remainder := 0, blind := false, forecastOnly := false,
    uplift := false, sectorUsed := 0, timer := none }

/-- The state each mode takes after any reset (R66). -/
def CannonMode.resetState : CannonMode → CannonState
  | .automatic => .unknown
  | .bypass => .bypassClosed
  | .outOfService => .retired

/-- R65, R103: every cannon has the open-sent mark set after any reset, and belongs to its entry's station. -/
def Cannon.initial (state : CannonState) (station : StationId) (target : Target) : Cannon :=
  { state := state, station := station, request := none, owed := 0, target := target, column := 0, row := 0,
    holdTimer := none, burst := none, burstTimer := none, ackTimer := none, faultPending := false, openMark := true, bypassSeconds := 0 }

/-- R85. -/
def Station.initial : Station :=
  { slot := 19, slotTimer := none, pointer := 0, inUse := 0, inUseFlow := 0, pump := .unknown, pressure := 0,
    pumpTimer := none, waiting := [], preempt := [] }

/-- R122; the quality is OK where no QUALITY node is mapped and MARGINAL otherwise. -/
def Source.initial (mapped : Bool) : Source :=
  { estimate := none, committed := 0, dayDraw := 0, turbidity := .ok, conductivity := .ok, stale := true,
    timer := none, quality := if mapped then .marginal else .ok }

/-- R138. -/
def MachineRecord.initial : MachineRecord :=
  { presence := .absent, kind := .other, activity := .parked, zone := none, timer := none }

/-- R150. -/
def PortFlags.clear : PortFlags := { check := false, length := false, header := false, overrun := false }

/-- R150. -/
def PortState.initial : PortState :=
  { buffer := [], flags := PortFlags.clear, up := false, liveness := none, turn := .forward, sending := none }

/-- R188. -/
def NoticeQueue.initial : NoticeQueue := { entries := [], marker := none, lost := 0 }

/-- A store that no SAVE has written (log entry 5). -/
def Store.blank : Store := { whole := false, format := 0, content := Tables.default 0, check := 0 }

/-- The state from reset release until the store load ends, for a strap value and a store: every block at the value
its chapter gives after power-on or pin reset, the tables and settings at their defaults (R2, R12, R17, R19, R23,
R29, R38, R39, R63, R65, R85, R122, R138, R150, R170, R179, R187, R188). -/
def State.afterRelease (straps : BitVec 4) (store : Store) : State :=
  { phase := .loading, straps := straps, cfg := Tables.default straps,
    masts := Vector.replicate 8 Mast.initial, dusts := Vector.replicate 12 Dust.initial,
    probes := Vector.replicate 32 Probe.initial, clock := Clock.initial,
    ring := Vector.replicate 48 ForecastSlot.initial,
    zones := Vector.replicate 32 (Zone.initial ZoneEntry.default),
    cannons := Vector.replicate 48 (Cannon.initial .retired 0 { zone := none, efficiency := 0, pattern := 0 }),
    stations := Vector.replicate 4 Station.initial, sources := Vector.replicate 4 (Source.initial false),
    machines := Vector.replicate 8 MachineRecord.initial, machineCounts := Vector.replicate 32 0,
    mode := .off, lastChange := none, commands := [], controlPort := PortState.initial,
    fieldPort := PortState.initial, requests := [], replies := [], notices := NoticeQueue.initial,
    store := store, saving := none, storeFound := false,
    dueCapacity := [], choices := [], choiceCount := 0, pending := [] }

/-- The part right after reset release at its first power-on: straps low, a store never written (log entry 5). -/
def State.reset : State := State.afterRelease 0 Store.blank

end Sys2Proof.Machine
end

