-- ==== Sys2Proof/Machine/Ops.lean ====
section
/-! DEFINITION. The named operations over the state's records and queues: reading and updating one record, bytes and
checks of frames, timers, the free choices, the node map's lookups, notices, the command queue, and the places at a
station. -/

namespace Sys2Proof.Machine

/-! ## One record of a table -/

/-- `v` with its entry `i` changed by `f`. -/
def updAt {α : Type} {n : Nat} (v : Vector α n) (i : Fin n) (f : α → α) : Vector α n :=
  v.set i.val (f v[i]) i.isLt

def State.mast (s : State) (m : MastId) : Mast := s.masts[m]
def State.dust (s : State) (d : DustId) : Dust := s.dusts[d]
def State.probe (s : State) (z : ZoneId) : Probe := s.probes[z]
def State.slotAt (s : State) (i : Fin 48) : ForecastSlot := s.ring[i]
def State.zone (s : State) (z : ZoneId) : Zone := s.zones[z]
def State.cannon (s : State) (c : CannonId) : Cannon := s.cannons[c]
def State.station (s : State) (g : StationId) : Station := s.stations[g]
def State.source (s : State) (w : SourceId) : Source := s.sources[w]
def State.machine (s : State) (m : MachineId) : MachineRecord := s.machines[m]
def State.machineCount (s : State) (z : ZoneId) : Nat := s.machineCounts[z]
def State.zoneEntry (s : State) (z : ZoneId) : ZoneEntry := s.cfg.zones[z]
def State.profile (s : State) (p : ProfileId) : Profile := s.cfg.profiles[p]
def State.cannonEntry (s : State) (c : CannonId) : CannonEntry := s.cfg.cannons[c]
def State.patternEntry (s : State) (p : PatternId) : Pattern := s.cfg.patterns[p]
def State.stationEntry (s : State) (g : StationId) : StationEntry := s.cfg.stations[g]
def State.sourceEntry (s : State) (w : SourceId) : SourceEntry := s.cfg.sources[w]
def State.settings (s : State) : Settings := s.cfg.settings

/-- The place of the coverage entry of cannon `c` and sector `k` (R68). -/
def coverIndex (c : CannonId) (k : Sector) : Fin 768 := ⟨c.val * 16 + k.val, by omega⟩

def State.coverage (s : State) (c : CannonId) (k : Sector) : Coverage := s.cfg.coverage[coverIndex c k]

/-- The cannon whose coverage entry is number `i` (R68). -/
def coverCannon (i : Fin 768) : CannonId := ⟨i.val / 16, by omega⟩

def State.updMast (s : State) (m : MastId) (f : Mast → Mast) : State := { s with masts := updAt s.masts m f }
def State.updDust (s : State) (d : DustId) (f : Dust → Dust) : State := { s with dusts := updAt s.dusts d f }
def State.updProbe (s : State) (z : ZoneId) (f : Probe → Probe) : State := { s with probes := updAt s.probes z f }
def State.updSlot (s : State) (i : Fin 48) (f : ForecastSlot → ForecastSlot) : State :=
  { s with ring := updAt s.ring i f }
def State.updZone (s : State) (z : ZoneId) (f : Zone → Zone) : State := { s with zones := updAt s.zones z f }
def State.updCannon (s : State) (c : CannonId) (f : Cannon → Cannon) : State :=
  { s with cannons := updAt s.cannons c f }
def State.updStation (s : State) (g : StationId) (f : Station → Station) : State :=
  { s with stations := updAt s.stations g f }
def State.updSource (s : State) (w : SourceId) (f : Source → Source) : State :=
  { s with sources := updAt s.sources w f }
def State.updMachine (s : State) (m : MachineId) (f : MachineRecord → MachineRecord) : State :=
  { s with machines := updAt s.machines m f }
def State.updCount (s : State) (z : ZoneId) (f : Nat → Nat) : State :=
  { s with machineCounts := updAt s.machineCounts z f }
def State.updCfg (s : State) (f : Tables → Tables) : State := { s with cfg := f s.cfg }

def State.port (s : State) : Port → PortState
  | .control => s.controlPort
  | .field => s.fieldPort

def State.updPort (s : State) (p : Port) (f : PortState → PortState) : State :=
  match p with
  | .control => { s with controlPort := f s.controlPort }
  | .field => { s with fieldPort := f s.fieldPort }

def otherPort : Port → Port
  | .control => .field
  | .field => .control

/-- `f` for each cannon, in ascending cannon number. -/
def eachCannon (f : CannonId → State → State) (s : State) : State :=
  (List.finRange 48).foldl (fun s c => f c s) s

/-! ## Numbers (R1) -/

/-- A clamp to a range (R1). -/
def clamp (lo hi v : Nat) : Nat := min hi (max lo v)

/-- The clamp of a signed sample value to 0 to `hi` (R8). -/
def clampInt (hi : Nat) (v : Int) : Nat := min hi v.toNat

/-! ## Bytes: multi-byte fields go high byte first (section 4.4) -/

def byte (n : Nat) : Byte := BitVec.ofNat 8 n
def be16 (n : Nat) : List Byte := [byte (n / 256), byte n]
def be32 (n : Nat) : List Byte := [byte (n / 16777216), byte (n / 65536), byte (n / 256), byte n]
def nat16 (a b : Byte) : Nat := a.toNat * 256 + b.toNat
def nat32 (a b c d : Byte) : Nat := ((a.toNat * 256 + b.toNat) * 256 + c.toNat) * 256 + d.toNat

/-- A 32-bit sample value as a signed two's-complement number (R191). -/
def int32 (a b c d : Byte) : Int :=
  let n := nat32 a b c d
  if n < 2147483648 then (n : Int) else (n : Int) - 4294967296

/-! ## Checks of frames and of the store -/

/-- One bit of the CRC-16 of R152: polynomial x^16 + x^12 + x^5 + 1, high bit first. -/
def crc16Bit (r : BitVec 16) : BitVec 16 :=
  if r.msb then (r <<< 1) ^^^ 0x1021#16 else r <<< 1

/-- One byte taken into the CRC-16 register (R152). -/
def crc16Byte (r : BitVec 16) (b : Byte) : BitVec 16 :=
  let r := r ^^^ (b.setWidth 16 <<< 8)
  crc16Bit (crc16Bit (crc16Bit (crc16Bit (crc16Bit (crc16Bit (crc16Bit (crc16Bit r)))))))

/-- The check of a frame over `bytes`, from a register of all ones (R152). -/
def crc16 (bytes : List Byte) : BitVec 16 := bytes.foldl crc16Byte (BitVec.allOnes 16)

/-- One bit of the CRC-32 of R185, with bytes taken low bit first (so the polynomial stands reflected). -/
def crc32Bit (r : BitVec 32) : BitVec 32 :=
  if r.getLsbD 0 then (r >>> 1) ^^^ 0xEDB88320#32 else r >>> 1

/-- One byte taken into the CRC-32 register (R185). -/
def crc32Byte (r : BitVec 32) (b : Byte) : BitVec 32 :=
  let r := r ^^^ b.setWidth 32
  crc32Bit (crc32Bit (crc32Bit (crc32Bit (crc32Bit (crc32Bit (crc32Bit (crc32Bit r)))))))

/-- The CRC-32 of the store, from a register of all ones, inverted at the end (R185). -/
def crc32 (bytes : List Byte) : BitVec 32 := ~~~ (bytes.foldl crc32Byte (BitVec.allOnes 32))

/-- A frame with its header and check (R190, R191). -/
def buildFrame (dest src kind : Byte) (payload : List Byte) : Frame :=
  let body := dest :: src :: kind :: byte payload.length :: payload
  body ++ be16 (crc16 body).toNat

/-! ## Timers -/

/-- One second taken off a running timer (R24; log entry 2). -/
def tick (t : Option Nat) : Option Nat := t.map (· - 1)

/-! ## The free choices (log entry 20) -/

/-- The next free choice: the head of `choices` while it holds one, and the opaque constant of Config after that. -/
def State.nextChoice (s : State) : Nat :=
  match s.choices with
  | c :: _ => c
  | [] => Config.freeChoice s.choiceCount

/-- The state after one free choice is made. -/
def State.choose (s : State) : State :=
  { s with choices := s.choices.tail, choiceCount := s.choiceCount + 1 }

/-- `l` in a free order: each next member is chosen freely among those left. `n` bounds the choices. -/
def shuffleAux {α : Type} : Nat → List α → State → List α × State
  | 0, l, s => (l, s)
  | _ + 1, [], s => ([], s)
  | _ + 1, [x], s => ([x], s)
  | n + 1, x :: y :: l, s =>
    let j : Fin (l.length + 2) := ⟨s.nextChoice % (l.length + 2), Nat.mod_lt _ (by omega)⟩
    let rest := shuffleAux n ((x :: y :: l).eraseIdx j.val) s.choose
    ((x :: y :: l)[j.val]'(j.isLt) :: rest.1, rest.2)

/-- `l` in a free order; a list of at most one member takes no choice. -/
def shuffle {α : Type} (l : List α) (s : State) : List α × State := shuffleAux l.length l s

/-! ## The node map (R2) -/

/-- The role of a node id; node id 0 and node ids 240 to 255 have no entry (section 1.1). -/
def State.roleOf (s : State) (node : Byte) : NodeRole :=
  if h : 1 ≤ node.toNat ∧ node.toNat ≤ 239 then s.cfg.nodeMap[node.toNat - 1]'(by omega) else .none

/-- The node id of the entry that holds a role and index; at most one does (R3). -/
def State.nodeOf (s : State) (r : NodeRole) : Option Byte :=
  (s.cfg.nodeMap.toList.findIdx? (· = r)).map fun i => byte (i + 1)

/-- Some entry holds the role and index. -/
def State.mapped (s : State) (r : NodeRole) : Bool := decide (r ∈ s.cfg.nodeMap.toList)

/-- The cannon appears in a VALVE entry; otherwise it is UNWIRED (R66). -/
def State.wired (s : State) (c : CannonId) : Bool := s.mapped (.valve c)

/-- Whether the node map holds a SUPERVISOR entry (R180). -/
def State.anySupervisor (s : State) : Bool := s.mapped (.supervisor 0) || s.mapped (.supervisor 1)

/-- Whether the node is mapped SUPERVISOR (R164, R180). -/
def State.isSupervisor (s : State) (node : Byte) : Bool :=
  decide (s.roleOf node = .supervisor 0 ∨ s.roleOf node = .supervisor 1)

/-- The destination of notices: SUPERVISOR 0, or SUPERVISOR 1 where there is no 0 (R189). -/
def State.noticeDest (s : State) : Option Byte :=
  (s.nodeOf (.supervisor 0)).or (s.nodeOf (.supervisor 1))

/-- The part's own node id (R5). -/
def State.ownId (s : State) : Byte := byte s.settings.ownId

/-! ## Notices (R28, R188) -/

/-- The stamp of a notice raised now (R28). -/
def State.stamp (s : State) : Stamp :=
  if s.clock.timeSet then { day := s.clock.day, second := s.clock.second, timeSet := true }
  else { day := s.clock.upDay, second := s.clock.upSecond, timeSet := false }

/-- The code of a notice's kind (R196). -/
def Report.kind : Report → Nat
  | .bandChange .. => 1
  | .zoneBlind .. => 2
  | .mastStale .. => 3
  | .machineStale .. => 4
  | .cannonFault .. => 5
  | .cannonStuck .. => 6
  | .unexpectedClose .. => 7
  | .uncommandedOpen .. => 8
  | .commandRefused .. => 9
  | .sourceLow .. => 10
  | .sourceQuality .. => 11
  | .stationDown .. => 12
  | .wake .. => 13
  | .fieldDown .. => 14
  | .fieldUp .. => 15
  | .portError .. => 16
  | .dispatchMode .. => 17
  | .storeInvalid .. => 18

/-- The number of a port in requests and notices (R149). -/
def portNumber : Port → Nat
  | .control => 0
  | .field => 1

/-- A notice's subject, as the rule that raises it names it. -/
def Report.subject : Report → Nat
  | .bandChange z _ _ => z.val
  | .zoneBlind z _ => z.val
  | .mastStale m _ => m.val
  | .machineStale m _ _ _ => m.val
  | .cannonFault c _ => c.val
  | .cannonStuck c => c.val
  | .unexpectedClose c _ => c.val
  | .uncommandedOpen c => c.val
  | .commandRefused c _ _ _ _ _ => c.val
  | .sourceLow w _ _ => w.val
  | .sourceQuality w _ _ _ => w.val
  | .stationDown g _ => g.val
  | .wake z _ => z.val
  | .fieldDown _ => 1
  | .fieldUp _ => 1
  | .portError p _ _ => portNumber p
  | .dispatchMode _ _ _ => 0
  | .storeInvalid _ => 0

/-- Two notices coalesce when their kind and subject are the same (R188). -/
def Report.coalesces (a b : Report) : Bool := a.kind == b.kind && a.subject == b.subject

/-- A notice placed in the queue (R188): an entry of the same kind and subject is updated in place; otherwise the
notice joins the tail, or is lost when the queue is full. -/
def NoticeQueue.place (q : NoticeQueue) (r : Report) (t : Stamp) : NoticeQueue :=
  if q.entries.any (fun e => e.report.coalesces r) then
    { q with entries := q.entries.map fun e => if e.report.coalesces r then { report := r, stamp := t } else e }
  else if q.entries.length < 32 then
    { q with entries := q.entries ++ [{ report := r, stamp := t }] }
  else
    { q with marker := some (q.marker.getD t), lost := min 65535 (q.lost + 1) }

/-- A notice is raised by a block (R188). -/
def raise (r : Report) (s : State) : State := { s with notices := s.notices.place r s.stamp }

/-- Notices raised together are placed one after the other, in a free order (R188; log entry 9). -/
def raiseAll (rs : List Report) (s : State) : State :=
  let o := shuffle rs s
  o.1.foldl (fun s r => raise r s) o.2

/-! ## The command queue (R104) -/

/-- The verb of the cannon's queued command, or none. -/
def State.queuedVerb (s : State) (c : CannonId) : Option Verb :=
  (s.commands.find? (fun q => q.cannon = c)).map (·.verb)

/-- The cannon has a queued command. -/
def State.hasCommand (s : State) (c : CannonId) : Bool := s.commands.any (fun q => q.cannon = c)

/-- The cannon's OPEN is still queued. -/
def State.openQueued (s : State) (c : CannonId) : Bool :=
  s.commands.any (fun q => q.cannon = c ∧ q.verb = .openValve)

/-- A CLOSE is placed at the tail; a cannon whose command is already queued gets no second one (R104). -/
def queueClose (c : CannonId) (s : State) : State :=
  if s.hasCommand c then s else { s with commands := s.commands ++ [{ cannon := c, verb := .closeValve }] }

/-- An OPEN is placed at the tail by a grant (R95, R104). -/
def queueOpen (c : CannonId) (s : State) : State :=
  { s with commands := s.commands ++ [{ cannon := c, verb := .openValve }] }

/-- The cannon's OPEN leaves the queue unsent; the entries behind it keep their order (R104). -/
def removeOpen (c : CannonId) (s : State) : State :=
  { s with commands := s.commands.filter fun q => ¬ (q.cannon = c ∧ q.verb = .openValve) }

/-! ## Places at a station (R88) -/

/-- The states in which a cannon holds a place at its station (R66, R88). -/
def CannonState.holdsPlace : CannonState → Bool
  | .opening | .spraying | .closing | .stuck => true
  | .unknown | .idle | .fault | .bypassClosed | .bypassOpen | .retired => false

/-- The station the cannon belongs to (R64). -/
def State.stationOf (s : State) (c : CannonId) : StationId := (s.cannon c).station

/-- A cannon enters the four states: it takes a place at its station. -/
def takePlace (c : CannonId) (s : State) : State :=
  s.updStation (s.stationOf c) fun g => { g with inUse := g.inUse + 1, inUseFlow := g.inUseFlow + (s.cannonEntry c).flow }

/-- A cannon leaves the four states: it gives its place back. -/
def leavePlace (c : CannonId) (s : State) : State :=
  s.updStation (s.stationOf c) fun g => { g with inUse := g.inUse - 1, inUseFlow := g.inUseFlow - (s.cannonEntry c).flow }

/-- The cannon is on a close waiting list (R89). -/
def State.closeWaiting (s : State) (c : CannonId) : Bool := s.stations.toList.any fun g => decide (c ∈ g.waiting)

/-- `f` for each station. -/
def State.mapStations (s : State) (f : Station → Station) : State := { s with stations := s.stations.map f }

/-- The cannon leaves the close waiting lists (R89). -/
def stopWaiting (c : CannonId) (s : State) : State :=
  s.mapStations fun g => { g with waiting := g.waiting.filter (· ≠ c) }

/-- The preemption entries that name `c` as closing cannon are removed (R101). -/
def endClosing (c : CannonId) (s : State) : State :=
  s.mapStations fun g => { g with preempt := g.preempt.filter (fun p => p.2 ≠ c) }

/-- The preemption entries of the FIRE cannon `c` are removed: its request was granted or ended (R101). -/
def endPreemption (c : CannonId) (s : State) : State :=
  s.mapStations fun g => { g with preempt := g.preempt.filter (fun p => p.1 ≠ c) }

/-- The FIRE cannon has a preemption outstanding (R100). -/
def State.preempting (s : State) (c : CannonId) : Bool := s.stations.toList.any fun g => g.preempt.any (fun p => p.1 = c)

/-- A capacity event of R90 arises at a station; it is taken after the event in hand (log entry 8). -/
def capacityDue (g : StationId) (s : State) : State := { s with dueCapacity := s.dueCapacity ++ [g] }

/-! ## Requests (R73) -/

def CannonRequest.cls : CannonRequest → BurstClass
  | .auto .. => .auto
  | .manual .. => .manual
  | .fire .. => .fire

def CannonRequest.priority : CannonRequest → Nat
  | .auto p _ => p
  | .manual p _ _ _ => p
  | .fire p _ _ _ => p

/-- The cannon holds a request of this class. -/
def Cannon.holds (k : Cannon) (cls : BurstClass) : Bool :=
  match k.request with
  | some r => decide (r.cls = cls)
  | none => false

/-- The cannon's AUTO request is withdrawn and its owed count becomes 0 (R71, R75); other requests are kept. -/
def withdrawAuto (c : CannonId) (s : State) : State :=
  s.updCannon c fun k => if k.holds .auto then { k with request := none, owed := 0 } else k

/-- The cannon's request of whatever class is removed, its owed count becomes 0, and a preemption it had outstanding
ends (R75, R101). -/
def dropRequest (c : CannonId) (s : State) : State :=
  endPreemption c (s.updCannon c fun k => { k with request := none, owed := 0 })

end Sys2Proof.Machine
end

