-- ==== Sys2Proof/Machine/Flags.lean ====
section
/-! DEFINITION. The flags and conditions the part computes: error flags of a port, bands, water grades, the current
and lead forecast slots, rain deferral, exclusion, and availability. -/

namespace Sys2Proof.Machine

/-! ## Error flags of a port (R150, R194) -/

def PortFlags.get (f : PortFlags) : FlagKind → Bool
  | .check => f.check
  | .length => f.length
  | .header => f.header
  | .overrun => f.overrun

def PortFlags.set (f : PortFlags) : FlagKind → PortFlags
  | .check => { f with check := true }
  | .length => { f with length := true }
  | .header => { f with header := true }
  | .overrun => { f with overrun := true }

/-- CHECK 1, LENGTH 2, HEADER 4, OVERRUN 8 (R194). -/
def FlagKind.code : FlagKind → Nat
  | .check => 1
  | .length => 2
  | .header => 4
  | .overrun => 8

/-- A set of flags as one byte (R194). -/
def PortFlags.code (f : PortFlags) : Nat :=
  (if f.check then 1 else 0) + (if f.length then 2 else 0) + (if f.header then 4 else 0) + (if f.overrun then 8 else 0)

/-- The flags left when those of the byte `named` are cleared (R162). -/
def PortFlags.without (f : PortFlags) (named : Byte) : PortFlags :=
  { check := f.check && !named.getLsbD 0, length := f.length && !named.getLsbD 1,
    header := f.header && !named.getLsbD 2, overrun := f.overrun && !named.getLsbD 3 }

/-! ## Bands (R52) -/

/-- CALM, WATCH, ACT, SEVERE in order (R52). -/
def Band.rank : Band → Nat
  | .calm => 0
  | .watch => 1
  | .act => 2
  | .severe => 3

/-- The threshold of a band: 0 for CALM (R41, R52). -/
def Profile.threshold (p : Profile) : Band → Nat
  | .calm => 0
  | .watch => p.tw
  | .act => p.ta
  | .severe => p.ts

/-- The highest band whose threshold `r` reaches (R52). -/
def Profile.reached (p : Profile) (r : Nat) : Band :=
  if p.ts ≤ r then .severe else if p.ta ≤ r then .act else if p.tw ≤ r then .watch else .calm

/-- `r` holds band `b` within the hysteresis: R ≥ T_B − H (R52). -/
def Profile.holdsBand (p : Profile) (r : Nat) (b : Band) : Bool := decide (p.threshold b ≤ r + p.hysteresis)

/-- The highest band below `b` that `r` holds within the hysteresis (R52). -/
def Profile.dropped (p : Profile) (r : Nat) : Band → Band
  | .severe => if p.holdsBand r .act then .act else if p.holdsBand r .watch then .watch else .calm
  | .act => if p.holdsBand r .watch then .watch else .calm
  | .watch => .calm
  | .calm => .calm

/-- The band a zone moves to from its risk and its band before (R52). -/
def Profile.decideBand (p : Profile) (r : Nat) (b : Band) : Band :=
  if b.rank < (p.reached r).rank then p.reached r
  else if p.holdsBand r b then b
  else p.dropped r b

/-! ## Water grades (R125, R127) -/

/-- The state of a parameter after a reading `v`, for marginal limit `lm` and reject limit `lr` (R125). -/
def Grade.judge (g : Grade) (v lm lr : Nat) : Grade :=
  match g with
  | .ok => if lr < v then .reject else if lm < v then .marginal else .ok
  | .marginal => if lr < v then .reject else if v ≤ lm * 9 / 10 then .ok else .marginal
  | .reject => if v ≤ lr * 9 / 10 then .marginal else .reject

/-- The worse of two grades, ordered OK, MARGINAL, REJECT (R127). -/
def Grade.worse : Grade → Grade → Grade
  | .reject, _ | _, .reject => .reject
  | .marginal, _ | _, .marginal => .marginal
  | .ok, .ok => .ok

/-- The source quality from its mapping, parameter states and stale flag (R127). -/
def Source.derived (w : Source) (mapped : Bool) : Grade :=
  if mapped then
    match w.turbidity.worse w.conductivity with
    | .ok => if w.stale then .marginal else .ok
    | g => g
  else .ok

/-! ## The hour epoch and the ring (R27, R30, R31, R35) -/

/-- Hours of the epoch's cycle (R27). -/
def epochCycle : Nat := 1572864

/-- The hour epoch while the time state is SET, and none while it is UNSET (R27). -/
def State.epoch (s : State) : Option Nat :=
  if s.clock.timeSet then some (s.clock.day * 24 + s.clock.second / 3600) else none

/-- How many hours hour `h` lies after hour `e` on the cycle (R27). -/
def hoursAfter (e h : Nat) : Nat := if e ≤ h then h - e else h + epochCycle - e

/-- The slot index of an hour (R27). -/
def slotIndex (h : Nat) : Fin 48 := ⟨h % 48, Nat.mod_lt _ (by omega)⟩

/-- The slot of hour `h`, when it is valid and holds that hour (R30, R31). -/
def State.slotOf (s : State) (h : Nat) : Option (Fin 48) :=
  if (s.slotAt (slotIndex h)).valid ∧ (s.slotAt (slotIndex h)).hour = h then some (slotIndex h) else none

/-- The index of the current slot (R30). -/
def State.currentSlot (s : State) : Option (Fin 48) :=
  match s.epoch with
  | some e => s.slotOf e
  | none => none

/-- The index of the lead slot (R31). -/
def State.leadSlot (s : State) : Option (Fin 48) :=
  match s.epoch with
  | some e => s.slotOf ((e + s.settings.lead) % epochCycle)
  | none => none

/-- Rain deferral is in force (R35). -/
def State.rainDeferral (s : State) : Bool :=
  match s.leadSlot with
  | some i => decide (s.settings.rainThreshold ≠ 0 ∧ s.settings.rainThreshold ≤ (s.slotAt i).rain)
  | none => false

/-! ## Exclusion and activity (R142, R146) -/

/-- The record takes part in the count of zone `z` (R138, R142). -/
def MachineRecord.countedIn (m : MachineRecord) (z : ZoneId) : Bool :=
  decide (m.presence ≠ .absent ∧ m.zone = some z)

/-- The zone is excluded (R142). -/
def State.excluded (s : State) (z : ZoneId) : Bool := decide (0 < s.machineCount z) && !(s.zoneEntry z).policy

/-- A zone or none is excluded; none never is (R142). -/
def State.excludedOpt (s : State) (z : Option ZoneId) : Bool := z.any s.excluded

/-- A record counted in the zone is STACKING or RECLAIMING (R146). -/
def State.working (s : State) (z : ZoneId) : Bool :=
  s.machines.toList.any fun m => m.countedIn z && decide (m.activity = .stacking ∨ m.activity = .reclaiming)

/-! ## Availability of a station and of the part -/

/-- A station is available while its pump state is RUNNING (R87). -/
def Station.available (g : Station) : Bool := decide (g.pump = .running)

/-- The part is powered and out of reset (R169, R187). -/
def State.operating (s : State) : Bool := decide (s.phase = .loading ∨ s.phase = .running)

/-- The status of the store as IDENTIFY reports it (R182): VALID 0, INVALID 1, SAVING 2 (R194). -/
def State.storeCode (s : State) : Nat := if s.saving.isSome then 2 else if s.storeFound then 0 else 1

end Sys2Proof.Machine
end

