-- ==== Sys2Proof/Machine/Operands.lean ====
section
/-! DEFINITION. The forms of operands: the codes of named values, the payloads of frames read and built, the entries
of the ten tables with their range checks, and the values of notices (chapter 12). -/

namespace Sys2Proof.Machine

/-! ## Codes: the position in the owning rule's list unless chapter 12 gives another -/

def boolCode (b : Bool) : Nat := if b then 1 else 0

def CannonMode.code : CannonMode → Nat
  | .automatic => 0
  | .bypass => 1
  | .outOfService => 2

def CannonMode.ofCode : Nat → Option CannonMode
  | 0 => some .automatic
  | 1 => some .bypass
  | 2 => some .outOfService
  | _ => none

def CannonState.code : CannonState → Nat
  | .unknown => 0
  | .idle => 1
  | .opening => 2
  | .spraying => 3
  | .closing => 4
  | .stuck => 5
  | .fault => 6
  | .bypassClosed => 7
  | .bypassOpen => 8
  | .retired => 9

def BurstClass.code : BurstClass → Nat
  | .auto => 0
  | .manual => 1
  | .fire => 2

def Verb.code : Verb → Nat
  | .openValve => 1
  | .closeValve => 2

def Verb.ofCode : Nat → Option Verb
  | 1 => some .openValve
  | 2 => some .closeValve
  | _ => none

def PumpState.code : PumpState → Nat
  | .stopped => 0
  | .running => 1
  | .tripped => 2
  | .unknown => 3

def SourceKind.code : SourceKind → Nat
  | .recycledPond => 0
  | .settlingPond => 1
  | .tank => 2
  | .fresh => 3

def SourceKind.ofCode : Nat → Option SourceKind
  | 0 => some .recycledPond
  | 1 => some .settlingPond
  | 2 => some .tank
  | 3 => some .fresh
  | _ => none

def Grade.code : Grade → Nat
  | .ok => 0
  | .marginal => 1
  | .reject => 2

def Presence.code : Presence → Nat
  | .absent => 0
  | .present => 1
  | .stale => 2

def MachineKind.code : MachineKind → Nat
  | .stacker => 0
  | .reclaimer => 1
  | .dozer => 2
  | .other => 3

def MachineKind.ofCode : Nat → Option MachineKind
  | 0 => some .stacker
  | 1 => some .reclaimer
  | 2 => some .dozer
  | 3 => some .other
  | _ => none

def Activity.code : Activity → Nat
  | .travel => 0
  | .stacking => 1
  | .reclaiming => 2
  | .parked => 3

def Activity.ofCode : Nat → Option Activity
  | 0 => some .travel
  | 1 => some .stacking
  | 2 => some .reclaiming
  | 3 => some .parked
  | _ => none

def DispatchMode.code : DispatchMode → Nat
  | .off => 0
  | .run => 1
  | .watch => 2
  | .halt => 3

def ModeCause.code : ModeCause → Nat
  | .request => 0
  | .wake => 1

def Turn.code : Turn → Nat
  | .forward => 0
  | .insertion => 1

/-- NOT-PERMITTED 1 to WATER 8 (R196). -/
def RefuseReason.code : RefuseReason → Nat
  | .notPermitted => 1
  | .malformed => 2
  | .wrongMode => 3
  | .linkDown => 4
  | .cannonState => 5
  | .noSubstitute => 6
  | .unwired => 7
  | .water => 8

def FaultCause.code : FaultCause → Nat
  | .noOpenAck => 1
  | .valveFault => 2

def StoreCause.code : StoreCause → Nat
  | .check => 1
  | .content => 2

/-- The status codes of R194. -/
def Status.code : Status → Nat
  | .done => 0
  | .partialDone => 1
  | .notPermitted => 2
  | .badRequest => 3
  | .badTable => 4
  | .badIndex => 5
  | .badValue => 6
  | .conflict => 7
  | .inUse => 8
  | .busy => 9
  | .wrongMode => 10

/-! ## The frames of the link (R190) -/

def kindSample : Byte := 16
def kindStatus : Byte := 17
def kindMachine : Byte := 18
def kindTime : Byte := 32
def kindCommand : Byte := 48
def kindManage : Byte := 64
def kindReply : Byte := 65
def kindNotice : Byte := 66

def frameDest (f : Frame) : Byte := f.getD 0 0
def frameSource (f : Frame) : Byte := f.getD 1 0
def frameKind (f : Frame) : Byte := f.getD 2 0
/-- The bytes between the four header bytes and the two check bytes (R190). -/
def framePayload (f : Frame) : List Byte := (f.drop 4).take (f.length - 6)

/-- The first error a completed frame carries, if any (R152): `f` is every byte the receiver counted. -/
def frameFault (f : Frame) : Option FlagKind :=
  if f.length < 6 ∨ 64 < (f.getD 3 0).toNat ∨ f.length - 6 ≠ (f.getD 3 0).toNat then some .length
  else if (crc16 (f.take (f.length - 2))).toNat ≠ nat16 (f.getD (f.length - 2) 0) (f.getD (f.length - 1) 0) then
    some .check
  else if 240 ≤ (frameDest f).toNat ∨ frameSource f = 0 ∨ 240 ≤ (frameSource f).toNat then some .header
  else none

/-! ## Payloads read from the field and from the station (R7, R192) -/

/-- One six-byte record of a SAMPLE frame (R8, R192). -/
structure SampleRecord where
  channel : Nat
  quality : Nat
  value : Int
  deriving DecidableEq, Repr

/-- The records of a SAMPLE payload, in payload order (R8). -/
def readSamples : List Byte → List SampleRecord
  | a :: b :: c :: d :: e :: f :: rest =>
    { channel := a.toNat, quality := b.toNat, value := int32 c d e f } :: readSamples rest
  | _ => []

/-- The payload length a SAMPLE frame must have (R7). -/
def sampleLengthOk (p : List Byte) : Bool := decide (6 ≤ p.length ∧ p.length ≤ 60 ∧ p.length % 6 = 0)

/-- A record that is neither BAD nor of an unknown quality: GOOD 0 or SUSPECT 1 (R8, R192). -/
def SampleRecord.usable (r : SampleRecord) : Bool := decide (r.quality ≤ 1)

/-- A valve's reported state (R10, R192). -/
inductive ValveReport where
  | closed
  | opened
  | fault
  deriving DecidableEq, Repr

/-- The valve state and delivered litres of a STATUS payload from a VALVE node (R7, R192). -/
def readValveStatus : List Byte → Option (ValveReport × Nat)
  | [v, a, b, c, d] =>
    match v.toNat with
    | 0 => some (.closed, nat32 a b c d)
    | 1 => some (.opened, nat32 a b c d)
    | 2 => some (.fault, nat32 a b c d)
    | _ => none
  | _ => none

/-- The pump state and pressure of a STATUS payload from a PUMP node (R7, R192). -/
def readPumpStatus : List Byte → Option (PumpState × Nat)
  | [v, a, b] =>
    match v.toNat with
    | 0 => some (.stopped, nat16 a b)
    | 1 => some (.running, nat16 a b)
    | 2 => some (.tripped, nat16 a b)
    | _ => none
  | _ => none

/-- A number below `n`, or nothing. -/
def below (n v : Nat) : Option (Fin n) := if h : v < n then some ⟨v, h⟩ else none

/-- A number below `n`, or none for 255; nothing for any other value (R195). -/
def belowOrNone (n v : Nat) : Option (Option (Fin n)) := if v = 255 then some none else (below n v).map some

/-- The kind, activity and zone of a MACHINE payload (R7, R192). -/
def readMachine : List Byte → Option (MachineKind × Activity × Option ZoneId)
  | [k, a, z] =>
    match MachineKind.ofCode k.toNat, Activity.ofCode a.toNat, belowOrNone 32 z.toNat with
    | some k, some a, some z => some (k, a, z)
    | _, _, _ => none
  | _ => none

/-- The day number and second of day of a TIME payload (R7, R192). -/
def readTime : List Byte → Option (Nat × Nat)
  | [a, b, c, d, e, f] => if nat32 c d e f ≤ 86399 then some (nat16 a b, nat32 c d e f) else none
  | _ => none

/-- A COMMAND of the station with its fields clamped (R166, R193). -/
structure StationCommand where
  verb : Verb
  duration : Nat
  priority : Nat
  fire : Bool
  azimuth : Nat
  elevation : Nat
  deriving DecidableEq, Repr

/-- The COMMAND a payload holds, when its length and verb are valid (R166, R192, R193). -/
def readCommand : List Byte → Option StationCommand
  | [v, d1, d0, p, f, a1, a0, e] =>
    (Verb.ofCode v.toNat).map fun v =>
      { verb := v, duration := clamp 5 900 (nat16 d1 d0), priority := clamp 0 3 p.toNat, fire := decide (f ≠ 0),
        azimuth := clamp 0 359 (nat16 a1 a0), elevation := clamp 0 60 e.toNat }
  | _ => none

/-- The verb of a COMMAND-REFUSED value: none unless byte 0 was read and is a valid verb (R193). -/
def refusedVerb (payload : List Byte) : Option Verb :=
  match payload with
  | v :: _ => Verb.ofCode v.toNat
  | [] => none

/-- The fire flag of a COMMAND-REFUSED value: as read when the payload reaches byte 4, and clear otherwise (R193). -/
def refusedFire (payload : List Byte) : Bool := decide (payload.getD 4 0 ≠ 0)

/-- The payload of a COMMAND the part builds (R105, R192, R193). -/
def commandPayload (v : Verb) (duration priority : Nat) (fire : Bool) (azimuth elevation : Nat) : List Byte :=
  [byte v.code] ++ be16 duration ++ [byte priority, byte (boolCode fire)] ++ be16 azimuth ++ [byte elevation]

/-! ## Numeric fields that can be none: all ones in the field's width (R197) -/

def num1 (n : Nat) : List Byte := [byte n]
def opt1 (n : Option Nat) : List Byte := [byte (n.getD 255)]
def opt2 (n : Option Nat) : List Byte := be16 (n.getD 65535)
def opt4 (n : Option Nat) : List Byte := be32 (n.getD 4294967295)

/-- Four bytes in which each `k` of `l` that satisfies `p` adds 2 to the power k (R197). -/
def bitSet32 (p : ZoneId → Bool) : List Byte :=
  be32 ((List.finRange 32).foldl (fun n k => n + if p k then 2 ^ k.val else 0) 0)

/-! ## Entries of the tables (R195): `bytes` writes an entry, `read` reads one that passes its range checks -/

def u8 (l : List Byte) (i : Nat) : Nat := (l.getD i 0).toNat
def u16 (l : List Byte) (i : Nat) : Nat := nat16 (l.getD i 0) (l.getD (i + 1) 0)
def u32 (l : List Byte) (i : Nat) : Nat := nat32 (l.getD i 0) (l.getD (i + 1) 0) (l.getD (i + 2) 0) (l.getD (i + 3) 0)

/-- Yes and no are 1 and 0, and any other value is refused (R195). -/
def yesNo : Nat → Option Bool
  | 0 => some false
  | 1 => some true
  | _ => none

/-- `e`, when it passes its check. -/
def checked {α : Type} (e : α) (good : Bool) : Option α := if good then some e else none

def NodeRole.code : NodeRole → Nat × Nat
  | .none => (0, 0)
  | .mast m => (1, m.val)
  | .dust d => (2, d.val)
  | .moisture z => (3, z.val)
  | .level w => (4, w.val)
  | .quality w => (5, w.val)
  | .valve c => (6, c.val)
  | .pump g => (7, g.val)
  | .machine m => (8, m.val)
  | .supervisor i => (9, i.val)

/-- A role code and index; an entry of role NONE is accepted with any index, and a code of no role is refused (R3). -/
def NodeRole.ofCode (role index : Nat) : Option NodeRole :=
  match role with
  | 0 => some .none
  | 1 => (below 8 index).map .mast
  | 2 => (below 12 index).map .dust
  | 3 => (below 32 index).map .moisture
  | 4 => (below 4 index).map .level
  | 5 => (below 4 index).map .quality
  | 6 => (below 48 index).map .valve
  | 7 => (below 4 index).map .pump
  | 8 => (below 8 index).map .machine
  | 9 => (below 2 index).map .supervisor
  | _ => Option.none

def NodeRole.bytes (r : NodeRole) : List Byte := [byte r.code.1, byte r.code.2]
def readNodeRole (l : List Byte) : Option NodeRole := NodeRole.ofCode (u8 l 0) (u8 l 1)

/-- The ranges of R38 that the types do not give. -/
def ZoneEntry.ok (e : ZoneEntry) : Bool :=
  decide (10 ≤ e.threshold ∧ e.threshold ≤ 400 ∧ 10 ≤ e.mref ∧ e.mref ≤ 300 ∧ 1 ≤ e.area ∧ e.area ≤ 65535)

def ZoneEntry.bytes (e : ZoneEntry) : List Byte :=
  num1 (boolCode e.enabled) ++ num1 e.primary.val ++ opt1 (e.fallback.map (·.val)) ++ opt1 (e.dust.map (·.val)) ++
  be16 e.threshold ++ be16 e.mref ++ be16 e.area ++ num1 e.profile.val ++ be16 e.sensitive.toNat ++
  num1 (boolCode e.policy) ++ num1 (boolCode e.watch)

def readZoneEntry (l : List Byte) : Option ZoneEntry := do
  let enabled ← yesNo (u8 l 0)
  let primary ← below 8 (u8 l 1)
  let fallback ← belowOrNone 8 (u8 l 2)
  let dust ← belowOrNone 12 (u8 l 3)
  let profile ← below 4 (u8 l 10)
  let policy ← yesNo (u8 l 13)
  let watch ← yesNo (u8 l 14)
  let e : ZoneEntry :=
    { enabled, primary, fallback, dust, threshold := u16 l 4, mref := u16 l 6, area := u16 l 8, profile,
      sensitive := BitVec.ofNat 16 (u16 l 11), policy, watch }
  checked e e.ok

/-- The ranges of R41, and thresholds strictly increasing. -/
def Profile.ok (e : Profile) : Bool :=
  decide (1 ≤ e.tw ∧ e.tw < e.ta ∧ e.ta < e.ts ∧ e.ts ≤ 1000 ∧ e.hysteresis ≤ 200 ∧ 1 ≤ e.dutyWatch ∧
    e.dutyWatch ≤ 16 ∧ 1 ≤ e.dutyAct ∧ e.dutyAct ≤ 16 ∧ 1 ≤ e.dutySevere ∧ e.dutySevere ≤ 16)

def Profile.bytes (e : Profile) : List Byte :=
  be16 e.tw ++ be16 e.ta ++ be16 e.ts ++ num1 e.hysteresis ++ num1 e.dutyWatch ++ num1 e.dutyAct ++ num1 e.dutySevere

def readProfile (l : List Byte) : Option Profile :=
  let e : Profile :=
    { tw := u16 l 0, ta := u16 l 2, ts := u16 l 4, hysteresis := u8 l 6, dutyWatch := u8 l 7, dutyAct := u8 l 8,
      dutySevere := u8 l 9 }
  checked e e.ok

/-- The ranges of R63 that the types do not give. -/
def CannonEntry.ok (e : CannonEntry) : Bool := decide (100 ≤ e.flow ∧ e.flow ≤ 6000 ∧ e.holdTime ≤ 3600)

def CannonEntry.bytes (e : CannonEntry) : List Byte :=
  num1 e.mode.code ++ num1 e.station.val ++ be16 e.flow ++ num1 (e.slotMask.toNat / 65536) ++ be16 e.slotMask.toNat ++
  num1 e.refMast.val ++ be16 e.holdTime

/-- Slot masks with a value of 2 to the power 20 or above are refused (R195). -/
def readCannonEntry (l : List Byte) : Option CannonEntry := do
  let mode ← CannonMode.ofCode (u8 l 0)
  let station ← below 4 (u8 l 1)
  let mask ← below (2 ^ 20) (u8 l 4 * 65536 + u16 l 5)
  let refMast ← below 8 (u8 l 7)
  let e : CannonEntry :=
    { mode, station, flow := u16 l 2, slotMask := BitVec.ofFin mask, refMast, holdTime := u16 l 8 }
  checked e e.ok

/-- The ranges of R68 that the types do not give. -/
def Coverage.ok (e : Coverage) : Bool := decide (e.efficiency ≤ 100 ∧ e.cutoff ≤ 600)

def Coverage.bytes (e : Coverage) : List Byte :=
  opt1 (e.zone.map (·.val)) ++ num1 e.efficiency ++ num1 e.pattern.val ++ be16 e.cutoff

def readCoverage (l : List Byte) : Option Coverage := do
  let zone ← belowOrNone 32 (u8 l 0)
  let pattern ← below 8 (u8 l 2)
  let e : Coverage := { zone, efficiency := u8 l 1, pattern, cutoff := u16 l 3 }
  checked e e.ok

/-- The ranges of R78. -/
def Pattern.ok (e : Pattern) : Bool :=
  decide (e.azStart ≤ 359 ∧ 1 ≤ e.azStep ∧ e.azStep ≤ 90 ∧ 1 ≤ e.cols ∧ e.cols ≤ 16 ∧ e.elStart ≤ 60 ∧
    e.elStep ≤ 15 ∧ 1 ≤ e.rows ∧ e.rows ≤ 8)

def Pattern.bytes (e : Pattern) : List Byte :=
  be16 e.azStart ++ num1 e.azStep ++ num1 e.cols ++ num1 e.elStart ++ num1 e.elStep ++ num1 e.rows

def readPattern (l : List Byte) : Option Pattern :=
  let e : Pattern :=
    { azStart := u16 l 0, azStep := u8 l 2, cols := u8 l 3, elStart := u8 l 4, elStep := u8 l 5, rows := u8 l 6 }
  checked e e.ok

/-- The ranges of R84: a preference list of 1 to 4 distinct source numbers. -/
def StationEntry.ok (e : StationEntry) : Bool :=
  decide (5 ≤ e.slotLength ∧ e.slotLength ≤ 60 ∧ 1 ≤ e.limit ∧ e.limit ≤ 8 ∧ 100 ≤ e.maxFlow ∧ e.maxFlow ≤ 30000 ∧
    1 ≤ e.prefs.length ∧ e.prefs.length ≤ 4 ∧ e.prefs.Nodup)

/-- `l` padded with 255 to `n` places (R195, R197). -/
def padTo (n : Nat) (l : List Byte) : List Byte := (l ++ List.replicate n 255).take n

def StationEntry.bytes (e : StationEntry) : List Byte :=
  num1 e.slotLength ++ num1 e.limit ++ be16 e.maxFlow ++ num1 e.prefs.length ++
  padTo 4 (e.prefs.map fun w => byte w.val)

/-- The first `n` of the four source places; the places past the length must hold 255 (R195). -/
def readPrefs (n : Nat) (places : List Nat) : Option (List SourceId) :=
  if n ≤ 4 ∧ (places.drop n).all (· == 255) then (places.take n).mapM (below 4) else none

def readStationEntry (l : List Byte) : Option StationEntry := do
  let prefs ← readPrefs (u8 l 4) [u8 l 5, u8 l 6, u8 l 7, u8 l 8]
  let e : StationEntry := { slotLength := u8 l 0, limit := u8 l 1, maxFlow := u16 l 2, prefs }
  checked e e.ok

/-- The ranges of R120, and each marginal limit strictly below its reject limit. -/
def SourceEntry.ok (e : SourceEntry) : Bool :=
  decide (e.floor ≤ 4000000000 ∧ e.fireReserve ≤ 4000000000 ∧ e.allowance ≤ 4000000000 ∧ 1 ≤ e.turbMarginal ∧
    e.turbMarginal < e.turbReject ∧ e.turbReject ≤ 10000 ∧ 1 ≤ e.condMarginal ∧ e.condMarginal < e.condReject ∧
    e.condReject ≤ 200000)

def SourceEntry.bytes (e : SourceEntry) : List Byte :=
  num1 e.kind.code ++ num1 (boolCode e.metered) ++ be32 e.floor ++ be32 e.fireReserve ++ be32 e.allowance ++
  be16 e.turbMarginal ++ be16 e.turbReject ++ be32 e.condMarginal ++ be32 e.condReject

def readSourceEntry (l : List Byte) : Option SourceEntry := do
  let kind ← SourceKind.ofCode (u8 l 0)
  let metered ← yesNo (u8 l 1)
  let e : SourceEntry :=
    { kind, metered, floor := u32 l 2, fireReserve := u32 l 6, allowance := u32 l 10, turbMarginal := u16 l 14,
      turbReject := u16 l 16, condMarginal := u32 l 18, condReject := u32 l 22 }
  checked e e.ok

def Window.bytes (e : Window) : List Byte := num1 e.base.val ++ num1 e.limit.val ++ num1 e.target.val

/-- A field above 47 refuses the entry (R167). -/
def readWindow (l : List Byte) : Option Window := do
  let base ← below 48 (u8 l 0)
  let limit ← below 48 (u8 l 1)
  let target ← below 48 (u8 l 2)
  some { base, limit, target }

/-- The ranges of every setting (R20, R36, R60, R102, R118, R136, R147, R163). -/
def Settings.ok (e : Settings) : Bool :=
  decide (e.gustDecay ≤ 20 ∧ 5 ≤ e.mastStale ∧ e.mastStale ≤ 120 ∧ 30 ≤ e.dustStale ∧ e.dustStale ≤ 900 ∧
    60 ≤ e.probeStale ∧ e.probeStale ≤ 3600 ∧ (∀ a ∈ e.alertLevels.toList, 1 ≤ a ∧ a ≤ 9999) ∧
    1 ≤ e.ownId ∧ e.ownId ≤ 239 ∧ e.lead ≤ 3 ∧ e.rainThreshold ≤ 100 ∧ e.defaultEvap ≤ 100 ∧
    10 ≤ e.evalPeriod ∧ e.evalPeriod ≤ 120 ∧ 10 ≤ e.pumpStale ∧ e.pumpStale ≤ 120 ∧ 1 ≤ e.ackTime ∧
    e.ackTime ≤ 10 ∧ 5 ≤ e.stuckRetry ∧ e.stuckRetry ≤ 60 ∧ 60 ≤ e.qualityStale ∧ e.qualityStale ≤ 3600 ∧
    10 ≤ e.machineStale ∧ e.machineStale ≤ 600 ∧ 1 ≤ e.linkTimeout ∧ e.linkTimeout ≤ 30)

def Settings.bytes (e : Settings) : List Byte :=
  num1 e.gustDecay ++ num1 e.mastStale ++ be16 e.dustStale ++ be16 e.probeStale ++
  e.alertLevels.toList.flatMap be16 ++ num1 e.ownId ++ num1 e.lead ++ num1 e.rainThreshold ++ num1 e.defaultEvap ++
  num1 e.evalPeriod ++ num1 e.pumpStale ++ num1 e.ackTime ++ num1 e.stuckRetry ++ be16 e.qualityStale ++
  be16 e.machineStale ++ num1 e.linkTimeout ++ num1 (boolCode e.watchQuiet)

def readSettings (l : List Byte) : Option Settings := do
  let watchQuiet ← yesNo (u8 l 43)
  let e : Settings :=
    { gustDecay := u8 l 0, mastStale := u8 l 1, dustStale := u16 l 2, probeStale := u16 l 4,
      alertLevels := Vector.ofFn fun i : Fin 12 => u16 l (6 + 2 * i.val), ownId := u8 l 30, lead := u8 l 31,
      rainThreshold := u8 l 32, defaultEvap := u8 l 33, evalPeriod := u8 l 34, pumpStale := u8 l 35,
      ackTime := u8 l 36, stuckRetry := u8 l 37, qualityStale := u16 l 38, machineStale := u16 l 40,
      linkTimeout := u8 l 42, watchQuiet }
  checked e e.ok

/-- At most one entry for each role and index (R3). -/
def nodeMapUnique (m : Vector NodeRole 239) : Bool := decide (m.toList.filter (· ≠ .none)).Nodup

/-- Every entry passes the range and uniqueness checks WRITE-ENTRIES would apply to it (R187). -/
def Tables.ok (t : Tables) : Bool :=
  nodeMapUnique t.nodeMap && t.zones.all ZoneEntry.ok && t.profiles.all Profile.ok && t.cannons.all CannonEntry.ok &&
  t.coverage.all Coverage.ok && t.patterns.all Pattern.ok && t.stations.all StationEntry.ok &&
  t.sources.all SourceEntry.ok && t.settings.ok

/-- The entries of every table in table order, as the store's check is formed over them (R185; log entry 12). -/
def Tables.bytes (t : Tables) : List Byte :=
  t.nodeMap.toList.flatMap NodeRole.bytes ++ t.zones.toList.flatMap ZoneEntry.bytes ++
  t.profiles.toList.flatMap Profile.bytes ++ t.cannons.toList.flatMap CannonEntry.bytes ++
  t.coverage.toList.flatMap Coverage.bytes ++ t.patterns.toList.flatMap Pattern.bytes ++
  t.stations.toList.flatMap StationEntry.bytes ++ t.sources.toList.flatMap SourceEntry.bytes ++
  t.windows.toList.flatMap Window.bytes ++ t.settings.bytes

/-! ## Notices (R196) -/

/-- The four value bytes of a notice, built from the entry as it stands (R196, R197). -/
def Report.value : Report → List Byte
  | .bandChange _ band risk => [0, byte band.rank] ++ be16 risk
  | .zoneBlind _ entering => [0, 0, 0, byte (boolCode entering)]
  | .mastStale _ mean => [0, 0] ++ be16 mean
  | .machineStale _ zone kind activity => [0] ++ opt1 (zone.map (·.val)) ++ [byte kind.code, byte activity.code]
  | .cannonFault _ cause => [0, 0, 0, byte cause.code]
  | .cannonStuck _ => [0, 0, 0, 0]
  | .unexpectedClose _ draw => be32 draw
  | .uncommandedOpen _ => [0, 0, 0, 0]
  | .commandRefused _ reason verb fire addressed substitute =>
    [byte reason.code, byte ((verb.map Verb.code).getD 0 + if fire then 128 else 0), byte addressed.val] ++
    opt1 (substitute.map (·.val))
  | .sourceLow _ kind estimate => be32 (kind.code * 2 ^ 30 + min 1073741823 estimate)
  | .sourceQuality _ quality stale kind => [0, byte quality.code, byte (boolCode stale), byte kind.code]
  | .stationDown _ pump => [0, 0, 0, byte pump.code]
  | .wake _ band => [0, 0, 0, byte band.rank]
  | .fieldDown n => [0, 0, 0, byte n]
  | .fieldUp n => [0, 0, 0, byte n]
  | .portError _ flag all => [0, 0, byte flag.code, byte all.code]
  | .dispatchMode new previous cause => [0, byte new.code, byte previous.code, byte cause.code]
  | .storeInvalid cause => [0, 0, 0, byte cause.code]

/-- The payload of a NOTICE frame (R196). -/
def noticePayload (kind subject : Nat) (value : List Byte) (t : Stamp) (overflow : Bool) : List Byte :=
  [byte kind, byte subject] ++ value ++ be16 t.day ++ be32 t.second ++
  [byte (boolCode t.timeSet + if overflow then 2 else 0)]

/-- The payload of a REPLY frame (R194). -/
def replyPayload (r : Reply) : List Byte := [r.code, r.tag, byte r.status.code] ++ r.body

end Sys2Proof.Machine
end

