-- ==== Sys2Proof/Machine/Water.lean ====
section
/-! DEFINITION. The water unit (chapter 7): the tests of a source, its commitments and draws, its level and quality
accounts, and the day change. -/

namespace Sys2Proof.Machine

/-! ## The three tests of a source (R128) -/

/-- Quality: OK; or MARGINAL for a FIRE burst or priority 2 or 3 (R128). -/
def qualityFits (w : Source) (cls : BurstClass) (priority : Nat) : Bool :=
  match w.quality with
  | .ok => true
  | .marginal => decide (cls = .fire ∨ 2 ≤ priority)
  | .reject => false

/-- Volume: an unmetered source passes; a metered one needs its estimate to cover the commitments, the planned draw,
the floor and, for a burst that is not FIRE, the fire reserve (R128). -/
def volumeFits (e : SourceEntry) (w : Source) (cls : BurstClass) (planned committed : Nat) : Bool :=
  if e.metered then
    match w.estimate with
    | none => false
    | some v => decide (committed + planned + e.floor + (if cls = .fire then 0 else e.fireReserve) ≤ v)
  else true

/-- Allowance: applies when it is not 0 and the burst is not FIRE (R128). -/
def allowanceFits (e : SourceEntry) (w : Source) (cls : BurstClass) (planned committed : Nat) : Bool :=
  decide (e.allowance = 0 ∨ cls = .fire ∨ w.dayDraw + committed + planned ≤ e.allowance)

/-- The three tests of R128 on one source, against a committed total. -/
def sourceFits (e : SourceEntry) (w : Source) (cls : BurstClass) (priority planned committed : Nat) : Bool :=
  qualityFits w cls priority && volumeFits e w cls planned committed && allowanceFits e w cls planned committed

/-- The first source of the station's preference list that passes all three tests (R128). -/
def chooseSource (g : StationId) (cls : BurstClass) (priority planned : Nat) (s : State) : Option SourceId :=
  (s.stationEntry g).prefs.find? fun w =>
    sourceFits (s.sourceEntry w) (s.source w) cls priority planned (s.source w).committed

/-! ## Commitments and draws (R130, R131) -/

/-- Commit (R130). -/
def commit (w : SourceId) (planned : Nat) (s : State) : State :=
  s.updSource w fun v => { v with committed := v.committed + planned }

/-- Release without draw (R130). -/
def release (w : SourceId) (planned : Nat) (s : State) : State :=
  s.updSource w fun v => { v with committed := v.committed - planned }

/-- Replace: the old planned draw is released and the new one committed in one step (R130). -/
def replaceCommit (w : SourceId) (old new : Nat) (s : State) : State :=
  s.updSource w fun v => { v with committed := v.committed - old + new }

/-- A draw added to the day draw, and taken from the estimate of a metered source whose estimate is known (R131). -/
def chargeDraw (w : SourceId) (draw : Nat) (s : State) : State :=
  s.updSource w fun v =>
    { v with
      dayDraw := min 4294967295 (v.dayDraw + draw)
      estimate := if (s.sourceEntry w).metered then v.estimate.map (· - draw) else v.estimate }

/-- Release with draw (R130, R131). -/
def releaseWithDraw (w : SourceId) (planned draw : Nat) (s : State) : State := chargeDraw w draw (release w planned s)

/-! ## Quality (R125 to R127) -/

/-- A QUALITY node is mapped for the source (R127). -/
def State.qualityMapped (s : State) (w : SourceId) : Bool := s.mapped (.quality w)

/-- The source quality is derived again; a change is held and raises SOURCE-QUALITY (R127). -/
def deriveQuality (w : SourceId) (s : State) : State :=
  let q := (s.source w).derived (s.qualityMapped w)
  if q = (s.source w).quality then s
  else raise (.sourceQuality w q (s.source w).stale (s.sourceEntry w).kind)
    (s.updSource w fun v => { v with quality := q })

/-- A turbidity record (R125, R126). -/
def turbidityRecord (w : SourceId) (v : Nat) (s : State) : State :=
  deriveQuality w (s.updSource w fun x =>
    { x with
      turbidity := x.turbidity.judge v (s.sourceEntry w).turbMarginal (s.sourceEntry w).turbReject
      stale := false, timer := some s.settings.qualityStale })

/-- A conductivity record (R125, R126). -/
def conductivityRecord (w : SourceId) (v : Nat) (s : State) : State :=
  deriveQuality w (s.updSource w fun x =>
    { x with
      conductivity := x.conductivity.judge v (s.sourceEntry w).condMarginal (s.sourceEntry w).condReject
      stale := false, timer := some s.settings.qualityStale })

/-- The quality staleness timer of a source expires (R126, R127). -/
def qualityExpiry (w : SourceId) (s : State) : State :=
  deriveQuality w (s.updSource w fun x => { x with stale := true, timer := none })

/-! ## The yard day -/

/-- A day change sets the day draw of every source to 0 (R26, R134). -/
def dayChange (s : State) : State := { s with sources := s.sources.map fun w => { w with dayDraw := 0 } }

end Sys2Proof.Machine
end

