-- ==== Sys2Proof/Machine/Burst.lean ====
section
/-! DEFINITION. The burst and its faults (chapter 6): closes with and without a burst, completion, and a valve's
status in every state of its cannon. -/

namespace Sys2Proof.Machine

/-! ## A close without a burst (R89) -/

/-- The count and flow tests of close admission, on the in-use figures (R88, R89). -/
def State.closeFits (s : State) (c : CannonId) : Bool :=
  let g := s.station (s.stationOf c)
  let e := s.stationEntry (s.stationOf c)
  decide (g.inUse < e.limit ∧ g.inUseFlow + (s.cannonEntry c).flow ≤ e.maxFlow)

/-- The cannon's close may be admitted: it is mapped, the tests hold, and the field link is UP (R89). -/
def State.canClose (s : State) (c : CannonId) : Bool := s.wired c && s.closeFits c && s.fieldPort.up

/-- An admitted close: the cannon enters CLOSING, with the fault-pending mark when it was in FAULT, and its CLOSE is
queued (R89). -/
def takeClose (c : CannonId) (s : State) : State :=
  queueClose c (takePlace c (stopWaiting c (s.updCannon c fun k =>
    { k with state := .closing, faultPending := decide (k.state = .fault) })))

/-- The cannon joins the tail of its station's close waiting list, unless it is on a list already (R89). -/
def joinWaiting (c : CannonId) (s : State) : State :=
  if s.closeWaiting c then s
  else s.updStation (s.stationOf c) fun g => { g with waiting := g.waiting ++ [c] }

/-- A close without a burst arises for a cannon in UNKNOWN, IDLE or FAULT; one that is on a close waiting list already is judged
by the same tests (R89; log entry 17). -/
def closeWithoutBurst (c : CannonId) (s : State) : State :=
  match (s.cannon c).state with
  | .unknown | .idle | .fault => if s.canClose c then takeClose c s else joinWaiting c s
  | .opening | .spraying | .closing | .stuck | .bypassClosed | .bypassOpen | .retired => s

/-- The station's close waiting list is walked from its head (R89). -/
def walkWaiting (g : StationId) (s : State) : State :=
  (s.station g).waiting.foldl (fun s c => if s.canClose c then takeClose c s else s) s

/-- A confirming CLOSE for an IDLE cannon whose open-sent mark is set and which has no command queued (R114). -/
def confirmingClose (c : CannonId) (s : State) : State :=
  if (s.cannon c).state = .idle ∧ (s.cannon c).openMark ∧ ¬ s.hasCommand c then queueClose c s else s

/-! ## Early close (R112) -/

/-- An unsent OPEN is removed: the burst ends without accounting and the cannon goes to `next` (IDLE for an early close,
FAULT for a STATUS FAULT), which is a capacity event (R110, R112). -/
def dropUnsent (next : CannonState) (c : CannonId) (s : State) : State :=
  let freed := match (s.cannon c).burst with
    | some b => release b.source b.planned s
    | none => s
  capacityDue (s.stationOf c) (endClosing c (leavePlace c (removeOpen c (freed.updCannon c fun k =>
    { k with state := next, burst := none, burstTimer := none, ackTimer := none, faultPending := false }))))

/-- A sent OPEN or a spraying valve is closed: the cannon enters CLOSING and its CLOSE is queued; a close for a fault
sets the fault-pending mark (R106, R107, R110, R112). -/
def startClosing (forFault : Bool) (c : CannonId) (s : State) : State :=
  queueClose c (s.updCannon c fun k =>
    { k with state := .closing, burstTimer := none, ackTimer := none, faultPending := k.faultPending || forFault })

/-- An early close; it reaches a cannon in OPENING or SPRAYING alone (R112). -/
def earlyClose (c : CannonId) (s : State) : State :=
  match (s.cannon c).state with
  | .opening => if s.openQueued c then dropUnsent .idle c s else startClosing false c s
  | .spraying => startClosing false c s
  | .unknown | .idle | .closing | .stuck | .fault | .bypassClosed | .bypassOpen | .retired => s

/-- Early closes in the order of the list. -/
def closeEach (cs : List CannonId) (s : State) : State := cs.foldl (fun s c => earlyClose c s) s

/-- Early closes for which the rules give no order: a free one (log entry 10). -/
def closeAnyOrder (cs : List CannonId) (s : State) : State :=
  let o := shuffle cs s
  closeEach o.1 o.2

/-- The cannon is in OPENING or SPRAYING. -/
def Cannon.inFlight (k : Cannon) : Bool := decide (k.state = .opening ∨ k.state = .spraying)

/-- The cannon is in OPENING or SPRAYING and its burst satisfies `p`. -/
def Cannon.flying (k : Cannon) (p : Burst → Bool) : Bool := k.inFlight && k.burst.any p

/-- The cannons that satisfy `p`, in ascending cannon number. -/
def State.cannonsWhere (s : State) (p : CannonId → Cannon → Bool) : List CannonId :=
  (List.finRange 48).filter fun c => p c (s.cannon c)

/-! ## Completion (R113) -/

/-- The draw of a valve's opening: the delivered litres when metered, else from the open seconds (R111, R113). -/
def drawOf (flow seconds litres : Nat) : Nat := if litres ≠ 0 then litres else flow * seconds / 60

/-- The wetting credit of a burst (R59). -/
def wettingCredit (z : ZoneId) (draw efficiency : Nat) (s : State) : State :=
  s.updZone z fun x => { x with mest := min 300 (x.mest + draw * efficiency / (100 * (s.zoneEntry z).area)) }

/-- Completion accounting: the commitment is released with the draw, the credited zone receives its credit, and the
burst record is removed (R113, R131). -/
def complete (c : CannonId) (litres : Nat) (s : State) : State :=
  match (s.cannon c).burst with
  | none => s
  | some b =>
    let draw := drawOf (s.cannonEntry c).flow b.openSeconds litres
    let paid := releaseWithDraw b.source b.planned draw s
    let credited := match b.credited with
      | some z => wettingCredit z draw b.efficiency paid
      | none => paid
    credited.updCannon c fun k => { k with burst := none }

/-- A valve's status takes a cannon out of SPRAYING, CLOSING or STUCK: completion, the place given back, the preemption
entry removed, a confirming CLOSE on entry to IDLE, and a capacity event (R109, R110, R113, R114; log entry 16). -/
def leaveBurst (next : CannonState) (c : CannonId) (litres : Nat) (s : State) : State :=
  let left := (complete c litres s).updCannon c fun k =>
    { k with state := next, burstTimer := none, ackTimer := none, faultPending := false }
  capacityDue (s.stationOf c) (confirmingClose c (endClosing c (leavePlace c left)))

/-! ## Valve status (R108 to R111) -/

/-- The cannon enters SPRAYING at the STATUS OPEN of its burst (R108). -/
def startSpraying (c : CannonId) (s : State) : State :=
  s.updCannon c fun k =>
    { k with
      state := .spraying, ackTimer := none, burstTimer := k.burst.map (·.duration),
      burst := k.burst.map fun b => { b with counting := true, openSeconds := 0 } }

/-- A STATUS OPEN (R108, R111). -/
def statusOpen (c : CannonId) (s : State) : State :=
  match (s.cannon c).state with
  | .opening => startSpraying c (removeOpen c s)
  | .spraying | .closing | .stuck => s
  | .idle | .fault => closeWithoutBurst c (raise (.uncommandedOpen c) s)
  | .unknown => closeWithoutBurst c s
  | .bypassClosed => s.updCannon c fun k => { k with state := .bypassOpen, bypassSeconds := 0 }
  | .bypassOpen | .retired => s

/-- The draw of a BYPASS opening is charged to the first source of the station's preference list (R111, R133). -/
def chargeBypass (c : CannonId) (litres : Nat) (s : State) : State :=
  match (s.stationEntry (s.stationOf c)).prefs with
  | w :: _ => chargeDraw w (drawOf (s.cannonEntry c).flow (s.cannon c).bypassSeconds litres) s
  | [] => s

/-- A STATUS CLOSED with its delivered litres (R109, R111). -/
def statusClosed (c : CannonId) (litres : Nat) (s : State) : State :=
  let k := s.cannon c
  match k.state with
  | .opening => s
  | .spraying =>
    let draw := drawOf (s.cannonEntry c).flow (k.burst.elim 0 (·.openSeconds)) litres
    leaveBurst .idle c litres (raise (.unexpectedClose c draw) s)
  | .closing => leaveBurst (if k.faultPending then .fault else .idle) c litres s
  | .stuck => leaveBurst .fault c litres s
  | .unknown => confirmingClose c (stopWaiting c (s.updCannon c fun k => { k with state := .idle }))
  | .idle | .fault => stopWaiting c s
  | .bypassOpen =>
    capacityDue (s.stationOf c) ((chargeBypass c litres s).updCannon c fun k => { k with state := .bypassClosed })
  | .bypassClosed | .retired => s

/-- A STATUS FAULT with its delivered litres (R110, R111). -/
def statusFault (c : CannonId) (litres : Nat) (s : State) : State :=
  let k := s.cannon c
  match k.state with
  | .opening =>
    raise (.cannonFault c .valveFault) (if s.openQueued c then dropUnsent .fault c s else startClosing true c s)
  | .spraying => raise (.cannonFault c .valveFault) (startClosing true c s)
  | .closing | .stuck =>
    leaveBurst .fault c litres (if k.faultPending then s else raise (.cannonFault c .valveFault) s)
  | .unknown | .idle => raise (.cannonFault c .valveFault) (s.updCannon c fun k => { k with state := .fault })
  | .fault | .bypassClosed | .bypassOpen | .retired => s

/-- A valve's status event (R10, R108 to R111). -/
def valveStatus (c : CannonId) (v : ValveReport) (litres : Nat) (s : State) : State :=
  match v with
  | .opened => statusOpen c s
  | .closed => statusClosed c litres s
  | .fault => statusFault c litres s

/-- The burst timer of a SPRAYING cannon expires (R107). -/
def burstExpiry (c : CannonId) (s : State) : State := startClosing false c s

/-- One second of open seconds, for a burst that counts and for a BYPASS-OPEN valve (R103, R111). -/
def Cannon.countOpen (k : Cannon) : Cannon :=
  { k with
    burst := k.burst.map fun b => if b.counting then { b with openSeconds := min 65535 (b.openSeconds + 1) } else b
    bypassSeconds := if k.state = .bypassOpen then min 65535 (k.bypassSeconds + 1) else k.bypassSeconds }

end Sys2Proof.Machine
end

