-- ==== Sys2Proof/Machine/Station.lean ====
section
/-! DEFINITION. Station dispatch cycles and grant arbitration (chapter 5): pump state, candidates and their order, the
tests and the grant, owed bursts, FIRE arbitration and preemption, capacity events, and the slot start. -/

namespace Sys2Proof.Machine

/-! ## The arbiter's figures (R88) -/

/-- The station's cannons in BYPASS-OPEN. -/
def State.bypassOpenAt (s : State) (g : StationId) : List CannonId :=
  s.cannonsWhere fun c k => decide (s.stationOf c = g ∧ k.state = .bypassOpen)

/-- The arbiter's count (R88). -/
def State.arbiterCount (s : State) (g : StationId) : Nat := (s.station g).inUse + (s.bypassOpenAt g).length

/-- The arbiter's flow (R88). -/
def State.arbiterFlow (s : State) (g : StationId) : Nat :=
  (s.station g).inUseFlow + ((s.bypassOpenAt g).map fun c => (s.cannonEntry c).flow).sum

/-! ## Candidates (R93) -/

/-- The conditions of R93 that do not depend on the request: AUTOMATIC, IDLE, not close-waiting, mapped, and no
command queued. -/
def State.ready (s : State) (c : CannonId) : Bool :=
  decide ((s.cannonEntry c).mode = .automatic ∧ (s.cannon c).state = .idle) && !s.closeWaiting c && s.wired c &&
  !s.hasCommand c

/-- The request's own conditions at slot `k`: the slot mask for AUTO, exclusion for AUTO and MANUAL (R93). -/
def State.requestOpen (s : State) (c : CannonId) (k : Fin 20) : Bool :=
  match (s.cannon c).request with
  | none => false
  | some (.auto _ z) => (s.cannonEntry c).slotMask.getLsbD k.val && !s.excluded z
  | some (.manual ..) => !s.excludedOpt (s.cannon c).target.zone
  | some (.fire ..) => true

/-- The cannon is a candidate of station `g` at its current slot (R93). -/
def State.candidate (s : State) (g : StationId) (c : CannonId) : Bool :=
  decide (s.stationOf c = g) && s.ready c && s.requestOpen c (s.station g).slot

/-- The cannon is a candidate on a FIRE request (R99). -/
def State.fireCandidate (s : State) (g : StationId) (c : CannonId) : Bool :=
  decide (s.stationOf c = g) && s.ready c && (s.cannon c).holds .fire

/-! ## The order of the walk (R94) -/

/-- Distance from the round-robin pointer (R94). -/
def distance (pointer c : CannonId) : Nat := (c.val + 48 - pointer.val) % 48

/-- The keys of R94 as one number, smallest first: FIRE before every other class, then priority from 3 down to 0, then
AUTO requests with owed count above 0, then the distance from the pointer. -/
def State.rankKey (s : State) (g : StationId) (c : CannonId) : Nat :=
  let k := s.cannon c
  let fire := if k.holds .fire then 0 else 1
  let low := 3 - k.request.elim 0 (·.priority)
  let owed := if k.holds .auto ∧ 0 < k.owed then 0 else 1
  ((fire * 4 + low) * 2 + owed) * 48 + distance (s.station g).pointer c

/-- `cs` in the order of R94, fixed for the whole walk. -/
def State.ranked (s : State) (g : StationId) (cs : List CannonId) : List CannonId :=
  cs.insertionSort fun a b => s.rankKey g a ≤ s.rankKey g b

/-! ## Duration, planned draw and the tests (R95, R96) -/

/-- The duty of an AUTO burst of priority `p` for zone `z` (R96). -/
def State.autoDuty (s : State) (z : ZoneId) (p : Nat) : Nat :=
  let f := s.profile (s.zoneEntry z).profile
  if p = 1 then f.dutyWatch
  else match (s.zone z).band with
    | .act => f.dutyAct
    | .severe => f.dutySevere
    | .calm | .watch => if p = 2 then f.dutyAct else f.dutySevere

/-- The duration of the burst a request asks for (R96). -/
def State.durationOf (s : State) (g : StationId) : CannonRequest → Nat
  | .auto p z => max 1 ((s.stationEntry g).slotLength * s.autoDuty z p / 16)
  | .manual _ d _ _ => d
  | .fire _ d _ _ => d

/-- The planned draw of a burst (R96). -/
def plannedDraw (flow duration : Nat) : Nat := flow * duration / 60

/-- The count test (R95). -/
def State.countFits (s : State) (g : StationId) : Bool := decide (s.arbiterCount g < (s.stationEntry g).limit)

/-- The flow test (R95). -/
def State.flowFits (s : State) (g : StationId) (c : CannonId) : Bool :=
  decide (s.arbiterFlow g + (s.cannonEntry c).flow ≤ (s.stationEntry g).maxFlow)

/-! ## Grant and denial (R95, R97, R98) -/

/-- The burst record made at grant (R97). -/
def newBurst (r : CannonRequest) (target : Target) (w : SourceId) (planned duration : Nat) : Burst :=
  let aim := match r with
    | .auto .. => (0, 0)
    | .manual _ _ az el => (az, el)
    | .fire _ _ az el => (az, el)
  { cls := r.cls, grantClass := r.cls, priority := r.priority,
    credited := match r with
      | .auto _ z => some z
      | .manual .. => target.zone
      | .fire .. => target.zone
    efficiency := target.efficiency, source := w, planned := planned, duration := duration,
    azimuth := aim.1, elevation := aim.2, openSent := false, counting := false, openSeconds := 0 }

/-- The request and owed count after the grant: an AUTO request stays and its owed count falls by 1; a MANUAL or FIRE
request is retired (R97). -/
def Cannon.afterGrant (k : Cannon) (r : CannonRequest) : Cannon :=
  match r with
  | .auto .. => { k with owed := k.owed - 1 }
  | .manual .. => { k with request := none, owed := 0 }
  | .fire .. => { k with request := none, owed := 0 }

/-- The cannon number after `c`, with 47 followed by 0 (R95). -/
def nextCannon (c : CannonId) : CannonId := ⟨(c.val + 1) % 48, Nat.mod_lt _ (by omega)⟩

/-- The grant, one operation (R95, R97). -/
def grant (g : StationId) (c : CannonId) (r : CannonRequest) (w : SourceId) (s : State) : State :=
  let duration := s.durationOf g r
  let planned := plannedDraw (s.cannonEntry c).flow duration
  let opened := s.updCannon c fun k =>
    { k.afterGrant r with state := .opening, burst := some (newBurst r k.target w planned duration) }
  let placed := takePlace c (queueOpen c (commit w planned opened))
  let pointed := placed.updStation g fun x => { x with pointer := nextCannon c }
  match r with
  | .fire .. => endPreemption c pointed
  | .auto .. => pointed
  | .manual .. => pointed

/-- The owed count rises by 1, up to 2, for a cannon that holds an AUTO request (R98). -/
def owe (c : CannonId) (s : State) : State :=
  s.updCannon c fun k => if k.holds .auto then { k with owed := min 2 (k.owed + 1) } else k

/-! ## Preemption (R100) -/

/-- The cannons a preemption may close: in SPRAYING, or in OPENING with their OPEN sent, with a burst that is not FIRE. -/
def State.victims (s : State) (g : StationId) : List CannonId :=
  s.cannonsWhere fun c k =>
    decide (s.stationOf c = g) && decide (k.state = .spraying ∨ (k.state = .opening ∧ s.openQueued c = false)) &&
    k.burst.any fun b => decide (b.cls ≠ .fire)

/-- The priority of the cannon's burst. -/
def State.burstPriority (s : State) (c : CannonId) : Nat := (s.cannon c).burst.elim 0 (·.priority)

/-- The one with the lowest burst priority and, among equals, the highest cannon number (R100). -/
def State.victim (s : State) (g : StationId) : Option CannonId :=
  (s.victims g).foldl (fun best c =>
    match best with
    | none => some c
    | some b => if s.burstPriority c ≤ s.burstPriority b then some c else some b) none

/-- A FIRE request denied for count or flow closes one lesser burst, and the pair joins the tail of the station's preemption list:
R100 says that it is added and gives the list no order, so the tail is the model's choice (R100; DESIGN CHOICE, log entry
34). -/
def preempt (g : StationId) (c : CannonId) (s : State) : State :=
  if s.preempting c ∨ (s.stationEntry g).maxFlow < (s.cannonEntry c).flow then s
  else match s.victim g with
    | none => s
    | some v => (earlyClose v s).updStation g fun x => { x with preempt := x.preempt ++ [(c, v)] }

/-- One candidate is tested: granted, or denied with the owed count of an AUTO request raised and the preemption of a
FIRE request that has water (R95, R98, R99, R100). -/
def arbitrate (g : StationId) (c : CannonId) (s : State) : State :=
  match (s.cannon c).request with
  | none => s
  | some r =>
    let room := s.countFits g && s.flowFits g c
    let water := chooseSource g r.cls r.priority (plannedDraw (s.cannonEntry c).flow (s.durationOf g r)) s
    match room, water with
    | true, some w => grant g c r w s
    | false, some _ =>
      match r with
      | .fire .. => preempt g c s
      | .auto .. => owe c s
      | .manual .. => s
    | _, none => owe c s

/-- A list of candidates is walked from the first to the last (R95). -/
def arbitrateAll (g : StationId) (cs : List CannonId) (s : State) : State :=
  cs.foldl (fun s c => arbitrate g c s) s

/-! ## FIRE arbitration and capacity events (R90, R99) -/

/-- FIRE requests may be arbitrated at the station: dispatch is not OFF, the link is UP, the station available (R99). -/
def State.fireServed (s : State) (g : StationId) : Bool :=
  decide (s.mode ≠ .off) && s.fieldPort.up && (s.station g).available

/-- The station arbitrates its waiting FIRE requests (R99). -/
def arbitrateFires (g : StationId) (s : State) : State :=
  if s.fireServed g then arbitrateAll g (s.ranked g ((List.finRange 48).filter fun c => s.fireCandidate g c)) s else s

/-- One FIRE request is arbitrated on its own (R99, R101). -/
def arbitrateFire (c : CannonId) (s : State) : State :=
  if s.fireServed (s.stationOf c) && s.fireCandidate (s.stationOf c) c then arbitrate (s.stationOf c) c s else s

/-- A capacity event: the close waiting list is walked, then the waiting FIRE requests are arbitrated (R90). -/
def capacityEvent (g : StationId) (s : State) : State := arbitrateFires g (walkWaiting g s)

/-- A capacity event at the station may do something: its close waiting list is not empty, or a cannon of it holds a FIRE
request (R90). -/
def State.stirs (s : State) (g : StationId) : Bool :=
  !(s.station g).waiting.isEmpty ||
  (List.finRange 48).any fun c => decide (s.stationOf c = g) && (s.cannon c).holds .fire

/-- The stations whose capacity events are due, in the order they are taken: a free one when two or more of them may do
something, since the rules give none and the order of commands and commitments shows it (R90; log entry 8). -/
def dueOrder (s : State) : List StationId × State :=
  let due := s.dueCapacity.dedup
  if 2 ≤ (due.filter s.stirs).length then shuffle due s else (due, s)

/-- The capacity events that are due are taken, one after another (R90). -/
def settle (s : State) : State :=
  let o := dueOrder s
  o.1.foldl (fun s g => capacityEvent g s) { o.2 with dueCapacity := [] }

/-! ## Pump status (R86, R87) -/

/-- The station's cannons in flight, and those in OPENING. -/
def State.flyingAt (s : State) (g : StationId) : List CannonId :=
  s.cannonsWhere fun c k => decide (s.stationOf c = g) && k.inFlight

def State.openingAt (s : State) (g : StationId) : List CannonId :=
  s.cannonsWhere fun c k => decide (s.stationOf c = g ∧ k.state = .opening)

/-- A pump status is delivered for the station (R86, R87). -/
def pumpStatus (g : StationId) (p : PumpState) (pressure : Nat) (s : State) : State :=
  let was := (s.station g).available
  let told := s.updStation g fun x =>
    { x with pump := p, pressure := pressure, pumpTimer := some s.settings.pumpStale }
  let shut := if p = .stopped ∨ p = .tripped then closeAnyOrder (told.flyingAt g) told else told
  match was, decide (p = .running) with
  | true, false => raise (.stationDown g p) shut
  | false, true => capacityDue g (raise (.stationDown g p) shut)
  | true, true => shut
  | false, false => shut

/-- The pump staleness timer of the station expires (R86, R87). -/
def pumpExpiry (g : StationId) (s : State) : State :=
  let was := (s.station g).available
  let told := s.updStation g fun x => { x with pump := .unknown, pumpTimer := none }
  let shut := closeAnyOrder (told.openingAt g) told
  if was then raise (.stationDown g .unknown) shut else shut

/-! ## The slot start (R64, R92) -/

/-- A cannon whose entry names station `g` belongs to it from this slot start on, and moves from its old station's close
waiting list to the tail of `g`'s; one that holds a place stays until a slot start at which it holds none (R64, R88, R89;
log entry 23). -/
def takeOver (g : StationId) (c : CannonId) (s : State) : State :=
  if (s.cannonEntry c).station = g ∧ s.stationOf c ≠ g ∧ ¬ (s.cannon c).state.holdsPlace then
    let moved := (stopWaiting c s).updCannon c fun k => { k with station := g }
    if s.closeWaiting c then joinWaiting c moved else moved
  else s

/-- Full arbitration (R93 to R97). -/
def arbitrateSlot (g : StationId) (s : State) : State :=
  arbitrateAll g (s.ranked g ((List.finRange 48).filter fun c => s.candidate g c)) s

/-- A slot lost with the field link DOWN or the station unavailable: owed accrual (R98). -/
def loseSlot (g : StationId) (s : State) : State :=
  ((List.finRange 48).filter fun c => s.candidate g c).foldl (fun s c => owe c s) s

/-- The slot advances and the timer restarts, and the station takes over the cannons written to it; then it acts by dispatch
mode and conditions (R64, R92). -/
def slotStart (g : StationId) (s : State) : State :=
  let begun := s.updStation g fun x => { x with slot := x.slot + 1, slotTimer := some (s.stationEntry g).slotLength }
  let walked := walkWaiting g (eachCannon (takeOver g) begun)
  let served := begun.fieldPort.up && (begun.station g).available
  match s.mode with
  | .run => if served then arbitrateSlot g walked else loseSlot g walked
  | .watch | .halt => if served then arbitrateFires g walked else walked
  | .off => walked

/-! ## The acknowledgement timer (R106) -/

/-- The FIRE cannons whose preemption names `c` as closing cannon. -/
def State.preemptors (s : State) (c : CannonId) : List CannonId :=
  s.stations.toList.flatMap fun g => (g.preempt.filter fun p => p.2 = c).map (·.1)

/-- A CLOSE has gone unanswered: the cannon enters STUCK, the preemption that closed it ends, and its FIRE request is
arbitrated again at once (R101, R106). -/
def becomeStuck (c : CannonId) (s : State) : State :=
  let fires := s.preemptors c
  let stuck := s.updCannon c fun k =>
    { k with state := .stuck, faultPending := false, ackTimer := some s.settings.stuckRetry }
  fires.foldl (fun s f => arbitrateFire f s) (endClosing c (raise (.cannonStuck c) stuck))

/-- The acknowledgement timer of a cannon expires (R106). -/
def ackExpiry (c : CannonId) (s : State) : State :=
  let stopped := s.updCannon c fun k => { k with ackTimer := none }
  match (s.cannon c).state with
  | .opening => raise (.cannonFault c .noOpenAck) (startClosing true c stopped)
  | .closing => becomeStuck c stopped
  | .stuck => (queueClose c stopped).updCannon c fun k => { k with ackTimer := some s.settings.stuckRetry }
  | .unknown | .idle | .spraying | .fault | .bypassClosed | .bypassOpen | .retired => stopped

end Sys2Proof.Machine
end

