-- ==== Sys2Proof/Machine/Sending.lean ====
section
/-! DEFINITION. Sharing the transmitters (section 9.4): what each source has waiting, the frames the part builds at
their sending, the decision of a port's outbound arbiter, and the end of every step. -/

namespace Sys2Proof.Machine

/-! ## What waits at each port (R158, R159) -/

/-- A notice is ready to send: an entry or the marker, and a destination (R189). -/
def State.noticeReady (s : State) : Bool :=
  (!s.notices.entries.isEmpty || s.notices.marker.isSome) && s.noticeDest.isSome

/-- The insertion source of a port is waiting (R159). -/
def State.insertionWaits (s : State) : Port → Bool
  | .field => !s.commands.isEmpty
  | .control => !s.replies.isEmpty || (s.controlPort.up && s.noticeReady)

/-- The forward source of a port is waiting (R158). -/
def State.forwardWaits (s : State) (p : Port) : Bool := !(s.port p).buffer.isEmpty

/-! ## Commands (R79, R80, R105) -/

/-- The azimuth of the sweep aim (R79). -/
def Pattern.azimuth (p : Pattern) (column : Nat) : Nat := (p.azStart + column * p.azStep) % 360

/-- The elevation of the sweep aim (R79). -/
def Pattern.elevation (p : Pattern) (row : Nat) : Nat := min 60 (p.elStart + row * p.elStep)

/-- The sweep aim after an OPEN is sent: the column is incremented, and at the last column the row (R79). -/
def Pattern.advance (p : Pattern) (column row : Nat) : Nat × Nat :=
  if column + 1 < p.cols then (column + 1, row) else (0, if row + 1 < p.rows then row + 1 else 0)

/-- The pattern of a cannon's current target (R69, R78). -/
def State.patternOf (s : State) (c : CannonId) : Pattern := s.patternEntry (s.cannon c).target.pattern

/-- The aim of the burst's OPEN: the sweep aim for a burst granted on an AUTO request, else the aim of its record
(R79, R80, R105). -/
def State.aimOf (s : State) (c : CannonId) (b : Burst) : Nat × Nat :=
  match b.grantClass with
  | .auto => ((s.patternOf c).azimuth (s.cannon c).column, (s.patternOf c).elevation (s.cannon c).row)
  | .manual | .fire => (b.azimuth, b.elevation)

/-- The COMMAND frame of a queued command, built as it is sent (R105). A queued OPEN has a burst record; the frame of
one that has none, which no run reaches, carries zeros. -/
def State.commandFrame (s : State) (q : Command) (node : Byte) : Frame :=
  match q.verb, (s.cannon q.cannon).burst with
  | .openValve, some b =>
    let aim := s.aimOf q.cannon b
    buildFrame node s.ownId kindCommand
      (commandPayload .openValve b.duration b.priority (decide (b.cls = .fire)) aim.1 aim.2)
  | v, _ => buildFrame node s.ownId kindCommand (commandPayload v 0 0 false 0 0)

/-- What the sending of an OPEN does to its cannon (R79, R105). -/
def Cannon.openSentBy (k : Cannon) (p : Pattern) (ack : Nat) : Cannon :=
  let sweeps := k.burst.any fun b => decide (b.grantClass = .auto)
  let aim := if sweeps then p.advance k.column k.row else (k.column, k.row)
  { k with
    burst := k.burst.map fun b => { b with openSent := true }
    openMark := true, column := aim.1, row := aim.2, ackTimer := some ack }

/-- What the sending of a CLOSE does to its cannon (R105). -/
def Cannon.closeSentBy (k : Cannon) (ack : Nat) : Cannon :=
  { k with openMark := false, ackTimer := if k.state = .closing then some ack else k.ackTimer }

/-- The effects of a command's sending on its cannon (R105). -/
def commandSent (q : Command) (s : State) : State :=
  match q.verb with
  | .openValve => s.updCannon q.cannon fun k => k.openSentBy (s.patternOf q.cannon) s.settings.ackTime
  | .closeValve => s.updCannon q.cannon fun k => k.closeSentBy s.settings.ackTime

/-! ## Starting a sending (R157, R158) -/

/-- A frame starts to be sent by a port, from a source that the turn records (R158). -/
def startSending (p : Port) (f : Frame) (t : Turn) (s : State) : State :=
  s.updPort p fun x => { x with sending := some f, turn := t }

/-- The forward source is given the transmitter: the frame at the head of the buffer is sent as it stands (R157). -/
def sendForward (p : Port) (s : State) : State :=
  match (s.port p).buffer with
  | [] => s
  | f :: rest => startSending p f .forward (s.updPort p fun x => { x with buffer := rest })

/-- The insertion source of the field port is given the transmitter. Commands at the head that no VALVE entry holds are
removed unsent; when none is left the forward source has its turn (R105, R159). -/
def sendCommand (s : State) : State :=
  match s.commands.dropWhile (fun q => !s.wired q.cannon) with
  | [] => sendForward .field { s with commands := [] }
  | q :: rest =>
    match s.nodeOf (.valve q.cannon) with
    | some node => startSending .field (s.commandFrame q node) .insertion (commandSent q { s with commands := rest })
    | none => sendForward .field { s with commands := rest }

/-- The REPLY frame of a reply, built as it is sent (R159, R194). -/
def State.replyFrame (s : State) (r : Reply) : Frame := buildFrame r.dest s.ownId kindReply (replyPayload r)

/-- The OVERFLOW notice (R189, R196). -/
def State.overflowFrame (s : State) (dest : Byte) (t : Stamp) : Frame :=
  buildFrame dest s.ownId kindNotice (noticePayload 19 0 ([0, 0] ++ be16 s.notices.lost) t true)

/-- The NOTICE frame of an entry (R189, R196). -/
def State.noticeFrame (s : State) (dest : Byte) (e : NoticeEntry) : Frame :=
  buildFrame dest s.ownId kindNotice (noticePayload e.report.kind e.report.subject e.report.value e.stamp false)

/-- The notice that is ready is sent: OVERFLOW while the marker is set, else the entry at the head (R189). -/
def sendNotice (dest : Byte) (s : State) : State :=
  match s.notices.marker, s.notices.entries with
  | some t, _ =>
    startSending .control (s.overflowFrame dest t) .insertion
      { s with notices := { s.notices with marker := none, lost := 0 } }
  | none, e :: rest =>
    startSending .control (s.noticeFrame dest e) .insertion { s with notices := { s.notices with entries := rest } }
  | none, [] => s

/-- The insertion source of the control port is given the transmitter: a reply if there is one, otherwise the notice
that is ready (R159, R181, R189). -/
def sendReplyOrNotice (s : State) : State :=
  match s.replies, s.noticeDest with
  | r :: rest, _ => startSending .control (s.replyFrame r) .insertion { s with replies := rest }
  | [], some dest => sendNotice dest s
  | [], none => s

/-- A port's source is given the transmitter (R158). -/
def sendFrom (p : Port) (t : Turn) (s : State) : State :=
  match t, p with
  | .forward, _ => sendForward p s
  | .insertion, .field => sendCommand s
  | .insertion, .control => sendReplyOrNotice s

/-! ## The outbound arbiter's decision (R158) -/

/-- The source that did not send the port's previous frame. -/
def otherTurn : Turn → Turn
  | .forward => .insertion
  | .insertion => .forward

/-- The transmitter of a port is idle. -/
def State.idlePort (s : State) (p : Port) : Bool := (s.port p).sending.isNone

/-- The decision at the end of a sending: both sources waiting, the one that did not send the previous frame; one
waiting, that one; neither, the transmitter stays idle (R158). -/
def decideNext (p : Port) (s : State) : State :=
  match s.forwardWaits p, s.insertionWaits p with
  | true, true => sendFrom p (otherTurn (s.port p).turn) s
  | true, false => sendFrom p .forward s
  | false, true => sendFrom p .insertion s
  | false, false => s

/-- The decision when frames join an idle transmitter: where both sources gained one in the same step, either may be
taken first, by a free choice (R158; log entry 7). -/
def decideIdle (p : Port) (s : State) : State :=
  match s.forwardWaits p, s.insertionWaits p with
  | true, true => sendFrom p (if s.nextChoice % 2 = 0 then .forward else .insertion) s.choose
  | true, false => sendFrom p .forward s
  | false, true => sendFrom p .insertion s
  | false, false => s

/-- A port whose transmitter is idle takes what the step made waiting (R158). -/
def transmit (p : Port) (s : State) : State := if s.idlePort p then decideIdle p s else s

/-- The end of a step: each port whose transmitter is idle takes what waits (R158; log entry 7). -/
def transmitBoth (s : State) : State := transmit .control (transmit .field s)

/-- The transmitter of a port ends a frame, and its arbiter decides (R158). -/
def endSending (p : Port) (s : State) : State :=
  decideNext p (s.updPort p fun x => { x with sending := none })

/-- A step of the part: while it is unpowered or held in reset nothing happens (R169); otherwise the step's own effect,
the capacity events it brings, and the sendings it makes due. -/
def stepOf (f : State → State) (s : State) : State :=
  if s.operating then transmitBoth (settle (f s)) else s

/-! ## The rows whose effect is wholly in this file and the two before it -/

/-- The end of a frame's sending (R158); with no frame under way there is no end of one (log entry 1). -/
def execEndOfSending (p : Port) (s : State) : Host.Outcome State Fault Refusal :=
  .next (if s.operating && !s.idlePort p then endSending p s else s)

/-- The pump staleness timer of a station expires (R86, R87). -/
def execPumpStalenessExpiry (g : StationId) (s : State) : Host.Outcome State Fault Refusal :=
  .next (stepOf (fun s => if (s.station g).pumpTimer.isSome then pumpExpiry g s else s) s)

/-- The slot timer of a station expires: a slot start (R92). -/
def execSlotStart (g : StationId) (s : State) : Host.Outcome State Fault Refusal :=
  .next (stepOf (fun s => if (s.station g).slotTimer.isSome then slotStart g s else s) s)

/-- The acknowledgement or stuck retry timer of a cannon expires (R106). -/
def execAcknowledgementTimerExpiry (c : CannonId) (s : State) : Host.Outcome State Fault Refusal :=
  .next (stepOf (fun s => if (s.cannon c).ackTimer.isSome then ackExpiry c s else s) s)

/-- The burst timer of a cannon expires (R107). -/
def execBurstTimerExpiry (c : CannonId) (s : State) : Host.Outcome State Fault Refusal :=
  .next (stepOf (fun s => if (s.cannon c).burstTimer.isSome then burstExpiry c s else s) s)

/-- The hold timer of a cannon expires (R77). -/
def execHoldTimerExpiry (c : CannonId) (s : State) : Host.Outcome State Fault Refusal :=
  .next (stepOf (fun s => if (s.cannon c).holdTimer.isSome then s.updCannon c fun k => { k with holdTimer := none } else s) s)

/-- The quality staleness timer of a source expires (R126, R127). -/
def execQualityStalenessExpiry (w : SourceId) (s : State) : Host.Outcome State Fault Refusal :=
  .next (stepOf (fun s => if (s.source w).timer.isSome then qualityExpiry w s else s) s)

end Sys2Proof.Machine
end

