-- ==== Sys2Proof/Machine/Cannon.lean ====
section
/-! DEFINITION. The cannon unit (chapter 4) and the station's commands to a cannon (section 6.7): targets, mode changes,
requests, conversion, manual close, and the clearing of a fault. -/

namespace Sys2Proof.Machine

/-! ## Current targets (R69 to R72) -/

/-- The target the coverage table and the reference mast give a cannon (R69). -/
def State.deriveTarget (s : State) (c : CannonId) : Target :=
  let mast := s.mast (s.cannonEntry c).refMast
  let e := s.coverage c mast.sector
  { zone := if e.cutoff < mast.gust then none else e.zone, efficiency := e.efficiency, pattern := e.pattern }

/-- The new target is held: a change of zone withdraws an AUTO request of an AUTOMATIC cannon, and a change of pattern
resets the sweep aim (R70, R71). -/
def retarget (c : CannonId) (s : State) : State :=
  let t := s.deriveTarget c
  let auto := decide ((s.cannonEntry c).mode = .automatic)
  s.updCannon c fun k =>
    let held := { k with target := t }
    let aimed := if t.pattern ≠ k.target.pattern then { held with column := 0, row := 0 } else held
    if t.zone ≠ k.target.zone ∧ auto ∧ k.holds .auto then { aimed with request := none, owed := 0 } else aimed

/-- The derivation takes the target zone of a cannon in flight to none, which closes its burst early (R72). -/
def State.losesTarget (s : State) (c : CannonId) : Bool :=
  (s.cannon c).inFlight && (s.cannon c).target.zone.isSome && (s.deriveTarget c).zone.isNone

/-- The targets of the cannons `cs` are derived again; the bursts that lose their target are closed, in a free order
since the rules give none (R70 to R72; log entry 10). -/
def deriveAgain (cs : List CannonId) (s : State) : State :=
  let lost := cs.filter s.losesTarget
  closeAnyOrder lost (cs.foldl (fun s c => retarget c s) s)

/-- The cannons whose reference mast is `m`. -/
def State.referring (s : State) (m : MastId) : List CannonId :=
  (List.finRange 48).filter fun c => (s.cannonEntry c).refMast = m

/-! ## Mode changes (R67, R177) -/

/-- The state a taken mode change gives (R67). -/
def changedState (k : CannonState) : CannonMode → CannonState
  | .automatic => if k = .bypassClosed then .idle else .unknown
  | .bypass => .bypassClosed
  | .outOfService => .retired

/-- A close arises, in every mode but OFF, for an AUTOMATIC cannon in UNKNOWN that is mapped (R177). -/
def closeUnknown (c : CannonId) (s : State) : State :=
  if s.mode ≠ .off ∧ (s.cannonEntry c).mode = .automatic ∧ (s.cannon c).state = .unknown ∧ s.wired c then
    closeWithoutBurst c s
  else s

/-- The states in which a mode change is refused IN-USE (R67). -/
def CannonState.blocksMode : CannonState → Bool
  | .opening | .spraying | .closing | .stuck | .bypassOpen => true
  | .unknown | .idle | .fault | .bypassClosed | .retired => false

/-- The effects of a taken mode change, the entry's mode already written (R67, R89, R101, R114, R177). -/
def takeMode (was : CannonMode) (m : CannonMode) (c : CannonId) (s : State) : State :=
  let moved := s.updCannon c fun k => { k with state := changedState k.state m }
  match was, m with
  | .automatic, _ => (stopWaiting c (dropRequest c moved)).updCannon c fun k => { k with holdTimer := none }
  | _, .automatic =>
    closeUnknown c (confirmingClose c (moved.updCannon c fun k => { k with request := none, owed := 0 }))
  | _, _ => moved

/-- The cannon's entry with its mode written. -/
def writeMode (c : CannonId) (m : CannonMode) (s : State) : State :=
  s.updCfg fun t => { t with cannons := updAt t.cannons c fun e => { e with mode := m } }

/-- A mode change asked for by SET-CANNON-MODE (R67). -/
def setMode (c : CannonId) (m : CannonMode) (s : State) : State × Status :=
  let was := (s.cannonEntry c).mode
  if was = m then (s, .done)
  else if (s.cannon c).state.blocksMode then (s, .inUse)
  else (takeMode was m c (writeMode c m s), .done)

/-! ## The station's commands to a cannon in AUTOMATIC (R115, R116) -/

/-- An OPEN recorded as a request; it replaces the request held, whose preemption ends (R74). -/
def recordRequest (c : CannonId) (q : StationCommand) (s : State) : State :=
  let r := if q.fire then CannonRequest.fire q.priority q.duration q.azimuth q.elevation
    else CannonRequest.manual q.priority q.duration q.azimuth q.elevation
  (dropRequest c s).updCannon c fun k => { k with request := some r }

/-- The burst a conversion leaves (R115). -/
def Burst.converted (b : Burst) (cls : BurstClass) (priority duration planned : Nat) : Burst :=
  { b with cls := cls, priority := priority, duration := duration, planned := planned }

/-- A burst converted to MANUAL is closed at once in HALT and WATCH, and where its credited zone is excluded (R144,
R172). -/
def closeConverted (c : CannonId) (b : Burst) (cls : BurstClass) (s : State) : State :=
  if cls = .manual ∧ (s.mode = .halt ∨ s.mode = .watch ∨ s.excludedOpt b.credited) then earlyClose c s else s

/-- A conversion that fits: the commitment is replaced, the burst takes its new class, priority, duration and planned
draw, a running burst timer restarts, and the request held is removed (R115). -/
def convert (c : CannonId) (q : StationCommand) (b : Burst) (s : State) : State :=
  let cls := if q.fire then BurstClass.fire else BurstClass.manual
  let planned := plannedDraw (s.cannonEntry c).flow q.duration
  let paid := replaceCommit b.source b.planned planned s
  let changed := (dropRequest c paid).updCannon c fun k =>
    { k with
      burst := some (b.converted cls q.priority q.duration planned)
      burstTimer := if k.state = .spraying then some q.duration else k.burstTimer }
  closeConverted c b cls changed

/-- The burst's own source fits the conversion, with its present planned draw set aside (R115, R128). -/
def State.conversionFits (s : State) (c : CannonId) (q : StationCommand) (b : Burst) : Bool :=
  sourceFits (s.sourceEntry b.source) (s.source b.source) (if q.fire then .fire else .manual) q.priority
    (plannedDraw (s.cannonEntry c).flow q.duration) ((s.source b.source).committed - b.planned)

/-- The hold timer a manual CLOSE leaves: none for a hold time of 0 (R77). -/
def holdOf (time : Nat) : Option Nat := if time = 0 then none else some time

/-- A CLOSE passed by admission: the request is removed, the hold timer starts, and the valve is closed by state
(R77, R116). -/
def manualClose (c : CannonId) (s : State) : State :=
  let held := (dropRequest c s).updCannon c fun k => { k with holdTimer := holdOf (s.cannonEntry c).holdTime }
  match (s.cannon c).state with
  | .opening | .spraying => earlyClose c held
  | .unknown => closeWithoutBurst c held
  | .idle | .closing | .stuck | .fault | .bypassClosed | .bypassOpen | .retired => held

/-! ## Clearing a fault (R117) -/

/-- CLEAR-FAULT on a cannon (R117). -/
def clearFaultOf (c : CannonId) (s : State) : State × Status :=
  match (s.cannon c).state with
  | .fault => (confirmingClose c (s.updCannon c fun k => { k with state := .idle }), .done)
  | .closing | .stuck => (s, .inUse)
  | .unknown | .idle | .opening | .spraying | .bypassClosed | .bypassOpen | .retired => (s, .done)

/-! ## Field link loss and return (R175, R176) -/

/-- What the loss of the field link does to one cannon in the four states (R132, R175). -/
def loseCannon (c : CannonId) (s : State) : State :=
  if (s.cannon c).state.holdsPlace then
    let paid := match (s.cannon c).burst with
      | some b => releaseWithDraw b.source b.planned b.planned s
      | none => s
    endClosing c (leavePlace c (paid.updCannon c fun k =>
      { k with state := .unknown, burst := none, burstTimer := none, ackTimer := none, faultPending := false }))
  else s

/-- The field link becomes DOWN (R175). -/
def fieldDown (s : State) : State :=
  let lost := (s.cannonsWhere fun _ k => k.state.holdsPlace).length
  raise (.fieldDown lost) { eachCannon loseCannon s with commands := [] }

/-- The cannons whose close arises at the field link's return (R176). -/
def State.returning (s : State) : List CannonId :=
  s.cannonsWhere fun c k =>
    decide ((s.cannonEntry c).mode = .automatic ∧ k.state = .unknown) && s.wired c

/-- The IDLE cannons whose open-sent mark is set and which have no command queued (R114). -/
def State.unconfirmed (s : State) : List CannonId :=
  s.cannonsWhere fun c k => decide (k.state = .idle ∧ k.openMark) && !s.hasCommand c

/-- Their confirming CLOSEs are placed in a free order, since R114 and the first stage of R176 give none (log entry 10). -/
def confirmAnyOrder (s : State) : State :=
  let o := shuffle s.unconfirmed s
  o.1.foldl (fun s c => confirmingClose c s) o.2

/-- The field link becomes UP: confirming CLOSEs, the closes of UNKNOWN cannons, FIELD-UP, and a capacity event at
each station (R114, R176). A cannon already on a close waiting list stays where it is. -/
def fieldUp (s : State) : State :=
  let confirmed := confirmAnyOrder s
  let closes := confirmed.returning
  let closed := closes.foldl (fun s c => if s.closeWaiting c then s else closeWithoutBurst c s) confirmed
  let told := raise (.fieldUp closes.length) closed
  settle { told with dueCapacity := told.dueCapacity ++ List.finRange 4 }

end Sys2Proof.Machine
end

