-- ==== Sys2Proof/Machine/Risk.lean ====
section
/-! DEFINITION. Zone risk evaluation (chapter 3): evaporation, the choice of wind, the risk computation, banding, the
wake, and the posting and withdrawal of requests. -/

namespace Sys2Proof.Machine

/-! ## Evaporation and wind (R44, R45) -/

/-- The evaporation rate: of the current slot, or the default setting (R30, R44). -/
def State.evapRate (s : State) : Nat := s.currentSlot.elim s.settings.defaultEvap fun i => (s.slotAt i).evap

/-- Evaporation over a period of `t` seconds at `rate` (R44). -/
def Zone.evaporate (x : Zone) (rate t : Nat) : Zone :=
  let n := rate * t + x.remainder
  { x with mest := x.mest - n / 3600, remainder := n % 3600 }

/-- The wind of an evaluation, and whether it comes from the forecast (R45). -/
structure Wind where
  mean : Nat
  gust : Nat
  sector : Sector
  forecast : Bool
  deriving DecidableEq, Repr

/-- The wind of a FRESH mast (R12, R45). -/
def Mast.wind (m : Mast) : Option Wind :=
  if m.fresh then some { mean := m.acc / 16, gust := m.gust, sector := m.sector, forecast := false } else none

/-- The wind of the current slot (R45). -/
def State.forecastWind (s : State) : Option Wind :=
  s.currentSlot.map fun i =>
    { mean := (s.slotAt i).mean, gust := (s.slotAt i).gust, sector := (s.slotAt i).sector, forecast := true }

/-- The first wind available: primary mast, fallback mast, current slot (R45). -/
def State.windOf (s : State) (e : ZoneEntry) : Option Wind :=
  ((s.mast e.primary).wind.or (e.fallback.bind fun m => (s.mast m).wind)).or s.forecastWind

/-! ## The risk computation (R47 to R51) -/

/-- floor((3 × mean + gust + 2) / 4) (R47). -/
def effectiveWind (mean gust : Nat) : Nat := (3 * mean + gust + 2) / 4

/-- The planning wind from the effective wind, with the lead slot where one exists (R47). -/
def State.planningWind (s : State) (we : Nat) : Nat :=
  match s.leadSlot with
  | some i => max we ((we + effectiveWind (s.slotAt i).mean (s.slotAt i).gust) / 2)
  | none => we

/-- The erosion term from the planning wind and the threshold (R48). -/
def erosion (wp ut : Nat) : Nat := min 1000 ((wp - ut) * wp / 64)

/-- The moisture used: the probe's value while FRESH, else the estimate (R49). -/
def State.moistureOf (s : State) (z : ZoneId) : Nat :=
  if (s.probe z).fresh then (s.probe z).value else (s.zone z).mest

/-- The surface term (R49). -/
def surface (q m mref : Nat) : Nat := q * (256 * (mref - m) / mref) / 256

/-- The dust bonus (R50). -/
def State.dustBonus (s : State) (e : ZoneEntry) : Nat :=
  match e.dust with
  | none => 0
  | some d =>
    let c := (s.dust d).acc / 4
    let l := s.settings.alertLevels[d]
    if (s.dust d).fresh ∧ l ≤ c then min 250 ((c - l) * 250 / l) else 0

/-- The weighted risk (R51). -/
def weighted (e : ZoneEntry) (sector : Sector) (r2 : Nat) : Nat :=
  if e.sensitive.getLsbD sector.val then r2 * 3 / 2 else r2

/-- The risk of zone `z` from its planning wind, sector and moisture (R48 to R51). -/
def State.riskOf (s : State) (z : ZoneId) (wp : Nat) (sector : Sector) (m : Nat) : Nat :=
  let e := s.zoneEntry z
  let r2 := surface (erosion wp e.threshold) m e.mref + s.dustBonus e
  min 1000 (weighted e sector r2 + if s.working z then 100 else 0)

/-! ## Banding, its notices and the wake (R52, R54, R173) -/

/-- The profile of a zone (R38). -/
def State.profileOf (s : State) (z : ZoneId) : Profile := s.profile (s.zoneEntry z).profile

/-- The band the zone moves to from its stored risk (R52). -/
def State.nextBand (s : State) (z : ZoneId) : Band := (s.profileOf z).decideBand (s.zone z).risk (s.zone z).band

/-- The zone's new band hands a wake: R54 says so of every change to ACT or SEVERE, and R173 of a rise to them; the model takes
R54's words, so a fall from SEVERE to ACT wakes too (R54, R173; log entry 33). -/
def State.wakes (s : State) (z : ZoneId) (b : Band) : Bool :=
  decide (b = .act ∨ b = .severe) && (s.zoneEntry z).watch && decide (s.mode = .watch)

/-- The mode changes, and the change is recorded for READ-STATE (R170, R178). -/
def changeMode (m : DispatchMode) (cause : ModeCause) (s : State) : State :=
  { s with mode := m, lastChange := some { previous := s.mode, cause := cause } }

/-- The zones `zs` are re-banded from their stored risk; the notices of the changes, and of the wake where one of them
wakes dispatch, are raised together. Of several wakes the first taken returns dispatch to RUN, and which is first is
free (R41, R52, R54, R173, R188; log entry 9). -/
def rebandAll (zs : List ZoneId) (s : State) : State :=
  let changed := zs.filter fun z => s.nextBand z ≠ (s.zone z).band
  let waking := shuffle (changed.filter fun z => s.wakes z (s.nextBand z)) s
  let banded := changed.foldl (fun t z => t.updZone z fun x => { x with band := s.nextBand z }) waking.2
  let reports := changed.map fun z => Report.bandChange z (s.nextBand z) (s.zone z).risk
  match waking.1 with
  | [] => raiseAll reports banded
  | z :: _ =>
    raiseAll (reports ++ [.wake z (s.nextBand z), .dispatchMode .run .watch .wake]) (changeMode .run .wake banded)

/-! ## Priority, posting and withdrawal (R55 to R58) -/

/-- The priority of a zone's requests, or none (R55). -/
def priorityOf (b : Band) (uplift deferral : Bool) : Option Nat :=
  match b with
  | .severe => some 3
  | .act => if deferral then none else some 2
  | .watch => if uplift && !deferral then some 1 else none
  | .calm => none

/-- An AUTO posting of priority `p` for zone `z` reaches a cannon (R56, R74). -/
def Cannon.posted (k : Cannon) (p : Nat) (z : ZoneId) : Cannon :=
  match k.request with
  | none => { k with request := some (.auto p z), owed := 0 }
  | some (.auto ..) => { k with request := some (.auto p z) }
  | some (.manual ..) => k
  | some (.fire ..) => k

/-- The zone posts to every cannon aimed at it that may take a posting (R56). -/
def post (p : Nat) (z : ZoneId) (s : State) : State :=
  eachCannon (fun c s =>
    if (s.cannonEntry c).mode = .automatic ∧ (s.cannon c).target.zone = some z ∧ (s.cannon c).holdTimer = none then
      s.updCannon c fun k => k.posted p z
    else s) s

/-- The request is an AUTO request owned by zone `z`. -/
def CannonRequest.ownedBy (r : CannonRequest) (z : ZoneId) : Bool :=
  match r with
  | .auto _ y => decide (y = z)
  | .manual .. => false
  | .fire .. => false

/-- Every AUTO request owned by the zone is withdrawn (R57). -/
def withdraw (z : ZoneId) (s : State) : State :=
  eachCannon (fun c s =>
    s.updCannon c fun k => if k.request.any (·.ownedBy z) then { k with request := none, owed := 0 } else k) s

/-- Posting or withdrawal by the priority; neither in OFF (R56 to R58). -/
def postOrWithdraw (z : ZoneId) (s : State) : State :=
  if s.mode = .off then s
  else match priorityOf (s.zone z).band (s.zone z).uplift s.rainDeferral with
    | some p => post p z s
    | none => withdraw z s

/-! ## The evaluation event (R42, R43, R46) -/

/-- A BLIND evaluation (R46). -/
def blindOutcome (z : ZoneId) (s : State) : State :=
  let marked := s.updZone z fun x => { x with blind := true, forecastOnly := false }
  if (s.zone z).blind then marked else raise (.zoneBlind z true) marked

/-- The flags, uplift and risk that an evaluation with a wind stores (R45, R47 to R51). -/
def storeRisk (z : ZoneId) (w : Wind) (s : State) : State :=
  let we := effectiveWind w.mean w.gust
  let wp := s.planningWind we
  s.updZone z fun x =>
    { x with
      blind := false, forecastOnly := w.forecast, sectorUsed := w.sector, uplift := decide (we < wp),
      risk := s.riskOf z wp w.sector (s.moistureOf z) }

/-- An evaluation of the zone whose timer ran for `t` seconds (R43). -/
def evaluate (z : ZoneId) (t : Nat) (s : State) : State :=
  let dried := s.updZone z fun x => x.evaporate s.evapRate t
  match dried.windOf (dried.zoneEntry z) with
  | none => blindOutcome z dried
  | some w =>
    let seen := if (dried.zone z).blind then raise (.zoneBlind z false) dried else dried
    postOrWithdraw z (rebandAll [z] (storeRisk z w seen))

/-- The evaluation timer of a zone expires: it restarts, and the zone is evaluated, or skipped in WATCH without the
watch flag (R42). -/
def evaluationExpiry (z : ZoneId) (s : State) : State :=
  match (s.zone z).timer with
  | none => s
  | some t =>
    let restarted := s.updZone z fun x =>
      { x with timer := some { remaining := s.settings.evalPeriod, period := s.settings.evalPeriod } }
    if s.mode = .watch ∧ ¬ (s.zoneEntry z).watch then restarted else evaluate z t.period restarted

/-- The evaluation timer of a zone expires (R42). -/
def execEvaluationTimerExpiry (z : ZoneId) (s : State) : Host.Outcome State Fault Refusal :=
  .next (stepOf (evaluationExpiry z) s)

end Sys2Proof.Machine
end

