-- ==== Sys2Proof/Machine/Sensing.lean ====
section
/-! DEFINITION. The sensing unit (chapter 1): mast, dust monitor and probe records, level events of the water unit, and
the delivery of a SAMPLE frame record by record. -/

namespace Sys2Proof.Machine

/-! ## Masts (R13 to R16) -/

/-- A mast after a speed sample (R13). -/
def Mast.speed (m : Mast) (v decay stale : Nat) : Mast :=
  if m.fresh then
    { m with acc := m.acc - m.acc / 16 + v, gust := max v (m.gust - decay), timer := some stale }
  else { m with acc := 16 * v, gust := v, fresh := true, timer := some stale }

/-- The candidate sector of a direction (R14). -/
def candidateSector (d : Nat) : Sector := ⟨(2 * d + 22) / 45 % 16, Nat.mod_lt _ (by omega)⟩

/-- A mast after a direction sample (R14). -/
def Mast.direction (m : Mast) (d : Nat) : Mast :=
  let k := candidateSector d
  if k = m.sector then { m with pendingSector := none, count := 0 }
  else if m.pendingSector = some k then
    if 3 ≤ m.count + 1 then { m with sector := k, pendingSector := none, count := 0 }
    else { m with count := m.count + 1 }
  else { m with pendingSector := some k, count := 1 }

/-- A speed sample is applied and its gust handed to the cannon unit (R13, R70). -/
def speedSample (m : MastId) (v : Nat) (s : State) : State :=
  let applied := s.updMast m fun x => x.speed v s.settings.gustDecay s.settings.mastStale
  deriveAgain (applied.referring m) applied

/-- A direction sample is applied; a change of sector is handed to the cannon unit (R14, R15, R70). -/
def directionSample (m : MastId) (d : Nat) (s : State) : State :=
  let applied := s.updMast m fun x => x.direction d
  if (applied.mast m).sector = (s.mast m).sector then applied else deriveAgain (applied.referring m) applied

/-- The staleness timer of a mast expires (R16). -/
def mastExpiry (m : MastId) (s : State) : State :=
  raise (.mastStale m ((s.mast m).acc / 16)) (s.updMast m fun x => { x with fresh := false, timer := none })

/-! ## Dust monitors and probes (R18, R19) -/

/-- A dust monitor after a concentration sample (R18). -/
def Dust.sample (d : Dust) (v stale : Nat) : Dust :=
  if d.fresh then { d with acc := d.acc - d.acc / 4 + v, timer := some stale }
  else { acc := 4 * v, fresh := true, timer := some stale }

def dustSample (d : DustId) (v : Nat) (s : State) : State := s.updDust d fun x => x.sample v s.settings.dustStale

/-- The staleness timer of a dust monitor expires (R18). -/
def dustExpiry (d : DustId) (s : State) : State := s.updDust d fun x => { x with fresh := false, timer := none }

/-- A moisture sample sets the probe's value and the zone's moisture estimate (R19). -/
def moistureSample (z : ZoneId) (v : Nat) (s : State) : State :=
  (s.updProbe z fun _ => { value := v, fresh := true, timer := some s.settings.probeStale }).updZone z
    fun x => { x with mest := v }

/-- The staleness timer of a probe expires (R19). -/
def probeExpiry (z : ZoneId) (s : State) : State := s.updProbe z fun x => { x with fresh := false, timer := none }

/-! ## Level events (R123, R124) -/

/-- The cannons in flight whose burst draws from the source (R124). -/
def State.drawingFrom (s : State) (w : SourceId) : List CannonId :=
  s.cannonsWhere fun _ k => k.flying fun b => decide (b.source = w)

/-- A level record of `v` cubic metres: the estimate is replaced, and a metered estimate below the floor closes the
bursts drawing from the source and raises SOURCE-LOW on the way down (R123, R124). -/
def levelEvent (w : SourceId) (v : Nat) (s : State) : State :=
  let e := s.sourceEntry w
  let level := v * 1000
  let told := s.updSource w fun x => { x with estimate := some level }
  if e.metered ∧ level < e.floor then
    let shut := closeAnyOrder (told.drawingFrom w) told
    if (s.source w).estimate.all (e.floor ≤ ·) then raise (.sourceLow w e.kind level) shut else shut
  else told

/-! ## A SAMPLE frame (R8, R9) -/

/-- One usable record, by the role of its source and its channel; a channel the role does not use is ignored, and a
wind direction outside 0–359 is handled as BAD (R8). -/
def applyRecord (role : NodeRole) (r : SampleRecord) (s : State) : State :=
  match role, r.channel with
  | .mast m, 0 => speedSample m (clampInt 600 r.value) s
  | .mast m, 1 => if 0 ≤ r.value ∧ r.value ≤ 359 then directionSample m r.value.toNat s else s
  | .dust d, 0 => dustSample d (clampInt 9999 r.value) s
  | .moisture z, 0 => moistureSample z (clampInt 300 r.value) s
  | .level w, 0 => levelEvent w (clampInt 4000000 r.value) s
  | .quality w, 0 => turbidityRecord w (clampInt 10000 r.value) s
  | .quality w, 1 => conductivityRecord w (clampInt 200000 r.value) s
  | _, _ => s

/-- The records of a SAMPLE frame in payload order, each applied completely, its capacity events with it, before the
next is taken; BAD records and unknown qualities are discarded (R8). -/
def applyRecords (role : NodeRole) (rs : List SampleRecord) (s : State) : State :=
  rs.foldl (fun s r => if r.usable then settle (applyRecord role r s) else s) s

/-! ## The rows of the three staleness timers -/

/-- The staleness timer of a mast expires (R16). -/
def execMastStalenessExpiry (m : MastId) (s : State) : Host.Outcome State Fault Refusal :=
  .next (stepOf (fun s => if (s.mast m).timer.isSome then mastExpiry m s else s) s)

/-- The staleness timer of a dust monitor expires (R18). -/
def execDustStalenessExpiry (d : DustId) (s : State) : Host.Outcome State Fault Refusal :=
  .next (stepOf (fun s => if (s.dust d).timer.isSome then dustExpiry d s else s) s)

/-- The staleness timer of a probe expires (R19). -/
def execProbeStalenessExpiry (z : ZoneId) (s : State) : Host.Outcome State Fault Refusal :=
  .next (stepOf (fun s => if (s.probe z).timer.isSome then probeExpiry z s else s) s)

end Sys2Proof.Machine
end

