-- ==== Sys2Proof/Machine/Clock.lean ====
section
/-! DEFINITION. The yard clock and the loading of the forecast ring (chapter 2), and the machine table (chapter 8). -/

namespace Sys2Proof.Machine

/-! ## The second event (R24) -/

/-- One second of a day and second count: the day advances at 86400, with 65535 followed by 0 (R24). -/
def nextSecond (day second : Nat) : Nat × Nat :=
  if second + 1 < 86400 then (day, second + 1) else ((day + 1) % 65536, 0)

/-- The second event's midnight wrap of the yard clock (R24, R26). -/
def Clock.wraps (k : Clock) : Bool := k.timeSet && decide (86400 ≤ k.second + 1)

/-- The uptime count, and while the time state is SET the yard clock, advance (R24). -/
def Clock.advance (k : Clock) : Clock :=
  let up := nextSecond k.upDay k.upSecond
  let yard := if k.timeSet then nextSecond k.day k.second else (k.day, k.second)
  { k with day := yard.1, second := yard.2, upDay := up.1, upSecond := up.2 }

/-- One second off every timer of a cannon (R24; log entry 2). -/
def Cannon.tickTimers (k : Cannon) : Cannon :=
  { k with holdTimer := tick k.holdTimer, burstTimer := tick k.burstTimer, ackTimer := tick k.ackTimer }

/-- One second off every running timer of the part (R24; log entry 2). -/
def tickTimers (s : State) : State :=
  { s with
    masts := s.masts.map fun m => { m with timer := tick m.timer }
    dusts := s.dusts.map fun d => { d with timer := tick d.timer }
    probes := s.probes.map fun p => { p with timer := tick p.timer }
    zones := s.zones.map fun z => { z with timer := z.timer.map fun t => { t with remaining := t.remaining - 1 } }
    cannons := s.cannons.map fun k => k.tickTimers.countOpen
    stations := s.stations.map fun g => { g with slotTimer := tick g.slotTimer, pumpTimer := tick g.pumpTimer }
    sources := s.sources.map fun w => { w with timer := tick w.timer }
    machines := s.machines.map fun m => { m with timer := tick m.timer }
    controlPort := { s.controlPort with liveness := tick s.controlPort.liveness }
    fieldPort := { s.fieldPort with liveness := tick s.fieldPort.liveness } }

/-- The second event: every timer runs, open seconds count, the clock advances, and a midnight wrap of the yard clock is
a day change (R24, R26, R103). -/
def secondEvent (s : State) : State :=
  let ticked := { tickTimers s with clock := s.clock.advance }
  if s.clock.wraps then dayChange ticked else ticked

/-- One second of the crystal (R24). -/
def execSecondEvent (s : State) : Host.Outcome State Fault Refusal := .next (stepOf secondEvent s)

/-! ## TIME frames (R25) -/

/-- A TIME frame sets the yard clock; a change of day while SET is a day change (R25, R26). -/
def timeFrame (day second : Nat) (s : State) : State :=
  let told := { s with clock := { s.clock with timeSet := true, day := day, second := second } }
  if s.clock.timeSet ∧ day ≠ s.clock.day then dayChange told else told

/-! ## Loading the ring (R32, R33) -/

/-- A record of LOAD-FORECAST (R194). -/
structure ForecastRecord where
  mean : Nat
  gust : Nat
  sector : Nat
  rain : Nat
  evap : Nat
  deriving DecidableEq, Repr

/-- The ranges of R29 (R32). -/
def ForecastRecord.ok (r : ForecastRecord) : Bool :=
  decide (r.mean ≤ 600 ∧ r.gust ≤ 600 ∧ r.sector ≤ 15 ∧ r.rain ≤ 100 ∧ r.evap ≤ 100)

/-- The records of a LOAD-FORECAST body (R194). -/
def readForecast : List Byte → List ForecastRecord
  | a :: b :: c :: d :: e :: f :: g :: rest =>
    { mean := nat16 a b, gust := nat16 c d, sector := e.toNat, rain := f.toNat, evap := g.toNat } :: readForecast rest
  | _ => []

/-- A record's slot (R29, R33). -/
def ForecastRecord.slot (r : ForecastRecord) (hour : Nat) : ForecastSlot :=
  { valid := true, hour := hour, mean := r.mean, gust := r.gust,
    sector := ⟨r.sector % 16, Nat.mod_lt _ (by omega)⟩, rain := r.rain, evap := r.evap }

/-- The records from `hour` onward, judged against epoch `e`: written within 0 to 47 hours after it, else skipped. The
answer counts the records written (R33). -/
def loadRecords (e : Nat) : Nat → List ForecastRecord → State → State × Nat
  | _, [], s => (s, 0)
  | hour, r :: rest, s =>
    let next := (hour + 1) % epochCycle
    if hoursAfter e hour < 48 then
      let done := loadRecords e next rest (s.updSlot (slotIndex hour) fun _ => r.slot hour)
      (done.1, done.2 + 1)
    else loadRecords e next rest s

/-- LOAD-FORECAST carried out: with the time state UNSET every record is skipped (R33). -/
def loadForecast (start : Nat) (rs : List ForecastRecord) (s : State) : State × Nat :=
  match s.epoch with
  | some e => loadRecords e start rs s
  | none => (s, 0)

/-! ## The machine table (R139 to R145) -/

/-- The bursts an exclusion start of zone `z` closes: in flight, crediting `z`, and not FIRE (R143). -/
def State.creditingZone (s : State) (z : ZoneId) : List CannonId :=
  s.cannonsWhere fun _ k => k.flying fun b => decide (b.credited = some z ∧ b.cls ≠ .fire)

/-- After an event that may have excluded zone `z`, which `was` excluded or not before it: an exclusion start closes
the zone's bursts in ascending cannon number (R143). -/
def exclusionAfter (was : Bool) (z : ZoneId) (s : State) : State :=
  if s.excluded z && !was then closeEach (s.creditingZone z) s else s

/-- The record leaves the count of the zone it was counted in (R139, R141). -/
def uncount (m : MachineId) (s : State) : State :=
  match (s.machine m).presence, (s.machine m).zone with
  | .absent, _ => s
  | _, some z => s.updCount z (· - 1)
  | _, none => s

/-- A MACHINE frame for record `m` (R139, R143). -/
def machineFrame (m : MachineId) (kind : MachineKind) (activity : Activity) (zone : Option ZoneId) (s : State) : State :=
  let set := (uncount m s).updMachine m fun _ =>
    { presence := .present, kind := kind, activity := activity, zone := zone, timer := some s.settings.machineStale }
  match zone with
  | none => set
  | some z => exclusionAfter (s.excluded z) z (set.updCount z (· + 1))

/-- The staleness timer of a machine record expires (R140). -/
def machineExpiry (m : MachineId) (s : State) : State :=
  let x := s.machine m
  raise (.machineStale m x.zone x.kind x.activity)
    (s.updMachine m fun x => { x with presence := .stale, timer := none })

/-- CLEAR-MACHINE on a record (R141). -/
def clearMachineOf (m : MachineId) (s : State) : State :=
  if (s.machine m).presence = .absent then s
  else (uncount m s).updMachine m fun x => { x with presence := .absent, timer := none }

/-- The staleness timer of a machine record expires (R140). -/
def execMachineStalenessExpiry (m : MachineId) (s : State) : Host.Outcome State Fault Refusal :=
  .next (stepOf (fun s => if (s.machine m).timer.isSome then machineExpiry m s else s) s)

end Sys2Proof.Machine
end

