-- ==== Sys2Proof/Machine/Through.lean ====
section
/-! DEFINITION. The through path and command admission (chapter 9): error flags, link liveness, delivery of snooped
frames, admission and substitution of the station's commands, and the disposition of a completed frame. -/

namespace Sys2Proof.Machine

/-! ## Frame errors (R152 to R154) -/

/-- A frame error sets its flag; a flag that was clear raises PORT-ERROR, unless dispatch is in WATCH and the
watch-quiet setting is yes (R152, R154). -/
def frameError (p : Port) (k : FlagKind) (s : State) : State :=
  if (s.port p).flags.get k then s
  else
    let flagged := s.updPort p fun x => { x with flags := x.flags.set k }
    if s.mode = .watch ∧ s.settings.watchQuiet then flagged
    else raise (.portError p k (flagged.port p).flags) flagged

/-! ## Link liveness (R160, R161) -/

/-- A well-formed frame restarts the port's liveness timer and brings a DOWN link UP; the field link's return is handed
to the dispatch unit (R160, R161). -/
def linkAlive (p : Port) (s : State) : State :=
  let alive := s.updPort p fun x => { x with up := true, liveness := some s.settings.linkTimeout }
  match p, (s.port p).up with
  | .field, false => fieldUp alive
  | .field, true => alive
  | .control, _ => alive

/-- A port's liveness timer expires: its link becomes DOWN; the field link's loss is handed to the dispatch unit (R160,
R161). -/
def linkExpiry (p : Port) (s : State) : State :=
  let silent := s.updPort p fun x => { x with up := false, liveness := none }
  match p with
  | .field => fieldDown silent
  | .control => silent

/-- A port's liveness timer expires (R160). -/
def execLivenessTimerExpiry (p : Port) (s : State) : Host.Outcome State Fault Refusal :=
  .next (stepOf (fun s => if (s.port p).liveness.isSome then linkExpiry p s else s) s)

/-! ## Snooping and delivery (R6, R7) -/

/-- A well-formed frame is snooped when its kind, its source's role and its arrival port agree, and delivered when its
payload has the form its kind requires (R6, R7, R10, R11). -/
def snoop (p : Port) (f : Frame) (s : State) : State :=
  let body := framePayload f
  let role := s.roleOf (frameSource f)
  match p with
  | .field =>
    if frameKind f = kindSample then
      if sampleLengthOk body then applyRecords role (readSamples body) s else s
    else if frameKind f = kindStatus then
      match role with
      | .valve c =>
        match readValveStatus body with
        | some (v, litres) => settle (valveStatus c v litres s)
        | none => s
      | .pump g =>
        match readPumpStatus body with
        | some (st, pressure) => settle (pumpStatus g st pressure s)
        | none => s
      | _ => s
    else if frameKind f = kindMachine then
      match role, readMachine body with
      | .machine m, some (k, a, z) => settle (machineFrame m k a z s)
      | _, _ => s
    else s
  | .control =>
    if frameKind f = kindTime then
      match role, readTime body with
      | .supervisor _, some (day, second) => timeFrame day second s
      | _, _ => s
    else s

/-! ## Admission (R164 to R168) -/

/-- A refused COMMAND is absorbed and COMMAND-REFUSED is raised (R164, R193). -/
def refuse (subject : CannonId) (reason : RefuseReason) (body : List Byte) (addressed : CannonId)
    (substitute : Option CannonId) (s : State) : State :=
  raise (.commandRefused subject reason (refusedVerb body) (refusedFire body) addressed substitute) s

/-- An accepted OPEN: a conversion in OPENING and SPRAYING, else recorded as a request, and a FIRE request arbitrated at
once (R115, R166). -/
def acceptOpen (c : CannonId) (q : StationCommand) (body : List Byte) (addressed : CannonId)
    (substitute : Option CannonId) (s : State) : State :=
  match (s.cannon c).inFlight, (s.cannon c).burst with
  | true, some b =>
    if s.conversionFits c q b then convert c q b s else refuse c .water body addressed substitute s
  | _, _ => if q.fire then arbitrateFire c (recordRequest c q s) else recordRequest c q s

/-- A command judged on AUTOMATIC cannon `c` (R166); `addressed` is the cannon the frame names. -/
def automaticCommand (c : CannonId) (body : List Byte) (addressed : CannonId) (substitute : Option CannonId)
    (s : State) : State :=
  match readCommand body with
  | none => refuse c .malformed body addressed substitute s
  | some q =>
    match q.verb with
    | .closeValve => manualClose c s
    | .openValve =>
      if s.mode = .off then refuse c .wrongMode body addressed substitute s
      else if !s.fieldPort.up then refuse c .linkDown body addressed substitute s
      else if (s.cannon c).state = .fault ∨ (s.cannon c).state = .stuck then
        refuse c .cannonState body addressed substitute s
      else acceptOpen c q body addressed substitute s

/-- The frame joins the tail of the forward buffer of the port other than its arrival port (R155). -/
def forward (p : Port) (f : Frame) (s : State) : State :=
  s.updPort (otherPort p) fun x => { x with buffer := x.buffer ++ [f] }

/-- The frame with its destination rewritten and its check recomputed; its source, kind, length and payload stand
(R168). -/
def readdress (f : Frame) (node : Byte) : Frame :=
  let body := node :: (f.take (f.length - 2)).drop 1
  body ++ be16 (crc16 body).toNat

/-- The window holds the cannon: base at or below it and limit at or above it (R167). -/
def Window.holds (w : Window) (c : CannonId) : Bool := decide (w.base ≤ c ∧ c ≤ w.limit)

/-- The number the first window that holds `c` gives: target + (c − base) (R168). -/
def State.substituteOf (s : State) (c : CannonId) : Option Nat :=
  (s.cfg.windows.toList.find? (·.holds c)).map fun w => w.target.val + (c.val - w.base.val)

/-- A command for a cannon in OUT-OF-SERVICE (R168). -/
def substitutedCommand (c : CannonId) (f : Frame) (s : State) : State :=
  let body := framePayload f
  match (s.substituteOf c).bind (below 48) with
  | none => refuse c .noSubstitute body c none s
  | some d =>
    match (s.cannonEntry d).mode with
    | .outOfService => refuse c .noSubstitute body c (some d) s
    | .automatic =>
      if s.wired d then automaticCommand d body c (some d) s else refuse c .unwired body c (some d) s
    | .bypass =>
      match s.nodeOf (.valve d) with
      | some node => forward .control (readdress f node) s
      | none => refuse c .unwired body c (some d) s

/-- Admission of a COMMAND frame for the cannon `c` of its destination's VALVE entry (R164). -/
def admission (c : CannonId) (f : Frame) (s : State) : State :=
  if !s.isSupervisor (frameSource f) then refuse c .notPermitted (framePayload f) c none s
  else match (s.cannonEntry c).mode with
    | .bypass => forward .control f s
    | .automatic => automaticCommand c (framePayload f) c none s
    | .outOfService => substitutedCommand c f s

/-! ## Disposition (R153, R155, R156) -/

/-- A frame addressed to the part: a MANAGE frame at the control port joins the request queue, or is an OVERRUN when it
is full; every other frame is discarded (R153, R156). -/
def ownFrame (p : Port) (f : Frame) (s : State) : State :=
  if p = .control ∧ frameKind f = kindManage then
    if s.requests.length < 4 then
      { s with requests := s.requests ++ [{ source := frameSource f, payload := framePayload f }] }
    else frameError .control .overrun s
  else s

/-- Admission takes a COMMAND at the control port whose destination is mapped VALVE; every other frame is forwarded
(R155). -/
def passOn (p : Port) (f : Frame) (s : State) : State :=
  match p, decide (frameKind f = kindCommand), s.roleOf (frameDest f) with
  | .control, true, .valve c => admission c f s
  | _, _, _ => forward p f s

/-- A well-formed frame: liveness first, then the room it needs, then its disposition (R153, R155, R160). -/
def wellFormedFrame (p : Port) (f : Frame) (s : State) : State :=
  let alive := linkAlive p s
  if frameDest f = s.ownId then ownFrame p f alive
  else if 4 ≤ (alive.port (otherPort p)).buffer.length then frameError p .overrun alive
  else passOn p f (snoop p f alive)

/-- A frame completes at a port and is judged as one event (R151, R152). -/
def completeFrame (p : Port) (f : Frame) (s : State) : State :=
  match frameFault f with
  | some k => frameError p k s
  | none => wellFormedFrame p f s

/-- A frame completes at a port (R151). -/
def execFrameCompletion (p : Port) (bytes : List Byte) (s : State) : Host.Outcome State Fault Refusal :=
  .next (stepOf (completeFrame p bytes) s)

end Sys2Proof.Machine
end

