-- ==== Sys2Proof/Machine/Modes.lean ====
section
/-! DEFINITION. The dispatch mode and its five verbs (chapter 10): START and its close sweep, WATCH, HALT, RESUME and
STOP. -/

namespace Sys2Proof.Machine

/-- A verb's change of mode with its notice (R170). -/
def enterMode (m : DispatchMode) (s : State) : State :=
  raise (.dispatchMode m s.mode .request) (changeMode m .request s)

/-! ## START (R171) -/

/-- The cannons of the close sweep, in ascending cannon number: AUTOMATIC, mapped, and in UNKNOWN, IDLE or FAULT
(R171). -/
def State.swept (s : State) : List CannonId :=
  s.cannonsWhere fun c k =>
    decide ((s.cannonEntry c).mode = .automatic ∧ (k.state = .unknown ∨ k.state = .idle ∨ k.state = .fault)) && s.wired c

/-- The close sweep (R171). -/
def closeSweep (s : State) : State := s.swept.foldl (fun s c => closeWithoutBurst c s) s

/-- START taken in OFF (R171). -/
def startDispatch (s : State) : State := closeSweep (enterMode .run s)

/-! ## WATCH, HALT and RESUME (R172) -/

/-- The cannons in flight whose burst class is not FIRE, in ascending cannon number (R172). -/
def State.routine (s : State) : List CannonId := s.cannonsWhere fun _ k => k.flying fun b => decide (b.cls ≠ .fire)

/-- WATCH and HALT: the mode, and the early close of every burst in flight that is not FIRE (R172). -/
def quietDispatch (m : DispatchMode) (s : State) : State := closeEach (enterMode m s).routine (enterMode m s)

/-- RESUME: the mode alone (R172). -/
def resumeDispatch (s : State) : State := enterMode .run s

/-! ## STOP (R174) -/

/-- Every request is removed, every owed count set to 0, and every preemption entry ends (R174). -/
def clearRequests (s : State) : State :=
  { s with
    cannons := s.cannons.map fun k => { k with request := none, owed := 0 }
    stations := s.stations.map fun g => { g with preempt := [] } }

/-- The cannons in flight, in ascending cannon number (R174). -/
def State.allFlying (s : State) : List CannonId := s.cannonsWhere fun _ k => k.inFlight

/-- STOP: requests, early closes, mode (R174). -/
def stopDispatch (s : State) : State := enterMode .off (closeEach (clearRequests s).allFlying (clearRequests s))

/-! ## The verbs' table (R170) -/

/-- A verb that is carried out when its table row allows the mode in force, and refused WRONG-MODE otherwise; the answer
carries the mode the verb leaves in force (R170, R194). -/
def verbWork (allowed : DispatchMode → Bool) (change : State → State) (s : State) : State × Status :=
  if allowed s.mode then (change s, .done) else (s, .wrongMode)

def startAllowed (m : DispatchMode) : Bool := decide (m = .off)
def watchAllowed (m : DispatchMode) : Bool := decide (m = .run)
def haltAllowed (m : DispatchMode) : Bool := decide (m = .run ∨ m = .watch)
def resumeAllowed (m : DispatchMode) : Bool := decide (m = .watch ∨ m = .halt)
def stopAllowed (m : DispatchMode) : Bool := decide (m = .run ∨ m = .watch ∨ m = .halt)

end Sys2Proof.Machine
end

