-- ==== Sys2Proof/Machine/Reading.lean ====
section
/-! DEFINITION. The reads of the management unit: the records of READ-STATE and the entries of READ-ENTRIES, and the part
of a list that one reply carries (R183, R194, R195, R197; log entry 13). -/

namespace Sys2Proof.Machine

/-! ## Codes that only READ-STATE uses (log entry 13) -/

/-- UP 0, DOWN 1 (R150). -/
def linkCode (up : Bool) : Nat := if up then 0 else 1

/-- FRESH 0, STALE 1 (R12). -/
def freshCode (fresh : Bool) : Nat := if fresh then 0 else 1

/-! ## The records of READ-STATE (R22, R37, R61, R83, R102, R119, R137, R148, R163, R178) -/

def Mast.record (m : Mast) : List Byte :=
  be16 m.acc ++ be16 (m.acc / 16) ++ be16 m.gust ++ num1 m.sector.val ++ opt1 (m.pendingSector.map (·.val)) ++
  num1 m.count ++ num1 (freshCode m.fresh)

def Dust.record (d : Dust) : List Byte := be16 d.acc ++ be16 (d.acc / 4) ++ num1 (freshCode d.fresh)

def Probe.record (p : Probe) : List Byte := be16 p.value ++ num1 (freshCode p.fresh)

/-- R37. -/
def State.clockRecord (s : State) : List Byte :=
  num1 (boolCode s.clock.timeSet) ++ be16 s.clock.day ++ be32 s.clock.second ++ opt4 s.epoch ++ be16 s.clock.upDay ++
  be32 s.clock.upSecond ++ opt1 (s.currentSlot.map (·.val)) ++ opt1 (s.leadSlot.map (·.val)) ++
  num1 (boolCode s.rainDeferral)

def ForecastSlot.record (x : ForecastSlot) : List Byte :=
  num1 (boolCode x.valid) ++ be32 x.hour ++ be16 x.mean ++ be16 x.gust ++ num1 x.sector.val ++ num1 x.rain ++
  num1 x.evap

def Zone.record (x : Zone) : List Byte :=
  be16 x.risk ++ num1 x.band.rank ++ be16 x.mest ++ be16 x.remainder ++ num1 (boolCode x.blind) ++
  num1 (boolCode x.forecastOnly) ++ num1 (boolCode x.uplift) ++ num1 x.sectorUsed.val ++
  opt1 (x.timer.map (·.remaining))

/-- Every field of R73; an absent request is all ones in its class, and a field a class does not have is all ones. -/
def requestRecord : Option CannonRequest → List Byte
  | none => [255] ++ [0, 0] ++ be16 0 ++ be16 0 ++ [0]
  | some (.auto p z) => num1 BurstClass.auto.code ++ num1 p ++ num1 z.val ++ opt2 none ++ opt2 none ++ opt1 none
  | some (.manual p d az el) =>
    num1 BurstClass.manual.code ++ num1 p ++ opt1 none ++ be16 d ++ be16 az ++ num1 el
  | some (.fire p d az el) => num1 BurstClass.fire.code ++ num1 p ++ opt1 none ++ be16 d ++ be16 az ++ num1 el

/-- The ten fields of R119; an absent record is all ones in its class and 0 after it (R197). -/
def burstRecord : Option Burst → List Byte
  | none => [255] ++ [0, 0, 0, 0] ++ be32 0 ++ be16 0 ++ be16 0 ++ [0, 0] ++ be16 0
  | some b =>
    num1 b.cls.code ++ num1 b.priority ++ opt1 (b.credited.map (·.val)) ++ num1 b.efficiency ++ num1 b.source.val ++
    be32 b.planned ++ be16 b.duration ++ be16 b.azimuth ++ num1 b.elevation ++ num1 (boolCode b.openSent) ++
    be16 b.openSeconds

/-- A BYPASS-OPEN cannon's open seconds stand in the burst record, whose other fields are 0 (R197). -/
def Cannon.burstPart (k : Cannon) : List Byte :=
  if k.state = .bypassOpen then [0, 0, 0, 0, 0] ++ be32 0 ++ be16 0 ++ be16 0 ++ [0, 0] ++ be16 k.bypassSeconds
  else burstRecord k.burst

/-- R83 and R119. -/
def State.cannonRecord (s : State) (c : CannonId) : List Byte :=
  let k := s.cannon c
  num1 (s.cannonEntry c).mode.code ++ num1 k.state.code ++ num1 (boolCode k.faultPending) ++
  num1 (boolCode (!s.wired c)) ++ requestRecord k.request ++ num1 k.owed ++ opt1 (k.target.zone.map (·.val)) ++
  num1 k.target.efficiency ++ num1 k.target.pattern.val ++ num1 k.column ++ num1 k.row ++ opt2 k.holdTimer ++
  k.burstPart ++ num1 (boolCode k.openMark) ++ opt1 ((s.queuedVerb c).map Verb.code) ++ opt2 k.burstTimer ++
  opt1 k.ackTimer

/-- The close waiting list: its length and its first 24 members, unused places at 255 (R197). -/
def waitingRecord (l : List CannonId) : List Byte := num1 l.length ++ padTo 24 (l.map fun c => byte c.val)

/-- The preemption list: its length and 8 pairs (R197); the places of absent pairs are at 255, which R197 does not say of
them (log entry 13). -/
def preemptRecord (l : List (CannonId × CannonId)) : List Byte :=
  num1 l.length ++ padTo 16 (l.flatMap fun p => [byte p.1.val, byte p.2.val])

/-- R102. -/
def State.stationRecord (s : State) (g : StationId) : List Byte :=
  let x := s.station g
  num1 x.slot.val ++ opt1 x.slotTimer ++ num1 x.pointer.val ++ num1 x.inUse ++ be16 x.inUseFlow ++
  num1 (s.arbiterCount g) ++ be32 (s.arbiterFlow g) ++ num1 x.pump.code ++ be16 x.pressure ++ opt1 x.pumpTimer ++
  num1 (boolCode x.available) ++ waitingRecord x.waiting ++ preemptRecord x.preempt

/-- R137. -/
def State.sourceRecord (s : State) (w : SourceId) : List Byte :=
  let x := s.source w
  num1 (s.sourceEntry w).kind.code ++ num1 (boolCode (s.sourceEntry w).metered) ++ opt4 x.estimate ++
  be32 x.committed ++ be32 x.dayDraw ++ num1 x.turbidity.code ++ num1 x.conductivity.code ++
  num1 (boolCode x.stale) ++ num1 x.quality.code ++ num1 (boolCode (s.mapped (.level w))) ++
  num1 (boolCode (s.mapped (.quality w))) ++ opt2 x.timer

def MachineRecord.record (m : MachineRecord) : List Byte :=
  num1 m.presence.code ++ num1 m.kind.code ++ num1 m.activity.code ++ opt1 (m.zone.map (·.val)) ++ opt2 m.timer

/-- R148, R197. -/
def State.exclusionRecord (s : State) : List Byte :=
  s.machineCounts.toList.map byte ++ bitSet32 s.excluded ++ bitSet32 s.working

/-- R163; the number of queued commands stands in the field port's record alone. -/
def State.portRecord (s : State) (p : Port) : List Byte :=
  let x := s.port p
  num1 x.flags.code ++ num1 (linkCode x.up) ++ opt1 x.liveness ++ num1 x.buffer.length ++ num1 x.turn.code ++
  match p with
  | .control => []
  | .field => num1 s.commands.length

/-- The number of cannons in UNKNOWN (R178). -/
def State.unknownCount (s : State) : Nat := (s.cannonsWhere fun _ k => decide (k.state = .unknown)).length

/-- The number of cannons on all close waiting lists (R178). -/
def State.waitingCount (s : State) : Nat := (s.stations.toList.map fun g => g.waiting.length).sum

/-- R178. -/
def State.dispatchRecord (s : State) : List Byte :=
  num1 s.mode.code ++ opt1 (s.lastChange.map (·.previous.code)) ++ opt1 (s.lastChange.map (·.cause.code)) ++
  num1 (linkCode s.fieldPort.up) ++ num1 s.unknownCount ++ num1 s.waitingCount

/-! ## Object kinds and tables by code (R183, R194) -/

/-- How many indexes an object kind has; an unknown kind has none (R183). -/
def kindSize : Nat → Nat
  | 1 => 8
  | 2 => 12
  | 3 => 32
  | 4 => 1
  | 5 => 48
  | 6 => 32
  | 7 => 48
  | 8 => 4
  | 9 => 4
  | 10 => 8
  | 11 => 1
  | 12 => 2
  | 13 => 1
  | _ => 0

/-- `f` of the index, when it is below `n`. -/
def atIndex {n : Nat} (i : Nat) (f : Fin n → List Byte) : List Byte := if h : i < n then f ⟨i, h⟩ else []

/-- The record of an object kind at an index (R183). -/
def State.record (s : State) (kind i : Nat) : List Byte :=
  match kind with
  | 1 => atIndex i fun m => (s.mast m).record
  | 2 => atIndex i fun d => (s.dust d).record
  | 3 => atIndex i fun z => (s.probe z).record
  | 4 => s.clockRecord
  | 5 => atIndex i fun h => (s.slotAt h).record
  | 6 => atIndex i fun z => (s.zone z).record
  | 7 => atIndex i s.cannonRecord
  | 8 => atIndex i s.stationRecord
  | 9 => atIndex i s.sourceRecord
  | 10 => atIndex i fun m => (s.machine m).record
  | 11 => s.exclusionRecord
  | 12 => s.portRecord (if i = 0 then .control else .field)
  | 13 => s.dispatchRecord
  | _ => []

/-- The first entry number of a table: node map entries go by node id (R183). -/
def tableFirst (table : Nat) : Nat := if table = 1 then 1 else 0

/-- How many entries a table has; an unknown table has none (R183). -/
def tableSize : Nat → Nat
  | 1 => 239
  | 2 => 32
  | 3 => 4
  | 4 => 48
  | 5 => 768
  | 6 => 8
  | 7 => 4
  | 8 => 4
  | 9 => 2
  | 10 => 1
  | _ => 0

/-- How many bytes an entry of a table has (R195). -/
def entrySize : Nat → Nat
  | 1 => 2
  | 2 => 15
  | 3 => 10
  | 4 => 10
  | 5 => 5
  | 6 => 7
  | 7 => 9
  | 8 => 26
  | 9 => 3
  | 10 => 44
  | _ => 0

/-- The entry number lies in the table (R183). -/
def inTable (table e : Nat) : Bool := decide (tableFirst table ≤ e ∧ e < tableFirst table + tableSize table)

/-- The entry of a table by its number (R195). -/
def Tables.entry (t : Tables) (table e : Nat) : List Byte :=
  match table with
  | 1 => atIndex (e - 1) fun i => (t.nodeMap[i]).bytes
  | 2 => atIndex e fun i => (t.zones[i]).bytes
  | 3 => atIndex e fun i => (t.profiles[i]).bytes
  | 4 => atIndex e fun i => (t.cannons[i]).bytes
  | 5 => atIndex e fun i => (t.coverage[i]).bytes
  | 6 => atIndex e fun i => (t.patterns[i]).bytes
  | 7 => atIndex e fun i => (t.stations[i]).bytes
  | 8 => atIndex e fun i => (t.sources[i]).bytes
  | 9 => atIndex e fun i => (t.windows[i]).bytes
  | 10 => t.settings.bytes
  | _ => []

/-! ## What one reply carries (R183, R197) -/

/-- The longest start of a list of records that fits in `room` bytes. -/
def fitting : Nat → List (List Byte) → List (List Byte)
  | _, [] => []
  | room, r :: rest => if r.length ≤ room then r :: fitting (room - r.length) rest else []

/-- The records from `first` onward that a reply carries: no more than `count`, than remain below `stop`, and than fit
(R183). -/
def carried (room first count stop : Nat) (item : Nat → List Byte) : List (List Byte) :=
  fitting room ((List.range (min count (stop - first))).map fun i => item (first + i))

/-- DONE when the reply carries as many as were asked for, and PARTIAL when fewer (R183). -/
def readStatus (count : Nat) (items : List (List Byte)) : Status := if items.length = count then .done else .partialDone

/-- READ-ENTRIES: the table is judged first, then the count, then the first entry (R183; log entry 31). -/
def readEntriesWork (body : List Byte) (s : State) : Status × List Byte :=
  let table := u8 body 0
  let first := u16 body 1
  let count := u8 body 3
  if tableSize table = 0 then (.badTable, [])
  else if count = 0 then (.badValue, [])
  else if !inTable table first then (.badIndex, [])
  else
    let items := carried 57 first count (tableFirst table + tableSize table) (s.cfg.entry table)
    (readStatus count items, num1 table ++ be16 first ++ num1 items.length ++ items.flatten)

/-- READ-STATE: the kind and the count are judged before the first index (R183, R197; log entry 31). -/
def readStateWork (body : List Byte) (s : State) : Status × List Byte :=
  let kind := u8 body 0
  let first := u8 body 1
  let count := u8 body 2
  if kindSize kind = 0 ∨ count = 0 then (.badValue, [])
  else if kindSize kind ≤ first then (.badIndex, [])
  else
    let items := carried 58 first count (kindSize kind) (s.record kind)
    (readStatus count items, num1 kind ++ num1 first ++ num1 items.length ++ items.flatten)

end Sys2Proof.Machine
end

