-- ==== Sys2Proof/Machine/Writes.lean ====
section
/-! DEFINITION. WRITE-ENTRIES: what a written entry of each table does (R3, R40, R41, R64, R68, R78, R91, R121, R167,
R184), and the loop that checks and writes entries one by one. -/

namespace Sys2Proof.Machine

/-- One entry taken: written with its effects, or refused with its status. -/
abbrev Taken := Except Status State

/-- The entry at number `e` of a table of `n` entries numbered from 0; past the end it is refused BAD-INDEX (R184). -/
def atEntry {n : Nat} (e : Nat) (f : Fin n → Taken) : Taken :=
  match below n e with
  | some i => f i
  | none => .error .badIndex

/-! ## NODE-MAP (R3) -/

/-- The entry may not be changed: it is the VALVE entry of a cannon in OPENING, SPRAYING, CLOSING, STUCK or BYPASS-OPEN
(R3). -/
def State.nodeInUse (s : State) : NodeRole → Bool
  | .valve c => (s.cannon c).state.blocksMode
  | .none | .mast _ | .dust _ | .moisture _ | .level _ | .quality _ | .pump _ | .machine _ | .supervisor _ => false

/-- The source whose QUALITY entry a role is. -/
def NodeRole.qualityOf : NodeRole → Option SourceId
  | .quality w => some w
  | .none | .mast _ | .dust _ | .moisture _ | .level _ | .valve _ | .pump _ | .machine _ | .supervisor _ => Option.none

/-- A write that ends the UNWIRED condition of a cannon (R114, R177). -/
def newlyWired (r : NodeRole) (s : State) : State :=
  match r with
  | .valve c => closeUnknown c (confirmingClose c s)
  | .none | .mast _ | .dust _ | .moisture _ | .level _ | .quality _ | .pump _ | .machine _ | .supervisor _ => s

/-- The qualities that a changed entry derives again; two changes raise their notices in a free order (R127, R188; log
entry 9). -/
def rederive (old new : NodeRole) (s : State) : State :=
  let o := shuffle (old.qualityOf.toList ++ new.qualityOf.toList) s
  o.1.foldl (fun s w => deriveQuality w s) o.2

/-- A node map entry: a CONFLICT is judged before IN-USE (R3; log entry 31). -/
def writeNode (i : Fin 239) (l : List Byte) (s : State) : Taken :=
  let old := s.cfg.nodeMap[i]
  match readNodeRole l with
  | none => .error .badValue
  | some r =>
    if r = old then .ok s
    else if r ≠ .none ∧ s.mapped r then .error .conflict
    else if s.nodeInUse old then .error .inUse
    else .ok (newlyWired r (rederive old r (s.updCfg fun t => { t with nodeMap := updAt t.nodeMap i fun _ => r })))

/-! ## ZONE and PROFILE (R40, R41) -/

/-- A zone is enabled: its timer starts (R40, R42). -/
def enableZone (z : ZoneId) (s : State) : State :=
  s.updZone z fun x => { x with timer := some { remaining := s.settings.evalPeriod, period := s.settings.evalPeriod } }

/-- A zone is disabled. R40 gives its BAND-CHANGE no risk: it carries 0, which R has become (R40; DESIGN CHOICE, log entry 36). -/
def disableZone (z : ZoneId) (s : State) : State :=
  let cleared := (withdraw z s).updZone z fun x =>
    { x with timer := none, blind := false, forecastOnly := false, uplift := false, risk := 0, band := .calm }
  if (s.zone z).band = .calm then cleared else raise (.bandChange z .calm 0) cleared

/-- What a change of the enabled field does (R40). -/
def enabledEffect (z : ZoneId) (was is : Bool) (s : State) : State :=
  match was, is with
  | false, true => enableZone z s
  | true, false => disableZone z s
  | true, true => s
  | false, false => s

/-- A zone entry: the entry is written, then its effects follow in the order of R40, and the policy's last (R40, R143; log
entry 27). A re-banding for a new profile number wakes by the watch flag just written (R40, R54; DESIGN CHOICE, log entry 35). -/
def writeZoneEntry (z : ZoneId) (l : List Byte) (s : State) : Taken :=
  match readZoneEntry l with
  | none => .error .badValue
  | some e =>
    let old := s.zoneEntry z
    if e = old then .ok s
    else
      let stored := s.updCfg fun t => { t with zones := updAt t.zones z fun _ => e }
      let switched := enabledEffect z old.enabled e.enabled stored
      let banded := if e.profile = old.profile then switched else rebandAll [z] switched
      .ok (exclusionAfter (s.excluded z) z banded)

/-- The zones that use a profile, enabled or not (R41). -/
def State.zonesUsing (s : State) (p : ProfileId) : List ZoneId :=
  (List.finRange 32).filter fun z => (s.zoneEntry z).profile = p

/-- A profile entry: every zone that uses it is re-banded (R41). -/
def writeProfileEntry (p : ProfileId) (l : List Byte) (s : State) : Taken :=
  match readProfile l with
  | none => .error .badValue
  | some e =>
    let stored := s.updCfg fun t => { t with profiles := updAt t.profiles p fun _ => e }
    .ok (rebandAll (stored.zonesUsing p) stored)

/-! ## CANNON (R64) -/

/-- A cannon entry, which is written whole before its effects follow in the order of R64; a new station holds from a slot
start of it, where `takeOver` moves the cannon (log entries 23 and 31). -/
def writeCannonEntry (c : CannonId) (l : List Byte) (s : State) : Taken :=
  match readCannonEntry l with
  | none => .error .badValue
  | some e =>
    let old := s.cannonEntry c
    if e = old then .ok s
    else if (s.cannon c).state.holdsPlace then .error .inUse
    else if (s.cannon c).state = .bypassOpen ∧ e.mode ≠ old.mode then .error .inUse
    else
      let stored := s.updCfg fun t => { t with cannons := updAt t.cannons c fun _ => e }
      let changed := if e.mode = old.mode then stored else takeMode old.mode e.mode c stored
      .ok (if e.refMast = old.refMast then changed else deriveAgain [c] changed)

/-! ## COVERAGE and PATTERN (R68, R78) -/

/-- A coverage entry: its cannon's target is derived again (R68, R70). -/
def writeCoverageEntry (i : Fin 768) (l : List Byte) (s : State) : Taken :=
  match readCoverage l with
  | none => .error .badValue
  | some e =>
    .ok (deriveAgain [coverCannon i] (s.updCfg fun t => { t with coverage := updAt t.coverage i fun _ => e }))

/-- The sweep aim of a cannon whose pattern was written (R81). -/
def Cannon.aimReset (k : Cannon) (p : PatternId) : Cannon :=
  if k.target.pattern = p then { k with column := 0, row := 0 } else k

/-- A pattern entry: the sweep aims that use it are reset (R78, R81). -/
def writePatternEntry (p : PatternId) (l : List Byte) (s : State) : Taken :=
  match readPattern l with
  | none => .error .badValue
  | some e =>
    let stored := s.updCfg fun t => { t with patterns := updAt t.patterns p fun _ => e }
    .ok { stored with cannons := stored.cannons.map fun k => k.aimReset p }

/-! ## STATION, SOURCE, SUBSTITUTION and SETTINGS (R91, R121, R167, R184) -/

/-- A station entry: refused out of range, then below the in-use figures; a rise of the limit or the flow is a capacity event
(R84, R91; log entry 31). -/
def writeStationEntry (g : StationId) (l : List Byte) (s : State) : Taken :=
  match readStationEntry l with
  | none => .error .badValue
  | some e =>
    let old := s.stationEntry g
    if e = old then .ok s
    else if e.limit < (s.station g).inUse ∨ e.maxFlow < (s.station g).inUseFlow then .error .inUse
    else
      let stored := s.updCfg fun t => { t with stations := updAt t.stations g fun _ => e }
      .ok (if old.limit < e.limit ∨ old.maxFlow < e.maxFlow then capacityDue g stored else stored)

/-- A source entry (R121). -/
def writeSourceEntry (w : SourceId) (l : List Byte) (s : State) : Taken :=
  match readSourceEntry l with
  | none => .error .badValue
  | some e => .ok (s.updCfg fun t => { t with sources := updAt t.sources w fun _ => e })

/-- A substitution window (R167). -/
def writeWindowEntry (i : Fin 2) (l : List Byte) (s : State) : Taken :=
  match readWindow l with
  | none => .error .badValue
  | some e => .ok (s.updCfg fun t => { t with windows := updAt t.windows i fun _ => e })

/-- The settings entry (R184). -/
def writeSettingsEntry (_ : Fin 1) (l : List Byte) (s : State) : Taken :=
  match readSettings l with
  | none => .error .badValue
  | some e => .ok (s.updCfg fun t => { t with settings := e })

/-! ## The loop (R184) -/

/-- A node map entry by its node id; 0 is no entry (R183). -/
def writeNodeAt (e : Nat) (l : List Byte) (s : State) : Taken :=
  if e = 0 then .error .badIndex else atEntry (e - 1) fun i => writeNode i l s

/-- What a WRITE-ENTRIES has done: the state, the count written, and the entry refused with its reason (R184). -/
structure WriteDone where
  state : State
  written : Nat
  refused : Option (Nat × Status)

/-- `n` entries of `size` bytes from entry number `e` onward: each is checked and written, with the capacity events it
brings, before the next is checked; the first refused entry ends the request (R184; log entry 8). -/
def writeLoop (size : Nat) (one : Nat → List Byte → State → Taken) : Nat → Nat → List Byte → Nat → State → WriteDone
  | 0, _, _, done, s => { state := s, written := done, refused := none }
  | n + 1, e, bytes, done, s =>
    match one e (bytes.take size) s with
    | .error why => { state := s, written := done, refused := some (e, why) }
    | .ok t => writeLoop size one n (e + 1) (bytes.drop size) (done + 1) (settle t)

/-- The body of a WRITE-ENTRIES reply: count written, entry refused, reason (R194). -/
def writeBody (written entry reason : Nat) : List Byte := num1 written ++ be16 entry ++ num1 reason

/-- The answer of a WRITE-ENTRIES refused as a whole: nothing written, no entry refused (R184, R194; log entry 14). -/
def wholeRefusal : List Byte := writeBody 0 65535 0

/-- WRITE-ENTRIES on a table, with the checks of R184 on the request as a whole, in the order it lists them (log entry
31). -/
def writeWork (table : Nat) (one : Nat → List Byte → State → Taken) (body : List Byte) (s : State) :
    State × Status × List Byte :=
  let first := u16 body 1
  let count := u8 body 3
  if count = 0 then (s, .badValue, wholeRefusal)
  else if !inTable table first then (s, .badIndex, wholeRefusal)
  else if table = 1 ∧ (s.mode = .run ∨ s.mode = .watch) then (s, .wrongMode, wholeRefusal)
  else
    let d := writeLoop (entrySize table) one count first (body.drop 4) 0 s
    match d.refused with
    | none => (d.state, .done, writeBody d.written 65535 0)
    | some (e, why) => (d.state, .partialDone, writeBody d.written e why.code)

end Sys2Proof.Machine
end

