-- ==== Sys2Proof/Machine/Reset.lean ====
section
/-! DEFINITION. Power, the reset pin, the configuration store and RESTART (R169, R185 to R187, R198). -/

namespace Sys2Proof.Machine

/-! ## The store (R185, R187) -/

/-- The check over a store's format code and content (R185; log entry 12). -/
def storeCheck (format : Byte) (content : Tables) : BitVec 32 := crc32 (format :: content.bytes)

/-- The store a completed SAVE leaves (R185). -/
def Store.written (content : Tables) : Store :=
  { whole := true, format := Config.formatCode, content := content, check := storeCheck Config.formatCode content }

/-- Why a load finds the store invalid, or none when it is valid; a store whose check or format code fails and whose entries
fail too is CHECK (R187; log entry 32). -/
def Store.fault (x : Store) : Option StoreCause :=
  if !x.whole ∨ x.check ≠ storeCheck x.format x.content ∨ x.format ≠ Config.formatCode then some .check
  else if !x.content.ok then some .content
  else none

/-- SAVE is taken: the store is made invalid, and the content to write is the configuration as it stands (R185). -/
def startSave (source tag : Byte) (s : State) : State :=
  { s with store := { s.store with whole := false }, saving := some { source := source, tag := tag, content := s.cfg } }

/-! ## Starting the blocks (R39, R42, R65, R66, R85, R92, R122)

From reset release to the end of the load no frame is snooped (R2, R21), so these records still hold their reset values
when the load ends; RESTART sets them again. -/

/-- Every zone's record, with its estimate and evaluation timer for the entries in force (R39, R42). -/
def State.startZones (s : State) : Vector Zone 32 :=
  Vector.ofFn fun z =>
    { Zone.initial (s.zoneEntry z) with
      timer := if (s.zoneEntry z).enabled then
          some { remaining := s.settings.evalPeriod, period := s.settings.evalPeriod }
        else none }

/-- Every cannon at its entry's station and in the state its mode takes after a reset, with its target derived (R65, R66,
R70). -/
def State.startCannons (s : State) : Vector Cannon 48 :=
  Vector.ofFn fun c => Cannon.initial (s.cannonEntry c).mode.resetState (s.cannonEntry c).station (s.deriveTarget c)

/-- Every station's record, with its slot timer started (R85, R92). -/
def State.startStations (s : State) : Vector Station 4 :=
  Vector.ofFn fun g => { Station.initial with slotTimer := some (s.stationEntry g).slotLength }

/-- Every source's record, its quality for the node map in force and without a notice (R122, R127). -/
def State.startSources (s : State) : Vector Source 4 := Vector.ofFn fun w => Source.initial (s.qualityMapped w)

/-- What the blocks hold and start at the end of the store load and at RESTART (R39, R42, R65, R85, R92, R122). -/
def startBlocks (s : State) : State :=
  { s with
    zones := s.startZones, cannons := s.startCannons, stations := s.startStations, sources := s.startSources }

/-! ## RESTART (R186) -/

/-- The dynamic state that RESTART sets and that starts nothing (R12, R17, R19, R104, R138, R150, R170, R186). -/
def clearBlocks (s : State) : State :=
  { s with
    masts := Vector.replicate 8 Mast.initial, dusts := Vector.replicate 12 Dust.initial
    probes := Vector.replicate 32 Probe.initial
    machines := Vector.replicate 8 MachineRecord.initial, machineCounts := Vector.replicate 32 0
    mode := .off, lastChange := none, commands := [], dueCapacity := []
    controlPort := { s.controlPort with flags := PortFlags.clear }
    fieldPort := { s.fieldPort with flags := PortFlags.clear } }

/-- RESTART (R186). -/
def restartPart (s : State) : State := startBlocks (clearBlocks s)

/-! ## Power and the reset pin (R169, R185, R187) -/

/-- Power is applied: every field at its power-on value, the part held in reset, the store as it was left (R187; log
entry 6). -/
def powerOnPart (s : State) : State :=
  { State.afterRelease s.straps s.store with
    phase := .held, choices := s.choices, choiceCount := s.choiceCount, pending := s.pending }

/-- A port whose sending is cut off and whose buffer is emptied (R169). -/
def PortState.cutOff (x : PortState) : PortState := { x with buffer := [], sending := none }

/-- The reset pin is asserted: the ports go idle, and the forward buffers, the command queue and the management unit's request,
reply and notice queues are emptied (R169). A SAVE that was running leaves the store invalid (R185). -/
def pinReset (s : State) : State :=
  { s with
    phase := .held, controlPort := s.controlPort.cutOff, fieldPort := s.fieldPort.cutOff, commands := []
    requests := [], replies := [], notices := NoticeQueue.initial, saving := none, dueCapacity := [] }

/-- The reset pin is released: the straps are read, every field takes the value it has after pin reset, and the store load
begins (R169, R187, R198). -/
def releaseReset (straps : BitVec 4) (s : State) : State :=
  { State.afterRelease straps s.store with
    choices := s.choices, choiceCount := s.choiceCount, pending := s.pending }

/-- The configuration a load leaves in force: the stored content, or the defaults that stand (R187). -/
def State.loadedCfg (s : State) : Tables := if s.store.fault = none then s.store.content else s.cfg

/-- The store load ends (R187). -/
def endLoad (s : State) : State :=
  let loaded := startBlocks { s with phase := .running, cfg := s.loadedCfg, storeFound := decide (s.store.fault = none) }
  match s.store.fault with
  | none => loaded
  | some cause => raise (.storeInvalid cause) loaded

/-- Power fails: a SAVE that was running leaves the store invalid (R185). -/
def powerFailPart (s : State) : State :=
  { s with
    phase := .unpowered, saving := none
    controlPort := { s.controlPort with sending := none }, fieldPort := { s.fieldPort with sending := none } }

/-! ## The rows -/

/-- Power is applied (R187). -/
def execPowerOn (s : State) : Host.Outcome State Fault Refusal := .next (powerOnPart s)

/-- The reset pin is asserted (R169); an unpowered part has none of it (log entry 6). -/
def execPinResetAsserted (s : State) : Host.Outcome State Fault Refusal :=
  .next (if s.phase = .unpowered then s else pinReset s)

/-- The reset pin is released (R169, R198); only a part held in reset has it (log entry 6). -/
def execResetRelease (straps : BitVec 4) (s : State) : Host.Outcome State Fault Refusal :=
  .next (if s.phase = .held then releaseReset straps s else s)

/-- The store load ends (R187); only a part whose load runs has it (log entry 6). -/
def execStoreLoadEnd (s : State) : Host.Outcome State Fault Refusal :=
  .next (stepOf (fun s => if s.phase = .loading then endLoad s else s) s)

/-- Power fails (R185). -/
def execPowerFail (s : State) : Host.Outcome State Fault Refusal := .next (powerFailPart s)

end Sys2Proof.Machine
end

