-- ==== Sys2Proof/Machine/Management.lean ====
section
/-! DEFINITION. The management unit (chapter 11): taking the request at the head of the queue, the checks of R180, the
twelve requests and their replies. -/

namespace Sys2Proof.Machine

/-! ## Requests by code (R194) -/

/-- The row of spec/opcode_table.json that carries out a WRITE-ENTRIES on a table. -/
def writeRow : Nat → Option Instr
  | 1 => some .writeNodeMap
  | 2 => some .writeZone
  | 3 => some .writeProfile
  | 4 => some .writeCannon
  | 5 => some .writeCoverage
  | 6 => some .writePattern
  | 7 => some .writeStation
  | 8 => some .writeSource
  | 9 => some .writeSubstitution
  | 10 => some .writeSettings
  | _ => none

/-- The row that carries out a SET-DISPATCH with a verb. -/
def dispatchRow : Nat → Option Instr
  | 1 => some .start
  | 2 => some .watch
  | 3 => some .halt
  | 4 => some .resume
  | 5 => some .stop
  | _ => none

/-- The row that carries out the request a MANAGE payload holds; none for a payload that no row covers: an unknown code,
table or verb, or a payload too short to name one (log entry 3). -/
def rowOf : List Byte → Option Instr
  | code :: _ :: body =>
    match code.toNat with
    | 1 => some .identify
    | 2 => some .readEntries
    | 3 => body.head?.bind fun b => writeRow b.toNat
    | 4 => some .loadForecast
    | 5 => some .readState
    | 6 => body.head?.bind fun b => dispatchRow b.toNat
    | 7 => some .setCannonMode
    | 8 => some .clearFault
    | 9 => some .clearFlags
    | 10 => some .clearMachine
    | 11 => some .save
    | 12 => some .restart
    | _ => none
  | _ => none

/-- The request's body (R194). -/
def MgmtRequest.body (q : MgmtRequest) : List Byte := q.payload.drop 2

/-- The request code, or 0, which is no request, for an empty payload. -/
def MgmtRequest.code (q : MgmtRequest) : Nat := u8 q.payload 0

/-! ## The checks of R180 -/

/-- The body's length agrees with the request code and the counts it declares; no length agrees with a code that is not
one of the twelve (R32, R180, R194, R195). For a WRITE-ENTRIES on an unknown table the four bytes before the entries are
all that can be judged (log entry 19). -/
def lengthAgrees (q : MgmtRequest) : Bool :=
  let n := q.body.length
  decide (2 ≤ q.payload.length) &&
  match q.code with
  | 1 => decide (n = 0)
  | 2 => decide (n = 4)
  | 3 => decide (4 ≤ n ∧ (tableSize (u8 q.body 0) = 0 ∨ n = 4 + u8 q.body 3 * entrySize (u8 q.body 0)))
  | 4 => decide (5 ≤ n ∧ n = 5 + 7 * u8 q.body 4 ∧ 1 ≤ u8 q.body 4 ∧ u8 q.body 4 ≤ 8)
  | 5 => decide (n = 3)
  | 6 => decide (n = 1)
  | 7 => decide (n = 2)
  | 8 => decide (n = 1)
  | 9 => decide (n = 2)
  | 10 => decide (n = 1)
  | 11 => decide (n = 0)
  | 12 => decide (n = 0)
  | _ => false

/-- The requests a running SAVE excludes: WRITE-ENTRIES, SET-CANNON-MODE, SAVE and RESTART (R180). -/
def excludedBySave (code : Nat) : Bool := decide (code = 3 ∨ code = 7 ∨ code = 11 ∨ code = 12)

/-- The request's source may manage the part (R180). -/
def State.permits (s : State) (node : Byte) : Bool := !s.anySupervisor || s.isSupervisor node

/-- The first check of R180 the request fails. -/
def State.refusal (s : State) (q : MgmtRequest) : Option Status :=
  if s.phase = .loading then some .busy
  else if !s.permits q.source then some .notPermitted
  else if !lengthAgrees q then some .badRequest
  else if s.saving.isSome && excludedBySave q.code then some .busy
  else none

/-! ## Replies (R179, R181) -/

/-- Places of the reply queue that are occupied, the one a running SAVE holds among them (R179). -/
def State.replyLoad (s : State) : Nat := s.replies.length + if s.saving.isSome then 1 else 0

/-- A reply joins the tail of the reply queue (R179). -/
def pushReply (r : Reply) (s : State) : State := { s with replies := s.replies ++ [r] }

/-- Byte `i` of a payload; a payload too short to hold it gives a free one (log entry 11). -/
def echoByte (i : Nat) (payload : List Byte) (s : State) : Byte × State :=
  match payload[i]? with
  | some b => (b, s)
  | none => (byte s.nextChoice, s.choose)

/-- The reply to a request, with its code and tag (R181, R194). -/
def replyTo (q : MgmtRequest) (status : Status) (body : List Byte) (s : State) : State :=
  let code := echoByte 0 q.payload s
  let tag := echoByte 1 q.payload code.2
  pushReply { dest := q.source, code := code.1, tag := tag.1, status := status, body := body } tag.2

/-- The fields a LOAD-FORECAST reply gives: count written, hour epoch judged, whether the time is SET (R33, R194). -/
def forecastBody (written : Nat) (s : State) : List Byte :=
  num1 written ++ opt4 s.epoch ++ num1 (boolCode s.clock.timeSet)

/-- The body of a reply refused under R180: empty, but for the BAD-REQUEST of LOAD-FORECAST, which R32 and R194 give its
fields (log entry 18). -/
def refusalBody (q : MgmtRequest) (status : Status) (s : State) : List Byte :=
  if q.code = 4 ∧ status = .badRequest then forecastBody 0 s else []

/-! ## Carrying out a request -/

/-- What carrying out a request leaves: the state, and the reply's status and body, or none for a SAVE. -/
structure Answer where
  state : State
  reply : Option (Status × List Byte)

/-- An answer with a reply. -/
def answered (r : State × Status × List Byte) : Answer := { state := r.1, reply := some r.2 }

/-- The answer to a request that passed R180 and that no row covers: a WRITE-ENTRIES on an unknown table is refused
BAD-TABLE (R184), and a SET-DISPATCH with an unknown verb BAD-VALUE (R170). -/
def unlistedAnswer (q : MgmtRequest) (s : State) : Answer :=
  if q.code = 3 then answered (s, .badTable, wholeRefusal) else answered (s, .badValue, [])

/-- A taken request: refused by the first check of R180 it fails, and carried out otherwise. -/
def judge (work : MgmtRequest → State → Answer) (q : MgmtRequest) (s : State) : Answer :=
  match s.refusal q, rowOf q.payload with
  | some why, _ => answered (s, why, refusalBody q why s)
  | none, some _ => work q s
  | none, none => unlistedAnswer q s

/-- The command's row may carry the request out: it is the request's row, or no row is (log entry 3). -/
def answers (row : Instr) (q : MgmtRequest) : Bool :=
  match rowOf q.payload with
  | some r => decide (r = row)
  | none => true

/-- The reply of an answer is placed at the tail of the reply queue (R179). -/
def conclude (q : MgmtRequest) (a : Answer) : State :=
  match a.reply with
  | some (status, body) => replyTo q status body a.state
  | none => a.state

/-- The management unit takes the request at the head of the queue, when the reply queue has a free place, and carries it
out as one operation (R179). A command of another row leaves it waiting (log entries 1 and 3). -/
def takeRequest (row : Instr) (work : MgmtRequest → State → Answer) (s : State) : State :=
  match s.requests with
  | [] => s
  | q :: rest =>
    if s.replyLoad < 4 ∧ answers row q then conclude q (judge work q { s with requests := rest }) else s

/-! ## The requests (R182, R183, R184, R32, R170, R67, R117, R162, R141, R185, R186) -/

/-- The body of an IDENTIFY reply (R182, R194). -/
def identifyBody (s : State) : List Byte :=
  be16 Config.vendorCode ++ be16 Config.partCode ++ num1 Config.revision ++ num1 s.settings.ownId ++ num1 s.storeCode ++
  Config.capacities.flatMap be16

def identifyWork (_ : MgmtRequest) (s : State) : Answer := answered (s, .done, identifyBody s)

def readEntriesAnswer (q : MgmtRequest) (s : State) : Answer := answered (s, readEntriesWork q.body s)

def readStateAnswer (q : MgmtRequest) (s : State) : Answer := answered (s, readStateWork q.body s)

/-- WRITE-ENTRIES on a table (R184). -/
def writeAnswer (table : Nat) (one : Nat → List Byte → State → Taken) (q : MgmtRequest) (s : State) : Answer :=
  answered (writeWork table one q.body s)

/-- LOAD-FORECAST past its length check (R32, R33). -/
def loadForecastAnswer (q : MgmtRequest) (s : State) : Answer :=
  let start := u32 q.body 0
  let records := readForecast (q.body.drop 5)
  if epochCycle ≤ start ∨ !records.all ForecastRecord.ok then answered (s, .badValue, forecastBody 0 s)
  else
    let done := loadForecast start records s
    answered (done.1, if done.2 = records.length then .done else .partialDone, forecastBody done.2 s)

/-- SET-DISPATCH with one of the five verbs (R170). -/
def dispatchAnswer (allowed : DispatchMode → Bool) (change : State → State) (_ : MgmtRequest) (s : State) : Answer :=
  let done := verbWork allowed change s
  answered (done.1, done.2, num1 done.1.mode.code)

/-- SET-CANNON-MODE: the cannon number is judged before the mode code (R67; log entry 31). -/
def setModeAnswer (q : MgmtRequest) (s : State) : Answer :=
  match below 48 (u8 q.body 0), CannonMode.ofCode (u8 q.body 1) with
  | none, _ => answered (s, .badIndex, [])
  | some _, none => answered (s, .badValue, [])
  | some c, some m => answered ((setMode c m s).1, (setMode c m s).2, [])

/-- CLEAR-FAULT (R117). -/
def clearFaultAnswer (q : MgmtRequest) (s : State) : Answer :=
  match below 48 (u8 q.body 0) with
  | none => answered (s, .badIndex, [])
  | some c => answered ((clearFaultOf c s).1, (clearFaultOf c s).2, [])

/-- CLEAR-FLAGS on a port, with the set of flags named (R162, R194). -/
def clearFlagsOf (p : Port) (named : Byte) (s : State) : Answer :=
  if 16 ≤ named.toNat then answered (s, .badValue, [])
  else
    let cleared := s.updPort p fun x => { x with flags := x.flags.without named }
    answered (cleared, .done, num1 (cleared.port p).flags.code)

/-- CLEAR-FLAGS: the port is judged before the flags (R162; log entry 31). -/
def clearFlagsAnswer (q : MgmtRequest) (s : State) : Answer :=
  match u8 q.body 0 with
  | 0 => clearFlagsOf .control (q.body.getD 1 0) s
  | 1 => clearFlagsOf .field (q.body.getD 1 0) s
  | _ => answered (s, .badIndex, [])

/-- CLEAR-MACHINE (R141). -/
def clearMachineAnswer (q : MgmtRequest) (s : State) : Answer :=
  match below 8 (u8 q.body 0) with
  | none => answered (s, .badIndex, [])
  | some m => answered (clearMachineOf m s, .done, [])

/-- SAVE taken: the store becomes invalid, and the reply waits for the completion (R185). A request that reaches here
holds its tag. -/
def saveAnswer (q : MgmtRequest) (s : State) : Answer :=
  { state := startSave q.source (q.payload.getD 1 0) s, reply := none }

/-- RESTART (R186). -/
def restartAnswer (_ : MgmtRequest) (s : State) : Answer := answered (restartPart s, .done, [])

/-- A SAVE completes: the store is valid, and the reply takes the place reserved for it (R185). -/
def completeSave (s : State) : State :=
  match s.saving with
  | none => s
  | some j =>
    pushReply { dest := j.source, code := 11, tag := j.tag, status := .done, body := [] }
      { s with store := Store.written j.content, saving := none, storeFound := true }

/-! ## The rows of the management unit -/

/-- IDENTIFY (R182). -/
def execIdentify (s : State) : Host.Outcome State Fault Refusal :=
  .next (stepOf (takeRequest .identify identifyWork) s)

/-- READ-ENTRIES (R183). -/
def execReadEntries (s : State) : Host.Outcome State Fault Refusal :=
  .next (stepOf (takeRequest .readEntries readEntriesAnswer) s)

/-- READ-STATE (R183). -/
def execReadState (s : State) : Host.Outcome State Fault Refusal :=
  .next (stepOf (takeRequest .readState readStateAnswer) s)

/-- WRITE-ENTRIES on NODE-MAP (R3). -/
def execWriteNodeMap (s : State) : Host.Outcome State Fault Refusal :=
  .next (stepOf (takeRequest .writeNodeMap (writeAnswer 1 writeNodeAt)) s)

/-- WRITE-ENTRIES on ZONE (R40). -/
def execWriteZone (s : State) : Host.Outcome State Fault Refusal :=
  .next (stepOf (takeRequest .writeZone (writeAnswer 2 fun e l s => atEntry e fun i => writeZoneEntry i l s)) s)

/-- WRITE-ENTRIES on PROFILE (R41). -/
def execWriteProfile (s : State) : Host.Outcome State Fault Refusal :=
  .next (stepOf (takeRequest .writeProfile (writeAnswer 3 fun e l s => atEntry e fun i => writeProfileEntry i l s)) s)

/-- WRITE-ENTRIES on CANNON (R64). -/
def execWriteCannon (s : State) : Host.Outcome State Fault Refusal :=
  .next (stepOf (takeRequest .writeCannon (writeAnswer 4 fun e l s => atEntry e fun i => writeCannonEntry i l s)) s)

/-- WRITE-ENTRIES on COVERAGE (R68). -/
def execWriteCoverage (s : State) : Host.Outcome State Fault Refusal :=
  .next (stepOf (takeRequest .writeCoverage (writeAnswer 5 fun e l s => atEntry e fun i => writeCoverageEntry i l s)) s)

/-- WRITE-ENTRIES on PATTERN (R78). -/
def execWritePattern (s : State) : Host.Outcome State Fault Refusal :=
  .next (stepOf (takeRequest .writePattern (writeAnswer 6 fun e l s => atEntry e fun i => writePatternEntry i l s)) s)

/-- WRITE-ENTRIES on STATION (R91). -/
def execWriteStation (s : State) : Host.Outcome State Fault Refusal :=
  .next (stepOf (takeRequest .writeStation (writeAnswer 7 fun e l s => atEntry e fun i => writeStationEntry i l s)) s)

/-- WRITE-ENTRIES on SOURCE (R121). -/
def execWriteSource (s : State) : Host.Outcome State Fault Refusal :=
  .next (stepOf (takeRequest .writeSource (writeAnswer 8 fun e l s => atEntry e fun i => writeSourceEntry i l s)) s)

/-- WRITE-ENTRIES on SUBSTITUTION (R167). -/
def execWriteSubstitution (s : State) : Host.Outcome State Fault Refusal :=
  .next (stepOf
    (takeRequest .writeSubstitution (writeAnswer 9 fun e l s => atEntry e fun i => writeWindowEntry i l s)) s)

/-- WRITE-ENTRIES on SETTINGS (R184). -/
def execWriteSettings (s : State) : Host.Outcome State Fault Refusal :=
  .next (stepOf
    (takeRequest .writeSettings (writeAnswer 10 fun e l s => atEntry e fun i => writeSettingsEntry i l s)) s)

/-- LOAD-FORECAST (R33). -/
def execLoadForecast (s : State) : Host.Outcome State Fault Refusal :=
  .next (stepOf (takeRequest .loadForecast loadForecastAnswer) s)

/-- SET-DISPATCH with verb START (R171). -/
def execStart (s : State) : Host.Outcome State Fault Refusal :=
  .next (stepOf (takeRequest .start (dispatchAnswer startAllowed startDispatch)) s)

/-- SET-DISPATCH with verb WATCH (R172). -/
def execWatch (s : State) : Host.Outcome State Fault Refusal :=
  .next (stepOf (takeRequest .watch (dispatchAnswer watchAllowed (quietDispatch .watch))) s)

/-- SET-DISPATCH with verb HALT (R172). -/
def execHalt (s : State) : Host.Outcome State Fault Refusal :=
  .next (stepOf (takeRequest .halt (dispatchAnswer haltAllowed (quietDispatch .halt))) s)

/-- SET-DISPATCH with verb RESUME (R172). -/
def execResume (s : State) : Host.Outcome State Fault Refusal :=
  .next (stepOf (takeRequest .resume (dispatchAnswer resumeAllowed resumeDispatch)) s)

/-- SET-DISPATCH with verb STOP (R174). -/
def execStop (s : State) : Host.Outcome State Fault Refusal :=
  .next (stepOf (takeRequest .stop (dispatchAnswer stopAllowed stopDispatch)) s)

/-- SET-CANNON-MODE (R67). -/
def execSetCannonMode (s : State) : Host.Outcome State Fault Refusal :=
  .next (stepOf (takeRequest .setCannonMode setModeAnswer) s)

/-- CLEAR-FAULT (R117). -/
def execClearFault (s : State) : Host.Outcome State Fault Refusal :=
  .next (stepOf (takeRequest .clearFault clearFaultAnswer) s)

/-- CLEAR-FLAGS (R162). -/
def execClearFlags (s : State) : Host.Outcome State Fault Refusal :=
  .next (stepOf (takeRequest .clearFlags clearFlagsAnswer) s)

/-- CLEAR-MACHINE (R141). -/
def execClearMachine (s : State) : Host.Outcome State Fault Refusal :=
  .next (stepOf (takeRequest .clearMachine clearMachineAnswer) s)

/-- SAVE (R185). -/
def execSave (s : State) : Host.Outcome State Fault Refusal :=
  .next (stepOf (takeRequest .save saveAnswer) s)

/-- RESTART (R186). -/
def execRestart (s : State) : Host.Outcome State Fault Refusal :=
  .next (stepOf (takeRequest .restart restartAnswer) s)

/-- A SAVE completes (R185). -/
def execSaveCompletion (s : State) : Host.Outcome State Fault Refusal := .next (stepOf completeSave s)

end Sys2Proof.Machine
end

