-- ==== Sys2Proof/Machine/Dispatch.lean ====
section
/-! DEFINITION. The meaning of every command of the block. -/

namespace Sys2Proof.Machine

/-- The effect of a command on everything but the queue of waiting commands. -/
def exec (i : Instr) (s : State) : Host.Outcome State Fault Refusal :=
  match i with
  | .powerOn => Sys2Proof.Machine.execPowerOn s
  | .pinResetAsserted => Sys2Proof.Machine.execPinResetAsserted s
  | .resetRelease straps => Sys2Proof.Machine.execResetRelease straps s
  | .storeLoadEnd => Sys2Proof.Machine.execStoreLoadEnd s
  | .frameCompletion p bytes => Sys2Proof.Machine.execFrameCompletion p bytes s
  | .endOfSending p => Sys2Proof.Machine.execEndOfSending p s
  | .secondEvent => Sys2Proof.Machine.execSecondEvent s
  | .mastStalenessExpiry m => Sys2Proof.Machine.execMastStalenessExpiry m s
  | .dustStalenessExpiry d => Sys2Proof.Machine.execDustStalenessExpiry d s
  | .probeStalenessExpiry z => Sys2Proof.Machine.execProbeStalenessExpiry z s
  | .evaluationTimerExpiry z => Sys2Proof.Machine.execEvaluationTimerExpiry z s
  | .pumpStalenessExpiry g => Sys2Proof.Machine.execPumpStalenessExpiry g s
  | .slotStart g => Sys2Proof.Machine.execSlotStart g s
  | .holdTimerExpiry c => Sys2Proof.Machine.execHoldTimerExpiry c s
  | .acknowledgementTimerExpiry c => Sys2Proof.Machine.execAcknowledgementTimerExpiry c s
  | .burstTimerExpiry c => Sys2Proof.Machine.execBurstTimerExpiry c s
  | .qualityStalenessExpiry w => Sys2Proof.Machine.execQualityStalenessExpiry w s
  | .machineStalenessExpiry m => Sys2Proof.Machine.execMachineStalenessExpiry m s
  | .livenessTimerExpiry p => Sys2Proof.Machine.execLivenessTimerExpiry p s
  | .saveCompletion => Sys2Proof.Machine.execSaveCompletion s
  | .identify => Sys2Proof.Machine.execIdentify s
  | .readEntries => Sys2Proof.Machine.execReadEntries s
  | .readState => Sys2Proof.Machine.execReadState s
  | .writeNodeMap => Sys2Proof.Machine.execWriteNodeMap s
  | .writeZone => Sys2Proof.Machine.execWriteZone s
  | .writeProfile => Sys2Proof.Machine.execWriteProfile s
  | .writeCannon => Sys2Proof.Machine.execWriteCannon s
  | .writeCoverage => Sys2Proof.Machine.execWriteCoverage s
  | .writePattern => Sys2Proof.Machine.execWritePattern s
  | .writeStation => Sys2Proof.Machine.execWriteStation s
  | .writeSource => Sys2Proof.Machine.execWriteSource s
  | .writeSubstitution => Sys2Proof.Machine.execWriteSubstitution s
  | .writeSettings => Sys2Proof.Machine.execWriteSettings s
  | .loadForecast => Sys2Proof.Machine.execLoadForecast s
  | .start => Sys2Proof.Machine.execStart s
  | .watch => Sys2Proof.Machine.execWatch s
  | .halt => Sys2Proof.Machine.execHalt s
  | .resume => Sys2Proof.Machine.execResume s
  | .stop => Sys2Proof.Machine.execStop s
  | .setCannonMode => Sys2Proof.Machine.execSetCannonMode s
  | .clearFault => Sys2Proof.Machine.execClearFault s
  | .clearFlags => Sys2Proof.Machine.execClearFlags s
  | .clearMachine => Sys2Proof.Machine.execClearMachine s
  | .save => Sys2Proof.Machine.execSave s
  | .restart => Sys2Proof.Machine.execRestart s
  | .powerFail => Sys2Proof.Machine.execPowerFail s

end Sys2Proof.Machine
end

