-- ==== Sys2Proof/Safety.lean ====
section
/-! DEFINITION. What counts as a safe run: the laws that the manual says hold after every step, as predicates of a state.
Each is a decidable statement over the finite tables. -/

namespace Sys2Proof.Machine

/-! ## The end of a step (R90, R158) -/

/-- No transmitter stands idle while one of its sources waits (R158). -/
abbrev State.NoneWaits (s : State) : Prop :=
  ∀ p ∈ [Port.control, Port.field], s.idlePort p → ¬ s.forwardWaits p ∧ ¬ s.insertionWaits p

/-- Between steps no capacity event is due (R90), and while the part operates no transmitter stands idle while one of its
sources waits (R158). -/
abbrev State.Rested (s : State) : Prop := s.dueCapacity = [] ∧ (s.operating → s.NoneWaits)

/-! ## Queues (R104, R150, R179, R188) -/

/-- The queues' sizes: four frames in each forward buffer, four requests, four replies with the one a SAVE reserves, 32
notices, and a lost count of at most 65,535 (R150, R179, R185, R188). -/
abbrev State.QueuesFit (s : State) : Prop :=
  s.controlPort.buffer.length ≤ 4 ∧ s.fieldPort.buffer.length ≤ 4 ∧ s.requests.length ≤ 4 ∧ s.replyLoad ≤ 4 ∧
  s.notices.entries.length ≤ 32 ∧ s.notices.lost ≤ 65535

/-- No two queued notices have the same kind and subject (R188). -/
abbrev State.NoticesDiffer (s : State) : Prop :=
  s.notices.entries.Pairwise fun a b => ¬ a.report.coalesces b.report

/-! ## The clock (R23, R24) -/

/-- The ranges of the clock, and an UNSET clock at day 0 and second 0 (R23). -/
abbrev State.ClockFits (s : State) : Prop :=
  s.clock.day ≤ 65535 ∧ s.clock.second ≤ 86399 ∧ s.clock.upDay ≤ 65535 ∧ s.clock.upSecond ≤ 86399 ∧
  (s.clock.timeSet = false → s.clock.day = 0 ∧ s.clock.second = 0)

/-! ## Bands (R53) -/

/-- The threshold above a band, or none above SEVERE (R53). -/
def Profile.above (p : Profile) : Band → Option Nat
  | .calm => some p.tw
  | .watch => some p.ta
  | .act => some p.ts
  | .severe => none

/-- A zone's risk lies in 0–1000 and its band satisfies the law of R53 for profile `p`. -/
abbrev Zone.BandHeld (x : Zone) (p : Profile) : Prop :=
  x.risk ≤ 1000 ∧ p.threshold x.band ≤ x.risk + p.hysteresis ∧ ∀ t ∈ p.above x.band, x.risk < t

/-- Every zone satisfies the law of R53. -/
abbrev State.BandsHeld (s : State) : Prop := ∀ z : ZoneId, (s.zone z).BandHeld (s.profileOf z)

/-! ## Cannons (R73, R78) -/

/-- Every sweep aim lies within its cannon's pattern (R78). -/
abbrev State.AimsFit (s : State) : Prop :=
  ∀ c : CannonId, (s.cannon c).column < (s.patternOf c).cols ∧ (s.cannon c).row < (s.patternOf c).rows

/-- Every owed count is 0, 1 or 2, and 0 without an AUTO request (R73). -/
abbrev State.OwedHeld (s : State) : Prop :=
  ∀ c : CannonId, (s.cannon c).owed ≤ 2 ∧ ((s.cannon c).holds .auto = false → (s.cannon c).owed = 0)

/-! ## Machines (R142) -/

/-- Every zone's machine count is the number of PRESENT and STALE records that hold it, and no staleness timer of an
ABSENT record runs (R138, R141, R142). -/
abbrev State.CountsHeld (s : State) : Prop :=
  (∀ z : ZoneId, s.machineCount z = (s.machines.toList.filter fun m => m.countedIn z).length) ∧
  ∀ m : MachineId, (s.machine m).timer.isSome → (s.machine m).presence ≠ .absent

/-! ## Stations (R88, R89) -/

/-- The station's cannons in OPENING, SPRAYING, CLOSING or STUCK (R88). -/
def State.placed (s : State) (g : StationId) : List CannonId :=
  s.cannonsWhere fun c k => decide (s.stationOf c = g) && k.state.holdsPlace

/-- The in-use figures are the number and flow of the station's placed cannons, and lie within its limits (R88). -/
abbrev State.PlacesHeld (s : State) : Prop :=
  ∀ g : StationId,
    (s.station g).inUse = (s.placed g).length ∧
    (s.station g).inUseFlow = ((s.placed g).map fun c => (s.cannonEntry c).flow).sum ∧
    (s.station g).inUse ≤ (s.stationEntry g).limit ∧ (s.station g).inUseFlow ≤ (s.stationEntry g).maxFlow

/-- The state belongs to the cannon's mode (R66). -/
def CannonState.belongs : CannonState → CannonMode → Bool
  | .unknown, m | .idle, m | .opening, m | .spraying, m | .closing, m | .stuck, m | .fault, m => decide (m = .automatic)
  | .bypassClosed, m | .bypassOpen, m => decide (m = .bypass)
  | .retired, m => decide (m = .outOfService)

/-- A cannon's records agree with its state: its mode, its burst, and its burst and acknowledgement timers (R66, R103,
R106, R107). -/
abbrev State.CannonsAgree (s : State) : Prop :=
  ∀ c : CannonId,
    (s.cannon c).state.belongs (s.cannonEntry c).mode ∧
    ((s.cannon c).inFlight → (s.cannon c).burst.isSome) ∧
    ((s.cannon c).burst.isSome → (s.cannon c).state.holdsPlace) ∧
    ((s.cannon c).burstTimer.isSome → (s.cannon c).state = .spraying) ∧
    ((s.cannon c).ackTimer.isSome →
      (s.cannon c).state = .opening ∨ (s.cannon c).state = .closing ∨ (s.cannon c).state = .stuck)

/-- Each close waiting list holds its own station's cannons, once each, in UNKNOWN, IDLE or FAULT (R89). -/
abbrev State.WaitingHeld (s : State) : Prop :=
  ∀ g : StationId, (s.station g).waiting.Nodup ∧
    ∀ c ∈ (s.station g).waiting, s.stationOf c = g ∧
      ((s.cannon c).state = .unknown ∨ (s.cannon c).state = .idle ∨ (s.cannon c).state = .fault)

/-! ## Commands (R104, R114) -/

/-- The command queue holds at most one command for each cannon, and an OPEN only for a cannon in OPENING whose
acknowledgement timer has not started; while the store loads it is empty and every cannon is in RETIRED (R66, R104,
R105). -/
abbrev State.CommandsHeld (s : State) : Prop :=
  (s.commands.map (·.cannon)).Nodup ∧
  (∀ q ∈ s.commands, q.verb = .openValve →
    (s.cannon q.cannon).state = .opening ∧ (s.cannon q.cannon).ackTimer = none) ∧
  (s.phase = .loading → s.commands = [] ∧ ∀ c : CannonId, (s.cannon c).state = .retired)

/-- The law of R114 as the open-sent mark carries it: a queued OPEN finds the mark clear, and while the part operates an IDLE
cannon with the mark set has a CLOSE queued while it is mapped and the field link is UP. -/
abbrev State.ClosesBetween (s : State) : Prop :=
  ∀ c : CannonId,
    (s.openQueued c → (s.cannon c).openMark = false) ∧
    (s.operating ∧ (s.cannon c).state = .idle ∧ (s.cannon c).openMark ∧ s.wired c ∧ s.fieldPort.up → s.hasCommand c)

/-! ## Water (R130) -/

/-- The sum of the planned draws of the bursts granted from a source (R130). -/
def State.plannedFrom (s : State) (w : SourceId) : Nat :=
  (s.cannons.toList.map fun k => k.burst.elim 0 fun b => if b.source = w then b.planned else 0).sum

/-- Every source's committed total is the sum of the planned draws of its bursts (R130). -/
abbrev State.CommitmentsHeld (s : State) : Prop := ∀ w : SourceId, (s.source w).committed = s.plannedFrom w

/-! ## Exclusion and dispatch modes (R143, R172, R174) -/

/-- No cannon is in OPENING or SPRAYING with a credited zone that is excluded, unless its burst is FIRE (R143). -/
abbrev State.ExclusionHeld (s : State) : Prop :=
  ∀ c : CannonId, (s.cannon c).flying (fun b => decide (b.cls ≠ .fire)) →
    ∀ b ∈ (s.cannon c).burst, s.excludedOpt b.credited = false

/-- In HALT and WATCH no burst but FIRE is in flight; in OFF none is, and no cannon holds a request (R58, R172, R174). -/
abbrev State.ModeHeld (s : State) : Prop :=
  ∀ c : CannonId,
    ((s.mode = .halt ∨ s.mode = .watch) → (s.cannon c).flying (fun b => decide (b.cls ≠ .fire)) = false) ∧
    (s.mode = .off → (s.cannon c).inFlight = false ∧ (s.cannon c).request = none)

/-! ## The store (R185) -/

/-- While a SAVE runs the store is invalid (R185). -/
abbrev State.StoreHeld (s : State) : Prop := s.saving.isSome → s.store.whole = false

/-! ## Initial values (R2, R5, R12, R17, R19, R20, R23, R29, R36, R38, R39, R41, R60, R63, R65, R68, R78, R84, R85, R102,
R118, R120, R122, R136, R138, R147, R150, R163, R167, R170, R179, R188) -/

/-- Every table and setting holds its default, the own id the strap value. -/
structure Tables.AtDefaults (t : Tables) (straps : BitVec 4) : Prop where
  nodes : ∀ i : Fin 239, t.nodeMap[i] = .none
  zones : ∀ z : ZoneId, t.zones[z] =
    { enabled := false, primary := 0, fallback := none, dust := none, threshold := 100, mref := 80, area := 1000,
      profile := 0, sensitive := 0, policy := false, watch := false }
  profiles : ∀ f : ProfileId, t.profiles[f] =
    { tw := 100, ta := 200, ts := 400, hysteresis := 20, dutyWatch := 4, dutyAct := 8, dutySevere := 12 }
  cannons : ∀ c : CannonId, t.cannons[c] =
    { mode := .outOfService, station := 0, flow := 1000, slotMask := BitVec.allOnes 20, refMast := 0, holdTime := 300 }
  coverage : ∀ i : Fin 768, t.coverage[i] = { zone := none, efficiency := 0, pattern := 0, cutoff := 600 }
  patterns : ∀ f : PatternId, t.patterns[f] =
    { azStart := 0, azStep := 1, cols := 1, elStart := 30, elStep := 0, rows := 1 }
  stations : ∀ g : StationId, t.stations[g] = { slotLength := 30, limit := 2, maxFlow := 6000, prefs := [0] }
  sources : ∀ w : SourceId, t.sources[w] =
    { kind := .tank, metered := true, floor := 0, fireReserve := 0, allowance := 0, turbMarginal := 50,
      turbReject := 100, condMarginal := 2000, condReject := 4000 }
  windows : ∀ i : Fin 2, t.windows[i] = { base := 1, limit := 0, target := 0 }
  settings : t.settings =
    { gustDecay := 2, mastStale := 20, dustStale := 300, probeStale := 900,
      alertLevels := Vector.replicate 12 150, ownId := 224 + straps.toNat, lead := 1, rainThreshold := 0,
      defaultEvap := 3, evalPeriod := 30, pumpStale := 30, ackTime := 3, stuckRetry := 10, qualityStale := 600,
      machineStale := 60, linkTimeout := 5, watchQuiet := false }

/-- Every dynamic record, queue and mode holds the value its chapter gives from reset release to the end of the load. -/
structure State.AtReset (s : State) : Prop where
  masts : ∀ m : MastId, s.mast m =
    { acc := 0, gust := 0, sector := 0, pendingSector := none, count := 0, fresh := false, timer := none }
  dusts : ∀ d : DustId, s.dust d = { acc := 0, fresh := false, timer := none }
  probes : ∀ z : ZoneId, s.probe z = { value := 0, fresh := false, timer := none }
  clock : s.clock = { timeSet := false, day := 0, second := 0, upDay := 0, upSecond := 0 }
  ring : ∀ i : Fin 48, s.slotAt i =
    { valid := false, hour := 0, mean := 0, gust := 0, sector := 0, rain := 0, evap := 0 }
  zones : ∀ z : ZoneId, s.zone z =
    { risk := 0, band := .calm, mest := 40, remainder := 0, blind := false, forecastOnly := false, uplift := false,
      sectorUsed := 0, timer := none }
  cannons : ∀ c : CannonId, s.cannon c =
    { state := .retired, station := 0, request := none, owed := 0, target := { zone := none, efficiency := 0, pattern := 0 },
      column := 0, row := 0, holdTimer := none, burst := none, burstTimer := none, ackTimer := none,
      faultPending := false, openMark := true, bypassSeconds := 0 }
  stations : ∀ g : StationId, s.station g =
    { slot := 19, slotTimer := none, pointer := 0, inUse := 0, inUseFlow := 0, pump := .unknown, pressure := 0,
      pumpTimer := none, waiting := [], preempt := [] }
  sources : ∀ w : SourceId, s.source w =
    { estimate := none, committed := 0, dayDraw := 0, turbidity := .ok, conductivity := .ok, stale := true,
      timer := none, quality := .ok }
  machines : ∀ m : MachineId, s.machine m =
    { presence := .absent, kind := .other, activity := .parked, zone := none, timer := none }
  counts : ∀ z : ZoneId, s.machineCount z = 0
  mode : s.mode = .off ∧ s.lastChange = none
  ports : ∀ p : Port, s.port p =
    { buffer := [], flags := { check := false, length := false, header := false, overrun := false }, up := false,
      liveness := none, turn := .forward, sending := none }
  queues : s.commands = [] ∧ s.requests = [] ∧ s.replies = [] ∧ s.notices = { entries := [], marker := none, lost := 0 }
  saving : s.saving = none

/-! ## The shapes of commands that statements speak of -/

/-- The frame fails the check of an error flag, after passing those before it (R152). -/
abbrev FailsCheck (f : Frame) : FlagKind → Prop
  | .length => f.length < 6 ∨ 64 < (f.getD 3 0).toNat ∨ f.length - 6 ≠ (f.getD 3 0).toNat
  | .check =>
    6 ≤ f.length ∧ (f.getD 3 0).toNat ≤ 64 ∧ f.length - 6 = (f.getD 3 0).toNat ∧
    (crc16 (f.take (f.length - 2))).toNat ≠ nat16 (f.getD (f.length - 2) 0) (f.getD (f.length - 1) 0)
  | .header =>
    6 ≤ f.length ∧ (f.getD 3 0).toNat ≤ 64 ∧ f.length - 6 = (f.getD 3 0).toNat ∧
    (crc16 (f.take (f.length - 2))).toNat = nat16 (f.getD (f.length - 2) 0) (f.getD (f.length - 1) 0) ∧
    (240 ≤ (f.getD 0 0).toNat ∨ f.getD 1 0 = 0 ∨ 240 ≤ (f.getD 1 0).toNat)
  | .overrun => False

/-- The state in which a well-formed frame at port `p` has been heard: the link UP and its timer restarted (R160). -/
def State.heard (s : State) (p : Port) : State :=
  s.updPort p fun x => { x with up := true, liveness := some s.settings.linkTimeout }

/-- The state in which a frame that arrived at port `p` has joined the other port's forward buffer (R155). -/
def State.relayed (s : State) (p : Port) (f : Frame) : State :=
  s.updPort (otherPort p) fun x => { x with buffer := x.buffer ++ [f] }

/-- A well-formed frame that is not addressed to the part and finds its place at port `p` (R152, R153). -/
abbrev State.Passes (s : State) (p : Port) (f : Frame) : Prop :=
  frameFault f = none ∧ frameDest f ≠ s.ownId ∧ (s.port (otherPort p)).buffer.length < 4

/-- The state in which a frame at port `p` has found no room: the OVERRUN flag set, and PORT-ERROR raised where it was clear,
but not in WATCH with watch-quiet (R153, R154). -/
def State.overran (s : State) (p : Port) : State :=
  if (s.port p).flags.overrun then s
  else
    let flags := { (s.port p).flags with overrun := true }
    let marked := s.updPort p fun x => { x with flags := flags }
    if s.mode = .watch ∧ s.settings.watchQuiet then marked
    else { marked with notices := s.notices.place (.portError p .overrun flags) s.stamp }

/-- At a part at rest with the field link UP a well-formed frame completes at the field port, not addressed to the part and with
a place in the other buffer: its kind, its payload and the role of its source (R6, R152, R153). -/
abbrev State.Hears (s : State) (f : Frame) (kind : Byte) (role : NodeRole) (body : List Byte) : Prop :=
  s.operating ∧ s.Rested ∧ s.fieldPort.up ∧ s.Passes .field f ∧ frameKind f = kind ∧
  s.roleOf (frameSource f) = role ∧ framePayload f = body

/-- The state in which a frame at the field port has been heard and forwarded (R155, R160). -/
def State.passedOn (s : State) (f : Frame) : State := (s.heard .field).relayed .field f

/-- At a part at rest a well-formed COMMAND for the valve of cannon `c` completes at the control port, from a SUPERVISOR and with
a place in the other buffer (R152, R153, R164). -/
abbrev State.Commanded (s : State) (f : Frame) (c : CannonId) (body : List Byte) : Prop :=
  s.operating ∧ s.Rested ∧ s.Passes .control f ∧ frameKind f = 48 ∧ s.roleOf (frameDest f) = .valve c ∧
  s.isSupervisor (frameSource f) ∧ framePayload f = body

/-- The number that the first window holding `c` gives, window 0 before window 1 (R167, R168). -/
def State.windowNumber (s : State) (c : CannonId) : Option Nat :=
  let w := s.cfg.windows[0]
  let x := s.cfg.windows[1]
  if w.base ≤ c ∧ c ≤ w.limit then some (w.target.val + (c.val - w.base.val))
  else if x.base ≤ c ∧ c ≤ x.limit then some (x.target.val + (c.val - x.base.val))
  else none

/-- A command for cannon `c` is judged on AUTOMATIC cannon `d`: on `c` itself, or on its mapped substitute where `c` is
OUT-OF-SERVICE (R166, R168). -/
abbrev State.Judges (s : State) (c d : CannonId) (substitute : Option CannonId) : Prop :=
  (s.cannonEntry d).mode = .automatic ∧
  ((d = c ∧ substitute = none) ∨
   ((s.cannonEntry c).mode = .outOfService ∧ s.windowNumber c = some d.val ∧ s.wired d ∧ substitute = some d))

/-- The state in which a COMMAND has been absorbed and refused (R164, R193). -/
def State.refused (s : State) (subject : CannonId) (reason : RefuseReason) (body : List Byte) (addressed : CannonId)
    (substitute : Option CannonId) : State :=
  let verb : Option Verb :=
    if body.head? = some 1 then some .openValve else if body.head? = some 2 then some .closeValve else none
  let fire := decide (body.getD 4 0 ≠ 0)
  { s.heard .control with
    notices := s.notices.place (.commandRefused subject reason verb fire addressed substitute) s.stamp }

/-- A frame at the field port delivers nothing: its kind is none that is snooped there, its source's role is not one that its kind
requires, or its payload has not the form its kind requires (R6, R7, R192). -/
abbrev State.Undelivered (s : State) (f : Frame) : Prop :=
  let role := s.roleOf (frameSource f)
  let n := (framePayload f).length
  let b := fun j : Nat => ((framePayload f).getD j 0).toNat
  (frameKind f = 16 →
    ((∀ m, role ≠ .mast m) ∧ (∀ d, role ≠ .dust d) ∧ (∀ z, role ≠ .moisture z) ∧ (∀ w, role ≠ .level w) ∧
      ∀ w, role ≠ .quality w) ∨ n < 6 ∨ 60 < n ∨ n % 6 ≠ 0) ∧
  (frameKind f = 17 →
    (∀ c, role = .valve c → n ≠ 5 ∨ 2 < b 0) ∧ ∀ g, role = .pump g → n ≠ 3 ∨ 2 < b 0) ∧
  (frameKind f = 18 → ∀ m, role = .machine m → n ≠ 3 ∨ 3 < b 0 ∨ 3 < b 1 ∨ (31 < b 2 ∧ b 2 ≠ 255))

/-- A frame at the control port is neither read nor admitted: no COMMAND to a node mapped VALVE, and no TIME frame of a
SUPERVISOR in the form that R7 requires (R6, R7, R155, R192). -/
abbrev State.Unadmitted (s : State) (f : Frame) : Prop :=
  let b := fun j : Nat => (framePayload f).getD j 0
  (frameKind f = 48 → ∀ c, s.roleOf (frameDest f) ≠ .valve c) ∧
  (frameKind f = 32 → ∀ i, s.roleOf (frameSource f) = .supervisor i →
    (framePayload f).length ≠ 6 ∨ 86399 < nat32 (b 2) (b 3) (b 4) (b 5))

/-- A record of a SAMPLE frame that its source's role uses: a channel of the table of R8, and a direction within 0–359. -/
def sampleUsed (role : NodeRole) (channel : Nat) (v : Int) : Bool :=
  match role, channel with
  | .mast _, 0 | .dust _, 0 | .moisture _, 0 | .level _, 0 | .quality _, 0 | .quality _, 1 => true
  | .mast _, 1 => decide (0 ≤ v ∧ v ≤ 359)
  | _, _ => false

/-- The cannon's current target as R69 derives it. -/
def State.targetOf (s : State) (c : CannonId) : Target :=
  let m := s.mast (s.cannonEntry c).refMast
  let e := s.coverage c m.sector
  { zone := if e.zone = none ∨ e.cutoff < m.gust then none else e.zone, efficiency := e.efficiency, pattern := e.pattern }

/-- Cannon `c` after its target has been derived again: a new pattern sets its aim to column 0 and row 0, and a new zone takes
the AUTO request, with its owed count, of a cannon in AUTOMATIC (R69, R70, R71). -/
def State.retargeted (s : State) (c : CannonId) : Cannon :=
  let k := s.cannon c
  let t := s.targetOf c
  let swept := t.pattern = k.target.pattern
  let asks := t.zone = k.target.zone ∨ (s.cannonEntry c).mode ≠ .automatic ∨ k.holds .auto = false
  { k with
    target := t, column := if swept then k.column else 0, row := if swept then k.row else 0
    request := if asks then k.request else none, owed := if asks then k.owed else 0 }

/-- The state in which the targets of the cannons that satisfy `p` have been derived again, and no burst is closed yet (R70,
R71). -/
def State.rederived (s : State) (p : CannonId → Bool) : State :=
  { s with cannons := Vector.ofFn fun c => if p c then s.retargeted c else s.cannon c }

/-- A derivation takes the target zone of a cannon in OPENING or SPRAYING to none, which closes its burst early (R72). -/
abbrev State.Untargets (s : State) (c : CannonId) : Prop :=
  (s.cannon c).inFlight ∧ (s.cannon c).target.zone.isSome ∧ (s.targetOf c).zone = none

/-! ## Places, closes and bursts as statements write them out -/

/-- A close without a burst is admitted for the cannon at once (R89). -/
abbrev State.Admits (s : State) (c : CannonId) : Prop :=
  s.wired c ∧ s.fieldPort.up ∧ (s.station (s.stationOf c)).inUse < (s.stationEntry (s.stationOf c)).limit ∧
  (s.station (s.stationOf c)).inUseFlow + (s.cannonEntry c).flow ≤ (s.stationEntry (s.stationOf c)).maxFlow

/-- The state in which a close without a burst has arisen for a cannon in UNKNOWN, IDLE or FAULT: admitted, with its place taken
and its CLOSE queued, or at the tail of its station's close waiting list (R89, R104). -/
def State.closeArisen (s : State) (c : CannonId) : State :=
  if s.Admits c then
    { s with
      cannons := updAt s.cannons c fun k => { k with state := .closing, faultPending := decide (k.state = .fault) }
      stations := updAt (s.stations.map fun g => { g with waiting := g.waiting.filter (· ≠ c) }) (s.stationOf c)
        fun g => { g with inUse := g.inUse + 1, inUseFlow := g.inUseFlow + (s.cannonEntry c).flow }
      commands := if s.hasCommand c then s.commands else s.commands ++ [{ cannon := c, verb := .closeValve }] }
  else if s.closeWaiting c then s
  else { s with stations := updAt s.stations (s.stationOf c) fun g => { g with waiting := g.waiting ++ [c] } }

/-- Closes without a burst judged in the order of `cs`, from state `s` to state `u`: each is admitted by the tests of R89 at the
places and flows that the ones before it at its station have left. -/
abbrev State.AdmitsInOrder (s u : State) (cs : List CannonId) : Prop :=
  ∀ (i : Nat) (c : CannonId), cs[i]? = some c →
    let g := s.stationOf c
    let before := (cs.take i).filter fun d => s.stationOf d = g ∧ (u.cannon d).state = .closing
    ((u.cannon c).state = .closing ↔
      s.wired c ∧ s.fieldPort.up ∧ (s.station g).inUse + before.length < (s.stationEntry g).limit ∧
      (s.station g).inUseFlow + (before.map fun d => (s.cannonEntry d).flow).sum + (s.cannonEntry c).flow ≤
        (s.stationEntry g).maxFlow)

/-- A capacity event at the station finds nothing to do: no cannon is close-waiting and none holds a FIRE request (R90). -/
abbrev State.Quiet (s : State) (g : StationId) : Prop :=
  (s.station g).waiting = [] ∧ ∀ c, s.stationOf c = g → (s.cannon c).holds .fire = false

/-- The state in which cannon `c`, whose mode was `was`, has taken mode `m`. It has the state of the table of R67. Leaving AUTOMATIC
removes its request, ends its preemption, stops its hold timer and takes it off the close waiting lists. Entering it leaves no
request; IDLE takes a confirming CLOSE where it needs one, and in a mode other than OFF the close of a mapped UNKNOWN cannon arises
(R67, R75, R89, R101, R114, R177). -/
def State.modeTaken (t : State) (c : CannonId) (was m : CannonMode) : State :=
  let k := t.cannon c
  let holding := fun k : Cannon => { t with cannons := updAt t.cannons c fun _ => k }
  let out : CannonState := if m = .bypass then .bypassClosed else .retired
  if was = .automatic then
    { holding { k with state := out, request := none, owed := 0, holdTimer := none } with
      stations := t.stations.map fun g =>
        { g with waiting := g.waiting.filter (· ≠ c), preempt := g.preempt.filter fun p => p.1 ≠ c } }
  else if m ≠ .automatic then holding { k with state := out }
  else if k.state = .bypassClosed then
    { holding { k with state := .idle, request := none, owed := 0 } with
      commands := if k.openMark ∧ t.hasCommand c = false then
          t.commands ++ [{ cannon := c, verb := .closeValve }]
        else t.commands }
  else
    let u := holding { k with state := .unknown, request := none, owed := 0 }
    if t.mode ≠ .off ∧ t.wired c then u.closeArisen c else u

/-- The state in which cannon `c` has been closed early or at the end of its burst: CLOSING with its CLOSE queued (R104, R107,
R110, R112). -/
def State.shut (s : State) (c : CannonId) (forFault : Bool) : State :=
  { s with
    cannons := updAt s.cannons c fun k =>
      { k with state := .closing, burstTimer := none, ackTimer := none, faultPending := k.faultPending || forFault }
    commands := if s.hasCommand c then s.commands else s.commands ++ [{ cannon := c, verb := .closeValve }] }

/-- The state in which the OPEN of cannon `c` has been removed unsent: its commitment released, its place given back, and no
draw accounted (R101, R110, R112). -/
def State.unsent (s : State) (c : CannonId) (next : CannonState) : State :=
  { s with
    cannons := updAt s.cannons c fun k =>
      { k with state := next, burst := none, burstTimer := none, ackTimer := none, faultPending := false }
    commands := s.commands.filter fun q => ¬ (q.cannon = c ∧ q.verb = .openValve)
    sources := match (s.cannon c).burst with
      | some b => updAt s.sources b.source fun w => { w with committed := w.committed - b.planned }
      | none => s.sources
    stations := (updAt s.stations (s.stationOf c) fun g =>
        { g with inUse := g.inUse - 1, inUseFlow := g.inUseFlow - (s.cannonEntry c).flow }).map fun g =>
      { g with preempt := g.preempt.filter fun p => p.2 ≠ c } }

/-- The state in which the bursts of the cannons `cs` have been closed early, in that order: an OPEN that is still queued is
removed unsent, and any other burst's cannon is CLOSING (R112). -/
def State.endedEarly (s : State) (cs : List CannonId) : State :=
  cs.foldl (fun t c => if (s.cannon c).state = .opening ∧ s.openQueued c then t.unsent c .idle else t.shut c false) s

/-- The litres of a valve's opening: those delivered where the valve reports some, else from the open seconds (R111, R113). -/
def drawn (flow seconds litres : Nat) : Nat := if litres = 0 then flow * seconds / 60 else litres

/-- A source after a draw (R131). -/
def Source.drew (w : Source) (metered : Bool) (draw : Nat) : Source :=
  { w with
    dayDraw := min 4294967295 (w.dayDraw + draw)
    estimate := if metered then w.estimate.map fun v => v - draw else w.estimate }

/-- The state in which a valve's status has taken cannon `c` from SPRAYING, CLOSING or STUCK to `next`: the burst's commitment
released with its draw, its zone credited, its place given back, the preemption that closed it ended, and a confirming CLOSE
queued on entry to IDLE (R59, R88, R101, R109, R110, R113, R114, R131). -/
def State.ended (s : State) (c : CannonId) (next : CannonState) (litres : Nat) : State :=
  let k := s.cannon c
  let flow := (s.cannonEntry c).flow
  { s with
    cannons := updAt s.cannons c fun k =>
      { k with state := next, burst := none, burstTimer := none, ackTimer := none, faultPending := false }
    sources := match k.burst with
      | some b => updAt s.sources b.source fun w =>
        { w with committed := w.committed - b.planned }.drew (s.sourceEntry b.source).metered (drawn flow b.openSeconds litres)
      | none => s.sources
    zones := match k.burst, k.burst.bind (·.credited) with
      | some b, some z => updAt s.zones z fun x =>
        { x with
          mest := min 300 (x.mest + drawn flow b.openSeconds litres * b.efficiency / (100 * (s.zoneEntry z).area)) }
      | _, _ => s.zones
    stations := (updAt s.stations (s.stationOf c) fun g =>
        { g with inUse := g.inUse - 1, inUseFlow := g.inUseFlow - flow }).map fun g =>
      { g with preempt := g.preempt.filter fun p => p.2 ≠ c }
    commands := if next = .idle ∧ k.openMark ∧ s.hasCommand c = false then
        s.commands ++ [{ cannon := c, verb := .closeValve }]
      else s.commands }

/-! ## Arbitration as statements write it out -/

/-- The three tests of R128 on a source, with its committed total given. -/
abbrev SourcePasses (e : SourceEntry) (w : Source) (cls : BurstClass) (priority planned committed : Nat) : Prop :=
  (w.quality = .ok ∨ (w.quality = .marginal ∧ (cls = .fire ∨ 2 ≤ priority))) ∧
  (e.metered → ∃ v, w.estimate = some v ∧
    committed + planned + e.floor + (if cls = .fire then 0 else e.fireReserve) ≤ v) ∧
  (e.allowance = 0 ∨ cls = .fire ∨ w.dayDraw + committed + planned ≤ e.allowance)

/-- The conditions of R93 on cannon `c` at station `g`, but for those on its request. -/
abbrev State.Able (s : State) (g : StationId) (c : CannonId) : Prop :=
  s.stationOf c = g ∧ (s.cannonEntry c).mode = .automatic ∧ (s.cannon c).state = .idle ∧
  (∀ h, c ∉ (s.station h).waiting) ∧ s.wired c ∧ ∀ q ∈ s.commands, q.cannon ≠ c

/-- Cannon `c` holds a FIRE request that is arbitrated at once: dispatch is not OFF, the field link is UP, its station is
available, and it is a candidate (R99). -/
abbrev State.FireServed (s : State) (c : CannonId) : Prop :=
  s.mode ≠ .off ∧ s.fieldPort.up ∧ (s.station (s.stationOf c)).pump = .running ∧ s.Able (s.stationOf c) c ∧
  (s.cannon c).holds .fire

/-- The cannon is a candidate of station `g` at slot `k` (R93, R142). -/
abbrev State.Candidate (s : State) (g : StationId) (k : Nat) (c : CannonId) : Prop :=
  s.Able g c ∧
  ((∃ p z, (s.cannon c).request = some (.auto p z) ∧ (s.cannonEntry c).slotMask.getLsbD k ∧
      (s.machineCount z = 0 ∨ (s.zoneEntry z).policy)) ∨
   (∃ p d a e, (s.cannon c).request = some (.manual p d a e) ∧
      ∀ z, (s.cannon c).target.zone = some z → s.machineCount z = 0 ∨ (s.zoneEntry z).policy) ∨
   (s.cannon c).holds .fire)

/-- Candidate `a` is placed before candidate `b` at station `g` (R94). -/
abbrev State.RanksBefore (s : State) (g : StationId) (a b : CannonId) : Prop :=
  let fire := fun c => (s.cannon c).holds .fire
  let low := fun c => 3 - (s.cannon c).request.elim 0 (·.priority)
  let owed := fun c => decide ((s.cannon c).holds .auto ∧ 0 < (s.cannon c).owed)
  let far := fun c : CannonId => (c.val + 48 - (s.station g).pointer.val) % 48
  (fire a ∧ ¬ fire b) ∨
  (fire a = fire b ∧ (low a < low b ∨ (low a = low b ∧
    ((owed a ∧ ¬ owed b) ∨ (owed a = owed b ∧ far a < far b)))))

/-- `cs` holds the cannons that satisfy `p`, in the order of R94 at station `g`. -/
abbrev State.WalkOf (s : State) (g : StationId) (p : CannonId → Prop) (cs : List CannonId) : Prop :=
  (∀ c, c ∈ cs ↔ p c) ∧ cs.Pairwise (s.RanksBefore g)

/-- The walk of the close waiting list `queue` of station `g` takes state `s` to state `t`: each of its cannons is judged in order
by the tests of R89; one that passes enters CLOSING, with the fault-pending mark from FAULT, its place taken and its CLOSE
queued, and leaves the list; nothing else changes (R88, R89, R104). -/
structure State.Walked (s t : State) (g : StationId) (queue : List CannonId) : Prop where
  judged : s.AdmitsInOrder t queue
  state : t = { s with cannons := t.cannons, stations := t.stations, commands := t.commands }
  cannons : ∀ c, t.cannon c = s.cannon c ∨
    (c ∈ queue ∧ t.cannon c =
      { s.cannon c with state := .closing, faultPending := decide ((s.cannon c).state = .fault) })
  commands : t.commands = s.commands ++
    ((queue.filter fun c => (t.cannon c).state = .closing ∧ s.hasCommand c = false).map fun c =>
      { cannon := c, verb := .closeValve })
  others : ∀ h, h ≠ g → t.station h = s.station h
  station : let closing := queue.filter fun c => (t.cannon c).state = .closing
    t.station g =
      { s.station g with
        waiting := queue.filter fun c => (t.cannon c).state ≠ .closing
        inUse := (s.station g).inUse + closing.length
        inUseFlow := (s.station g).inUseFlow + (closing.map fun c => (s.cannonEntry c).flow).sum }

/-! ## Bands and slots as statements write them out -/

/-- The band `b'` that risk `r` gives a zone in band `b`: up, hold or down (R52). -/
abbrev Profile.BandAfter (p : Profile) (r : Nat) (b b' : Band) : Prop :=
  (b.rank < b'.rank ∧ p.threshold b' ≤ r ∧ ∀ c : Band, b'.rank < c.rank → r < p.threshold c) ∨
  ((∀ c : Band, b.rank < c.rank → r < p.threshold c) ∧ p.threshold b ≤ r + p.hysteresis ∧ b' = b) ∨
  ((∀ c : Band, b.rank < c.rank → r < p.threshold c) ∧ r + p.hysteresis < p.threshold b ∧ b'.rank < b.rank ∧
    p.threshold b' ≤ r + p.hysteresis ∧
    ∀ c : Band, b'.rank < c.rank → c.rank < b.rank → r + p.hysteresis < p.threshold c)

/-- The slot of the hour that lies `n` hours after the hour epoch, where it is valid and holds that hour (R27, R30, R31). -/
def State.slotAhead (s : State) (n : Nat) : Option (Fin 48) :=
  let hour := (s.clock.day * 24 + s.clock.second / 3600 + n) % 1572864
  let i : Fin 48 := ⟨hour % 48, Nat.mod_lt _ (by decide)⟩
  if s.clock.timeSet ∧ (s.slotAt i).valid ∧ (s.slotAt i).hour = hour then some i else none

/-- The wind of an evaluation of zone `z`, the first of three: its primary mast's where FRESH; its fallback mast's where it names
one and that is FRESH; the current slot's, where the clock is SET and it is valid, which is FORECAST-ONLY (R30, R45). -/
abbrev State.WindIs (s : State) (z : ZoneId) (mean gust : Nat) (sector : Sector) (forecast : Bool) : Prop :=
  let e := s.zoneEntry z
  let blows := fun m : Mast => m.fresh ∧ mean = m.acc / 16 ∧ gust = m.gust ∧ sector = m.sector ∧ forecast = false
  let primary := s.mast e.primary
  blows primary ∨
  (primary.fresh = false ∧ ∃ f, e.fallback = some f ∧ blows (s.mast f)) ∨
  (primary.fresh = false ∧ (∀ f, e.fallback = some f → (s.mast f).fresh = false) ∧
    ∃ i, s.slotAhead 0 = some i ∧ mean = (s.slotAt i).mean ∧ gust = (s.slotAt i).gust ∧ sector = (s.slotAt i).sector ∧
      forecast = true)

/-- An evaluation of zone `z` finds none of the three winds (R46). -/
abbrev State.NoWind (s : State) (z : ZoneId) : Prop :=
  (s.mast (s.zoneEntry z).primary).fresh = false ∧
  (∀ f, (s.zoneEntry z).fallback = some f → (s.mast f).fresh = false) ∧ s.slotAhead 0 = none

/-- The kind, subject and value bytes of a notice as the table of R196 lays them out. -/
def Report.laidOut : Report → List Byte
  | .bandChange z b r => [1, byte z.val, 0, byte b.rank, byte (r / 256), byte r]
  | .zoneBlind z entering => [2, byte z.val, 0, 0, 0, if entering then 1 else 0]
  | .mastStale m mean => [3, byte m.val, 0, 0, byte (mean / 256), byte mean]
  | .machineStale m z k a =>
    [4, byte m.val, 0, (z.map fun z => byte z.val).getD 255, byte k.code, byte a.code]
  | .cannonFault c cause => [5, byte c.val, 0, 0, 0, match cause with | .noOpenAck => 1 | .valveFault => 2]
  | .cannonStuck c => [6, byte c.val, 0, 0, 0, 0]
  | .unexpectedClose c draw =>
    [7, byte c.val, byte (draw / 16777216), byte (draw / 65536), byte (draw / 256), byte draw]
  | .uncommandedOpen c => [8, byte c.val, 0, 0, 0, 0]
  | .commandRefused c reason verb fire addressed substitute =>
    [9, byte c.val, byte reason.code,
      (match verb with | none => 0 | some .openValve => 1 | some .closeValve => 2) ||| (if fire then 128 else 0),
      byte addressed.val, (substitute.map fun d => byte d.val).getD 255]
  | .sourceLow w kind estimate =>
    let e := min 1073741823 estimate
    [10, byte w.val, byte (kind.code * 64 + e / 16777216), byte (e / 65536), byte (e / 256), byte e]
  | .sourceQuality w q stale kind => [11, byte w.val, 0, byte q.code, if stale then 1 else 0, byte kind.code]
  | .stationDown g pump => [12, byte g.val, 0, 0, 0, byte pump.code]
  | .wake z b => [13, byte z.val, 0, 0, 0, byte b.rank]
  | .fieldDown n => [14, 1, 0, 0, 0, byte n]
  | .fieldUp n => [15, 1, 0, 0, 0, byte n]
  | .portError p flag all =>
    [16, (match p with | .control => 0 | .field => 1), 0, 0,
      match flag with | .check => 1 | .length => 2 | .header => 4 | .overrun => 8, byte all.code]
  | .dispatchMode new previous cause =>
    [17, 0, 0, byte new.code, byte previous.code, match cause with | .request => 0 | .wake => 1]
  | .storeInvalid cause => [18, 0, 0, 0, 0, match cause with | .check => 1 | .content => 2]

/-! ## Records of READ-STATE as statements write them out -/

/-- Fields of a record one after another, each of its width in bytes, high byte first, and all ones where it has no value
(R197). -/
def laid (fields : List (Nat × Option Nat)) : List Byte :=
  fields.flatMap fun f => (List.range f.1).map fun j =>
    BitVec.ofNat 8 (f.2.getD (256 ^ f.1 - 1) / 256 ^ (f.1 - 1 - j))

/-- A condition as a field's value: 1 where it holds. -/
def flagField (b : Bool) : Option Nat := some (if b then 1 else 0)

/-- A name as a field's value: its place in the list of its rule's names. -/
def nameField {α : Type} [DecidableEq α] (names : List α) (a : α) : Option Nat := some (names.idxOf a)

/-- The request fields of a CANNON record: class, priority, zone, duration, azimuth, elevation (R73, R83, R197). -/
def CannonRequest.laidFields : Option CannonRequest → List (Nat × Option Nat)
  | none => [(1, none), (1, some 0), (1, some 0), (2, some 0), (2, some 0), (1, some 0)]
  | some (.auto p z) => [(1, some 0), (1, some p), (1, some z.val), (2, none), (2, none), (1, none)]
  | some (.manual p d az el) => [(1, some 1), (1, some p), (1, none), (2, some d), (2, some az), (1, some el)]
  | some (.fire p d az el) => [(1, some 2), (1, some p), (1, none), (2, some d), (2, some az), (1, some el)]

/-- The burst fields of a CANNON record: class, priority, credited zone, efficiency, source, planned draw, duration, azimuth,
elevation, OPEN sent, open seconds; of a BYPASS-OPEN cannon its open seconds alone (R119, R197). -/
def Cannon.laidBurst (k : Cannon) : List (Nat × Option Nat) :=
  let empty := fun (cls : Option Nat) (seconds : Nat) =>
    [(1, cls), (1, some 0), (1, some 0), (1, some 0), (1, some 0), (4, some 0), (2, some 0), (2, some 0), (1, some 0),
     (1, some 0), (2, some seconds)]
  if k.state = .bypassOpen then empty (some 0) k.bypassSeconds
  else match k.burst with
    | none => empty none 0
    | some b =>
      [(1, nameField [.auto, .manual, .fire] b.cls), (1, some b.priority), (1, b.credited.map (·.val)),
       (1, some b.efficiency), (1, some b.source.val), (4, some b.planned), (2, some b.duration), (2, some b.azimuth),
       (1, some b.elevation), (1, flagField b.openSent), (2, some b.openSeconds)]

/-- The record of an object kind at an index, its fields in the order of the rule that lists them (R22, R37, R61, R83, R102,
R119, R137, R148, R163, R178, R197; codes and widths by log entry 13). -/
def State.laidOut (s : State) (kind i : Nat) : List Byte :=
  match kind with
  | 1 =>
    let m := s.mast (Fin.ofNat 8 i)
    laid [(2, some m.acc), (2, some (m.acc / 16)), (2, some m.gust), (1, some m.sector.val),
      (1, m.pendingSector.map (·.val)), (1, some m.count), (1, flagField !m.fresh)]
  | 2 =>
    let d := s.dust (Fin.ofNat 12 i)
    laid [(2, some d.acc), (2, some (d.acc / 4)), (1, flagField !d.fresh)]
  | 3 =>
    let p := s.probe (Fin.ofNat 32 i)
    laid [(2, some p.value), (1, flagField !p.fresh)]
  | 4 =>
    let lead := s.slotAhead s.settings.lead
    laid [(1, flagField s.clock.timeSet), (2, some s.clock.day), (4, some s.clock.second),
      (4, if s.clock.timeSet then some (s.clock.day * 24 + s.clock.second / 3600) else none), (2, some s.clock.upDay),
      (4, some s.clock.upSecond), (1, (s.slotAhead 0).map (·.val)), (1, lead.map (·.val)),
      (1, flagField (lead.any fun k =>
        decide (s.settings.rainThreshold ≠ 0 ∧ s.settings.rainThreshold ≤ (s.slotAt k).rain)))]
  | 5 =>
    let x := s.slotAt (Fin.ofNat 48 i)
    laid [(1, flagField x.valid), (4, some x.hour), (2, some x.mean), (2, some x.gust), (1, some x.sector.val),
      (1, some x.rain), (1, some x.evap)]
  | 6 =>
    let x := s.zone (Fin.ofNat 32 i)
    laid [(2, some x.risk), (1, nameField [.calm, .watch, .act, .severe] x.band), (2, some x.mest),
      (2, some x.remainder), (1, flagField x.blind), (1, flagField x.forecastOnly), (1, flagField x.uplift),
      (1, some x.sectorUsed.val), (1, x.timer.map (·.remaining))]
  | 7 =>
    let c : CannonId := Fin.ofNat 48 i
    let k := s.cannon c
    laid ([(1, nameField [.automatic, .bypass, .outOfService] (s.cannonEntry c).mode),
        (1, nameField [.unknown, .idle, .opening, .spraying, .closing, .stuck, .fault, .bypassClosed, .bypassOpen,
          .retired] k.state),
        (1, flagField k.faultPending), (1, flagField !s.mapped (.valve c))] ++
      CannonRequest.laidFields k.request ++
      [(1, some k.owed), (1, k.target.zone.map (·.val)), (1, some k.target.efficiency), (1, some k.target.pattern.val),
        (1, some k.column), (1, some k.row), (2, k.holdTimer)] ++
      k.laidBurst ++
      [(1, flagField k.openMark),
        (1, ((s.commands.find? fun q => q.cannon = c).map fun q => if q.verb = .openValve then 1 else 2)),
        (2, k.burstTimer), (1, k.ackTimer)])
  | 8 =>
    let g : StationId := Fin.ofNat 4 i
    let x := s.station g
    let bypassed := (List.finRange 48).filter fun c => s.stationOf c = g ∧ (s.cannon c).state = .bypassOpen
    laid ([(1, some x.slot.val), (1, x.slotTimer), (1, some x.pointer.val), (1, some x.inUse), (2, some x.inUseFlow),
        (1, some (x.inUse + bypassed.length)),
        (4, some (x.inUseFlow + (bypassed.map fun c => (s.cannonEntry c).flow).sum)),
        (1, nameField [.stopped, .running, .tripped, .unknown] x.pump), (2, some x.pressure), (1, x.pumpTimer),
        (1, flagField (x.pump = .running)), (1, some x.waiting.length)] ++
      ((List.range 24).map fun j => (1, x.waiting[j]?.map (·.val))) ++ [(1, some x.preempt.length)] ++
      (List.range 8).flatMap fun j => [(1, x.preempt[j]?.map (·.1.val)), (1, x.preempt[j]?.map (·.2.val))])
  | 9 =>
    let w : SourceId := Fin.ofNat 4 i
    let x := s.source w
    let grade := fun g : Grade => nameField [.ok, .marginal, .reject] g
    laid [(1, nameField [.recycledPond, .settlingPond, .tank, .fresh] (s.sourceEntry w).kind),
      (1, flagField (s.sourceEntry w).metered), (4, x.estimate), (4, some x.committed), (4, some x.dayDraw),
      (1, grade x.turbidity), (1, grade x.conductivity), (1, flagField x.stale), (1, grade x.quality),
      (1, flagField (s.mapped (.level w))), (1, flagField (s.mapped (.quality w))), (2, x.timer)]
  | 10 =>
    let m := s.machine (Fin.ofNat 8 i)
    laid [(1, nameField [.absent, .present, .stale] m.presence),
      (1, nameField [.stacker, .reclaimer, .dozer, .other] m.kind),
      (1, nameField [.travel, .stacking, .reclaiming, .parked] m.activity), (1, m.zone.map (·.val)), (2, m.timer)]
  | 11 =>
    let powers := fun p : ZoneId → Bool => ((List.finRange 32).map fun z => if p z then 2 ^ z.val else 0).sum
    laid (((List.finRange 32).map fun z => (1, some (s.machineCount z))) ++
      [(4, some (powers fun z => decide (s.machineCount z ≠ 0 ∧ (s.zoneEntry z).policy = false))),
       (4, some (powers fun z => decide (∃ m : MachineId, (s.machine m).presence ≠ .absent ∧ (s.machine m).zone = some z ∧
          ((s.machine m).activity = .stacking ∨ (s.machine m).activity = .reclaiming))))])
  | 12 =>
    let x := if i = 0 then s.controlPort else s.fieldPort
    laid ([(1, some ((if x.flags.check then 1 else 0) + (if x.flags.length then 2 else 0) +
          (if x.flags.header then 4 else 0) + (if x.flags.overrun then 8 else 0))),
        (1, flagField !x.up), (1, x.liveness), (1, some x.buffer.length), (1, nameField [.forward, .insertion] x.turn)] ++
      if i = 0 then [] else [(1, some s.commands.length)])
  | 13 =>
    let modes : List DispatchMode := [.off, .run, .watch, .halt]
    laid [(1, nameField modes s.mode), (1, s.lastChange.bind fun c => nameField modes c.previous),
      (1, s.lastChange.bind fun c => nameField [.request, .wake] c.cause), (1, flagField !s.fieldPort.up),
      (1, some ((List.finRange 48).filter fun c => (s.cannon c).state = .unknown).length),
      (1, some ((List.finRange 4).map fun g => (s.station g).waiting.length).sum)]
  | _ => []

/-! ## Table entries as statements write them out (R195) -/

/-- A NODE-MAP entry: its role's code and its index. -/
def NodeRole.laidOut : NodeRole → List Byte
  | .none => laid [(1, some 0), (1, some 0)]
  | .mast i => laid [(1, some 1), (1, some i.val)]
  | .dust i => laid [(1, some 2), (1, some i.val)]
  | .moisture i => laid [(1, some 3), (1, some i.val)]
  | .level i => laid [(1, some 4), (1, some i.val)]
  | .quality i => laid [(1, some 5), (1, some i.val)]
  | .valve i => laid [(1, some 6), (1, some i.val)]
  | .pump i => laid [(1, some 7), (1, some i.val)]
  | .machine i => laid [(1, some 8), (1, some i.val)]
  | .supervisor i => laid [(1, some 9), (1, some i.val)]

/-- A set of numbers below `n` as a field's value: each member `k` adds 2 to the power k. -/
def maskField {n : Nat} (mask : BitVec n) : Option Nat :=
  some (((List.range n).map fun k => if mask.getLsbD k then 2 ^ k else 0).sum)

/-- A ZONE entry. -/
def ZoneEntry.laidOut (e : ZoneEntry) : List Byte :=
  laid [(1, flagField e.enabled), (1, some e.primary.val), (1, e.fallback.map (·.val)), (1, e.dust.map (·.val)),
    (2, some e.threshold), (2, some e.mref), (2, some e.area), (1, some e.profile.val), (2, maskField e.sensitive),
    (1, flagField e.policy), (1, flagField e.watch)]

/-- A PROFILE entry. -/
def Profile.laidOut (e : Profile) : List Byte :=
  laid [(2, some e.tw), (2, some e.ta), (2, some e.ts), (1, some e.hysteresis), (1, some e.dutyWatch), (1, some e.dutyAct),
    (1, some e.dutySevere)]

/-- A CANNON entry. -/
def CannonEntry.laidOut (e : CannonEntry) : List Byte :=
  laid [(1, nameField [.automatic, .bypass, .outOfService] e.mode), (1, some e.station.val), (2, some e.flow),
    (3, maskField e.slotMask), (1, some e.refMast.val), (2, some e.holdTime)]

/-- A COVERAGE entry. -/
def Coverage.laidOut (e : Coverage) : List Byte :=
  laid [(1, e.zone.map (·.val)), (1, some e.efficiency), (1, some e.pattern.val), (2, some e.cutoff)]

/-- A PATTERN entry. -/
def Pattern.laidOut (e : Pattern) : List Byte :=
  laid [(2, some e.azStart), (1, some e.azStep), (1, some e.cols), (1, some e.elStart), (1, some e.elStep), (1, some e.rows)]

/-- A STATION entry: its list's length, and four places, 255 past the length. -/
def StationEntry.laidOut (e : StationEntry) : List Byte :=
  laid ([(1, some e.slotLength), (1, some e.limit), (2, some e.maxFlow), (1, some e.prefs.length)] ++
    (List.range 4).map fun j => (1, e.prefs[j]?.map (·.val)))

/-- A SOURCE entry. -/
def SourceEntry.laidOut (e : SourceEntry) : List Byte :=
  laid [(1, nameField [.recycledPond, .settlingPond, .tank, .fresh] e.kind), (1, flagField e.metered), (4, some e.floor),
    (4, some e.fireReserve), (4, some e.allowance), (2, some e.turbMarginal), (2, some e.turbReject),
    (4, some e.condMarginal), (4, some e.condReject)]

/-- A SUBSTITUTION entry. -/
def Window.laidOut (e : Window) : List Byte :=
  laid [(1, some e.base.val), (1, some e.limit.val), (1, some e.target.val)]

/-- The SETTINGS entry. -/
def Settings.laidOut (e : Settings) : List Byte :=
  laid ([(1, some e.gustDecay), (1, some e.mastStale), (2, some e.dustStale), (2, some e.probeStale)] ++
    ((List.finRange 12).map fun d => (2, some e.alertLevels[d])) ++
    [(1, some e.ownId), (1, some e.lead), (1, some e.rainThreshold), (1, some e.defaultEvap), (1, some e.evalPeriod),
      (1, some e.pumpStale), (1, some e.ackTime), (1, some e.stuckRetry), (2, some e.qualityStale),
      (2, some e.machineStale), (1, some e.linkTimeout), (1, flagField e.watchQuiet)])

/-- Entry `n` of a table; the node map's are numbered by node id, from 1 (R183, R195). -/
def Tables.laidOut (t : Tables) (table n : Nat) : List Byte :=
  match table with
  | 1 => (t.nodeMap[n - 1]?.map NodeRole.laidOut).getD []
  | 2 => (t.zones[n]?.map ZoneEntry.laidOut).getD []
  | 3 => (t.profiles[n]?.map Profile.laidOut).getD []
  | 4 => (t.cannons[n]?.map CannonEntry.laidOut).getD []
  | 5 => (t.coverage[n]?.map Coverage.laidOut).getD []
  | 6 => (t.patterns[n]?.map Pattern.laidOut).getD []
  | 7 => (t.stations[n]?.map StationEntry.laidOut).getD []
  | 8 => (t.sources[n]?.map SourceEntry.laidOut).getD []
  | 9 => (t.windows[n]?.map Window.laidOut).getD []
  | 10 => if n = 0 then t.settings.laidOut else []
  | _ => []

/-- How many bytes an entry of each table has, from table 1 to table 10 (R195). -/
def entryWidths : List Nat := [2, 15, 10, 10, 5, 7, 9, 26, 3, 44]

/-- The bytes of an entry of a table lie in the ranges that the table's rule gives, each field at its place in R195 (R2, R3, R20,
R36, R38, R41, R60, R63, R68, R78, R84, R102, R118, R120, R136, R147, R163, R167). -/
def entryInRange (table : Nat) (b : List Byte) : Bool :=
  let a1 := fun i : Nat => (b.getD i 0).toNat
  let a2 := fun i : Nat => a1 i * 256 + a1 (i + 1)
  let a4 := fun i : Nat => a2 i * 65536 + a2 (i + 2)
  match table with
  | 1 => a1 0 = 0 ∨ a1 1 < [8, 12, 32, 4, 4, 48, 4, 8, 2].getD (a1 0 - 1) 0
  | 2 =>
    a1 0 ≤ 1 ∧ a1 1 ≤ 7 ∧ (a1 2 ≤ 7 ∨ a1 2 = 255) ∧ (a1 3 ≤ 11 ∨ a1 3 = 255) ∧ 10 ≤ a2 4 ∧ a2 4 ≤ 400 ∧ 10 ≤ a2 6 ∧
    a2 6 ≤ 300 ∧ 1 ≤ a2 8 ∧ a1 10 ≤ 3 ∧ a1 13 ≤ 1 ∧ a1 14 ≤ 1
  | 3 =>
    1 ≤ a2 0 ∧ a2 0 < a2 2 ∧ a2 2 < a2 4 ∧ a2 4 ≤ 1000 ∧ a1 6 ≤ 200 ∧ 1 ≤ a1 7 ∧ a1 7 ≤ 16 ∧ 1 ≤ a1 8 ∧ a1 8 ≤ 16 ∧
    1 ≤ a1 9 ∧ a1 9 ≤ 16
  | 4 =>
    a1 0 ≤ 2 ∧ a1 1 ≤ 3 ∧ 100 ≤ a2 2 ∧ a2 2 ≤ 6000 ∧ a1 4 * 65536 + a2 5 < 2 ^ 20 ∧ a1 7 ≤ 7 ∧ a2 8 ≤ 3600
  | 5 => (a1 0 ≤ 31 ∨ a1 0 = 255) ∧ a1 1 ≤ 100 ∧ a1 2 ≤ 7 ∧ a2 3 ≤ 600
  | 6 =>
    a2 0 ≤ 359 ∧ 1 ≤ a1 2 ∧ a1 2 ≤ 90 ∧ 1 ≤ a1 3 ∧ a1 3 ≤ 16 ∧ a1 4 ≤ 60 ∧ a1 5 ≤ 15 ∧ 1 ≤ a1 6 ∧ a1 6 ≤ 8
  | 7 =>
    let prefs := (List.range (a1 4)).map fun j => a1 (5 + j)
    5 ≤ a1 0 ∧ a1 0 ≤ 60 ∧ 1 ≤ a1 1 ∧ a1 1 ≤ 8 ∧ 100 ≤ a2 2 ∧ a2 2 ≤ 30000 ∧ 1 ≤ a1 4 ∧ a1 4 ≤ 4 ∧
    prefs.all (· ≤ 3) ∧ prefs.Nodup ∧ ((List.range 4).drop (a1 4)).all fun j => a1 (5 + j) = 255
  | 8 =>
    a1 0 ≤ 3 ∧ a1 1 ≤ 1 ∧ a4 2 ≤ 4000000000 ∧ a4 6 ≤ 4000000000 ∧ a4 10 ≤ 4000000000 ∧ 1 ≤ a2 14 ∧ a2 14 < a2 16 ∧
    a2 16 ≤ 10000 ∧ 1 ≤ a4 18 ∧ a4 18 < a4 22 ∧ a4 22 ≤ 200000
  | 9 => a1 0 ≤ 47 ∧ a1 1 ≤ 47 ∧ a1 2 ≤ 47
  | 10 =>
    a1 0 ≤ 20 ∧ 5 ≤ a1 1 ∧ a1 1 ≤ 120 ∧ 30 ≤ a2 2 ∧ a2 2 ≤ 900 ∧ 60 ≤ a2 4 ∧ a2 4 ≤ 3600 ∧
    ((List.range 12).all fun d => 1 ≤ a2 (6 + 2 * d) ∧ a2 (6 + 2 * d) ≤ 9999) ∧ 1 ≤ a1 30 ∧ a1 30 ≤ 239 ∧ a1 31 ≤ 3 ∧ a1 32 ≤ 100 ∧
    a1 33 ≤ 100 ∧ 10 ≤ a1 34 ∧ a1 34 ≤ 120 ∧ 10 ≤ a1 35 ∧ a1 35 ≤ 120 ∧ 1 ≤ a1 36 ∧ a1 36 ≤ 10 ∧ 5 ≤ a1 37 ∧
    a1 37 ≤ 60 ∧ 60 ≤ a2 38 ∧ a2 38 ≤ 3600 ∧ 10 ≤ a2 40 ∧ a2 40 ≤ 600 ∧ 1 ≤ a1 42 ∧ a1 42 ≤ 30 ∧ a1 43 ≤ 1
  | _ => false

/-! ## Requests as statements write them out -/

/-- The node map holds a SUPERVISOR entry, and the node is not one of them (R180). -/
abbrev State.Barred (s : State) (node : Byte) : Prop :=
  (∃ (i : Fin 239) (n : Fin 2), s.cfg.nodeMap[i] = .supervisor n) ∧
  ∀ (i : Fin 239) (n : Fin 2), i.val + 1 = node.toNat → s.cfg.nodeMap[i] ≠ .supervisor n

/-- The length of a body agrees with its request code and the counts it declares (R32, R180, R194, R195). A WRITE-ENTRIES of no
table has no entry size, and agrees from four bytes on (log entry 19). -/
def bodyAgrees (code : Byte) (body : List Byte) : Bool :=
  let n := body.length
  let b := fun j : Nat => (body.getD j 0).toNat
  match code.toNat with
  | 1 | 11 | 12 => n = 0
  | 2 => n = 4
  | 3 => 4 ≤ n ∧ (b 0 = 0 ∨ 10 < b 0 ∨ n = 4 + b 3 * entryWidths.getD (b 0 - 1) 0)
  | 4 => 1 ≤ b 4 ∧ b 4 ≤ 8 ∧ n = 5 + 7 * b 4
  | 5 => n = 3
  | 6 | 8 | 10 => n = 1
  | 7 | 9 => n = 2
  | _ => false

/-- The part runs, is at rest, and its management unit may take the request at the head of its queue from a source that
may manage the part (R179, R180). -/
abbrev State.Takes (s : State) (source : Byte) (payload : List Byte) (rest : List MgmtRequest) : Prop :=
  s.phase = .running ∧ s.Rested ∧ s.requests = { source := source, payload := payload } :: rest ∧ s.replyLoad < 4 ∧
  s.permits source = true

/-- The state in which the head request has left its queue and its reply has joined the reply queue (R179). -/
def State.replied (s : State) (rest : List MgmtRequest) (dest code tag : Byte) (status : Status) (body : List Byte) :
    State :=
  { s with
    requests := rest
    replies := s.replies ++ [{ dest := dest, code := code, tag := tag, status := status, body := body }] }

/-- The state in which a WRITE-ENTRIES of the entries `bs` of a table, from entry `e` onward, waits at the head of the request
queue (R184, R194). -/
def State.writing (s : State) (source tag : Byte) (table e : Nat) (bs : List (List Byte)) : State :=
  { s with
    requests :=
      { source := source, payload := [3, tag, byte table] ++ be16 e ++ [byte bs.length] ++ bs.flatten } :: s.requests }

/-- The state in which the reply of a WRITE-ENTRIES has joined the reply queue: its status, count written, entry refused and
reason (R179, R194). -/
def State.wrote (s : State) (dest tag : Byte) (status : Status) (count entry reason : Nat) : State :=
  { s with
    replies := s.replies ++
      [{ dest := dest, code := 3, tag := tag, status := status, body := byte count :: be16 entry ++ [byte reason] }] }

/-- The rows that write the entries of the ten tables, from table 1 to table 10 (R184, R194). -/
def writeRows : List Instr :=
  [.writeNodeMap, .writeZone, .writeProfile, .writeCannon, .writeCoverage, .writePattern, .writeStation, .writeSource,
   .writeSubstitution, .writeSettings]

/-- The requests' rows of the management unit. -/
def managementRows : List Instr :=
  [.identify, .readEntries, .readState, .writeNodeMap, .writeZone, .writeProfile, .writeCannon, .writeCoverage,
   .writePattern, .writeStation, .writeSource, .writeSubstitution, .writeSettings, .loadForecast, .start, .watch, .halt,
   .resume, .stop, .setCannonMode, .clearFault, .clearFlags, .clearMachine, .save, .restart]

/-- What a sending may change of a cannon: the marks, the aim and the timer of R79 and R105. -/
structure Cannon.SameButSending (k k' : Cannon) : Prop where
  state : k'.state = k.state
  station : k'.station = k.station
  request : k'.request = k.request
  owed : k'.owed = k.owed
  target : k'.target = k.target
  holdTimer : k'.holdTimer = k.holdTimer
  burst : k'.burst.map (fun b => { b with openSent := false }) = k.burst.map (fun b => { b with openSent := false })
  burstTimer : k'.burstTimer = k.burstTimer
  faultPending : k'.faultPending = k.faultPending
  bypassSeconds : k'.bypassSeconds = k.bypassSeconds

/-- What an event of one cannon, station or frame leaves alone: every record that is not of the yard's dispatch. -/
structure State.SameRecords (s t : State) : Prop where
  phase : t.phase = s.phase
  straps : t.straps = s.straps
  cfg : t.cfg = s.cfg
  masts : t.masts = s.masts
  dusts : t.dusts = s.dusts
  probes : t.probes = s.probes
  clock : t.clock = s.clock
  ring : t.ring = s.ring
  machines : t.machines = s.machines
  machineCounts : t.machineCounts = s.machineCounts
  store : t.store = s.store
  saving : t.saving = s.saving
  storeFound : t.storeFound = s.storeFound
  pending : t.pending = s.pending

/-- What a step answers that has come to state `t` and there closes early the bursts of the cannons `cs`, in that order: what an
unsent OPEN frees is a capacity event, at which a close-waiting cannon may be admitted and a FIRE request granted or preempt. Every
other cannon is as it was, and so is all of a source but its committed total (R89, R90, R99, R100, R112). -/
abbrev ClosesEarly (o : Host.Outcome State Fault Refusal) (t : State) (cs : List CannonId) : Prop :=
  ((∀ g, t.Quiet g) ∨ (∀ c ∈ cs, (t.cannon c).state = .spraying ∨ t.openQueued c = false) →
    o = .next (transmitBoth (t.endedEarly cs))) ∧
  ∃ v, o = .next (transmitBoth v) ∧ t.SameRecords v ∧ v.zones = t.zones ∧ v.mode = t.mode ∧ v.notices = t.notices ∧
    v.requests = t.requests ∧ v.replies = t.replies ∧ v.controlPort = t.controlPort ∧ v.fieldPort = t.fieldPort ∧
    (∀ w, v.source w = { t.source w with committed := (v.source w).committed }) ∧
    (∀ g, v.station g =
      { t.station g with
        pointer := (v.station g).pointer, inUse := (v.station g).inUse, inUseFlow := (v.station g).inUseFlow
        waiting := (v.station g).waiting, preempt := (v.station g).preempt }) ∧
    (∀ c ∈ cs, (v.cannon c).flying (fun b => decide (b.cls ≠ .fire)) = false) ∧
    (t.WaitingHeld →
      (∀ c ∈ cs,
        ((t.cannon c).state = .spraying ∨ t.openQueued c = false →
          v.cannon c = (t.shut c false).cannon c ∧ v.hasCommand c) ∧
        ((t.cannon c).state = .opening → t.openQueued c → (t.cannon c).holds .fire = false →
          v.cannon c = (t.unsent c .idle).cannon c)) ∧
      ∀ c, c ∉ cs → v.cannon c = t.cannon c ∨
        (t.closeWaiting c ∧ v.cannon c =
          { t.cannon c with state := .closing, faultPending := decide ((t.cannon c).state = .fault) }) ∨
        ((t.cannon c).holds .fire ∧ (v.cannon c).state = .opening) ∨
        ((t.cannon c).flying (fun b => decide (b.cls ≠ .fire)) ∧ v.cannon c = (t.shut c false).cannon c))

/-- A capacity event of station `g` takes state `t` to state `u`: its close waiting list is walked, and then its FIRE requests are
arbitrated in the order of R94 where they may be (R90, R94, R99). -/
abbrev State.AfterCapacity (t u : State) (g : StationId) : Prop :=
  ∃ w, t.Walked w g (t.station g).waiting ∧
    let served := t.mode ≠ .off ∧ t.fieldPort.up ∧ (t.station g).pump = .running
    (served → ∀ cs, w.WalkOf g (fun c => w.Able g c ∧ (w.cannon c).holds .fire) cs →
      u = cs.foldl (fun v c => arbitrate g c v) w) ∧
    (¬ served → u = w)

/-- The capacity events of the stations `gs`, one after another, take state `t` to state `u`: each sees what the one before it
left (R90). -/
def State.AfterCapacities (t u : State) : List StationId → Prop
  | [] => u = t
  | g :: gs => ∃ v, t.AfterCapacity v g ∧ v.AfterCapacities u gs

/-- What a step answers that has come to state `t` and there takes a capacity event of station `g` (R90). -/
abbrev TakesCapacity (o : Host.Outcome State Fault Refusal) (t : State) (g : StationId) : Prop :=
  t.WaitingHeld → ∃ u, o = .next (transmitBoth u) ∧ t.AfterCapacity u g

/-- The state after `n` free choices (log entry 20). -/
def State.chosen (s : State) (n : Nat) : State :=
  { s with choices := s.choices.drop n, choiceCount := s.choiceCount + n }

/-- What a step answers that has come to state `t` and there closes early the bursts of the cannons `cs` of station `g`, in an
order that no rule gives: where the OPEN of one of them is removed unsent, that is a capacity event of the station (R90, R112; log
entry 10). -/
abbrev ClosesInAnyOrder (o : Host.Outcome State Fault Refusal) (t : State) (g : StationId) (cs : List CannonId) : Prop :=
  ∃ l : List CannonId, l.Perm cs ∧
    let u := (t.chosen (cs.length - 1)).endedEarly l
    let unsent := fun c => (t.cannon c).state = .opening ∧ t.openQueued c
    ((∀ c ∈ cs, ¬ unsent c) → o = .next (transmitBoth u)) ∧
    ((∃ c ∈ cs, unsent c) → TakesCapacity o u g)

/-- What a step answers that has come to state `t` and there derives the targets of the cannons `p` again: `t` with those
targets, where no burst loses its target; else each burst that does is closed early, its OPEN removed where it is unsent, and
what that frees is a capacity event, after which a FIRE request may hold a place (R69, R70, R71, R72, R90, R112). -/
abbrev DerivesAgain (o : Host.Outcome State Fault Refusal) (t : State) (p : CannonId → Bool) : Prop :=
  let u := t.rederived p
  ((∀ c, p c → ¬ t.Untargets c) → o = .next (transmitBoth u)) ∧
  ∃ v, o = .next (transmitBoth v) ∧ t.SameRecords v ∧ v.zones = t.zones ∧ v.mode = t.mode ∧ v.notices = t.notices ∧
    v.requests = t.requests ∧ v.replies = t.replies ∧ v.controlPort = t.controlPort ∧ v.fieldPort = t.fieldPort ∧
    (∀ c, (v.cannon c).target = (u.cannon c).target ∧ (v.cannon c).column = (u.cannon c).column ∧
      (v.cannon c).row = (u.cannon c).row ∧ ((u.cannon c).request = none → (v.cannon c).request = none)) ∧
    (t.WaitingHeld → ∀ c, p c → t.Untargets c →
      ((t.cannon c).state = .spraying ∨ t.openQueued c = false →
        v.cannon c = (u.shut c false).cannon c ∧ v.hasCommand c) ∧
      ((t.cannon c).state = .opening → t.openQueued c → (t.cannon c).holds .fire = false →
        v.cannon c = (u.unsent c .idle).cannon c))

end Sys2Proof.Machine
end

