-- ==== Sys2Proof/Certificates/Slice0/Obligations.lean ====
section
/-! DEFINITION. The statements for the provers. Where a statement gives the state a command leads to, that state is written
out, so that what it does not mention is unchanged; `transmitBoth` is the end of the step, when a port whose transmitter is
idle takes what the step made waiting (R158). What that may change is `Obligations.TransmissionTakesOnlyFromQueues`, and what
it takes `Obligations.EndOfSendingAlternatesSources` and `Obligations.SentCommandFrame`. The premise `Rested` is the law of
`Obligations.StepKeepsTransmittersBusy`. -/

open Sys2Proof Sys2Proof.Machine

/-! ## Steps and resets -/

/-- A step takes the command at the front of the queue; with none waiting the part idles (the model's choice, log entry 4). -/
def Obligations.StepRunsFrontCommand : Prop :=
  ∀ s : State,
    (∀ c rest, s.pending = c :: rest → step s = exec c { s with pending := rest }) ∧ (s.pending = [] → step s = .next s)

/-- Right after reset release every record, table, queue and setting holds the value its chapter gives (R187, R198). The strap
value 0 is the model's choice (log entry 5), and so are the BYPASS open seconds of 0 (log entry 22) and a cannon's station, its
default entry's (log entry 23). -/
def Obligations.ResetHoldsInitialValues : Prop :=
  State.reset.AtReset ∧ State.reset.cfg.AtDefaults 0 ∧ State.reset.phase = .loading ∧ State.reset.pending = []

/-- The state after reset meets every law that the other statements say each step keeps, since the reset values do (R23, R39,
R53, R65, R66, R73, R78, R85, R88, R89, R90, R104, R114, R122, R130, R138, R142, R143, R150, R158, R170, R179, R185, R188). -/
def Obligations.ResetMeetsEveryLaw : Prop :=
  State.reset.Rested ∧ State.reset.QueuesFit ∧ State.reset.NoticesDiffer ∧ State.reset.StoreHeld ∧
  State.reset.ClockFits ∧ State.reset.cfg.ok = true ∧ State.reset.BandsHeld ∧ State.reset.AimsFit ∧
  State.reset.OwedHeld ∧ State.reset.CountsHeld ∧ State.reset.CannonsAgree ∧ State.reset.WaitingHeld ∧
  State.reset.PlacesHeld ∧ State.reset.CommandsHeld ∧ State.reset.ClosesBetween ∧ State.reset.CommitmentsHeld ∧
  State.reset.ExclusionHeld ∧ State.reset.ModeHeld

/-- Power applied, and the reset pin released, give every record and table its initial value and keep the store; at the
release the own id becomes 224 plus the strap value and the load begins (R5, R169, R187, R198). That power may be applied in
every state is the model's choice (log entry 6), and so are the BYPASS open seconds of 0 (log entry 22) and a cannon's station
(log entry 23). -/
def Obligations.PowerOnAndReleaseSetInitialValues : Prop :=
  ∀ s : State,
    (∃ t, exec .powerOn s = .next t ∧ t.AtReset ∧ t.cfg.AtDefaults s.straps ∧ t.phase = .held ∧ t.store = s.store ∧
      t.pending = s.pending) ∧
    (∀ straps, s.phase = .held →
      ∃ t, exec (.resetRelease straps) s = .next t ∧ t.AtReset ∧ t.cfg.AtDefaults straps ∧ t.phase = .loading ∧
        t.straps = straps ∧ t.store = s.store ∧ t.pending = s.pending)

/-- The reset pin empties the forward buffers, the command queue and the queues of requests, replies and notices, the overflow
marker and lost count with them, and cuts off both sendings; power failure stops the part; either leaves the store invalid when
a SAVE was running (R169, R185). That the pin does nothing to an unpowered part, and that the other values stand until the
release, is the model's choice (log entry 6), and so is the cause CHECK of a store whose writing was cut off (log entry 12). -/
def Obligations.PinResetAndPowerFailCutOff : Prop :=
  ∀ s : State,
    (s.phase ≠ .unpowered →
      exec .pinResetAsserted s = .next
        { s with
          phase := .held, commands := [], requests := [], replies := [], saving := none, dueCapacity := []
          notices := { entries := [], marker := none, lost := 0 }
          controlPort := { s.controlPort with buffer := [], sending := none }
          fieldPort := { s.fieldPort with buffer := [], sending := none } }) ∧
    (s.phase = .unpowered → exec .pinResetAsserted s = .next s) ∧
    exec .powerFail s = .next
      { s with
        phase := .unpowered, saving := none, controlPort := { s.controlPort with sending := none }
        fieldPort := { s.fieldPort with sending := none } } ∧
    (s.StoreHeld → s.saving.isSome → s.store.fault = some .check)

/-- The end of the store load takes the stored content when the store is valid and keeps the defaults otherwise, with
STORE-INVALID and its cause, and starts the zones, cannons, stations and sources (R39, R42, R65, R66, R69, R85, R92, R122,
R187). The BYPASS open seconds of 0 are the model's choice (log entry 22), and so is a cannon's station, its entry's (log
entry 23). -/
def Obligations.StoreLoadEndStartsTheBlocks : Prop :=
  ∀ s : State, s.phase = .loading → s.Rested →
    ∃ u, exec .storeLoadEnd s = .next (transmitBoth u) ∧
      u = { s with
        phase := .running, cfg := u.cfg, storeFound := u.storeFound, notices := u.notices, zones := u.zones
        cannons := u.cannons, stations := u.stations, sources := u.sources } ∧
      (s.store.fault = none → u.cfg = s.store.content ∧ u.storeFound = true ∧ u.notices = s.notices) ∧
      (∀ cause, s.store.fault = some cause →
        u.cfg = s.cfg ∧ u.storeFound = false ∧ u.notices = s.notices.place (.storeInvalid cause) s.stamp) ∧
      (∀ z, u.zone z =
        { risk := 0, band := .calm, mest := (u.zoneEntry z).mref / 2, remainder := 0, blind := false,
          forecastOnly := false, uplift := false, sectorUsed := 0,
          timer := if (u.zoneEntry z).enabled then
              some { remaining := u.settings.evalPeriod, period := u.settings.evalPeriod }
            else none }) ∧
      (∀ c, u.cannon c =
        { state := (u.cannonEntry c).mode.resetState, station := (u.cannonEntry c).station, request := none, owed := 0,
          target := u.targetOf c, column := 0, row := 0, holdTimer := none, burst := none, burstTimer := none,
          ackTimer := none, faultPending := false, openMark := true, bypassSeconds := 0 }) ∧
      (∀ g, u.station g = { Station.initial with slotTimer := some (u.stationEntry g).slotLength }) ∧
      (∀ w, u.source w = { Source.initial false with quality := if u.qualityMapped w then .marginal else .ok })

/-- SAVE makes the store invalid and holds back its reply; its completion writes the content of the taking with its check,
makes the store valid, and replies DONE (R185). The format code is any byte, and the order of the checked bytes the model's
choice (log entry 12). -/
def Obligations.SaveInvalidatesThenStores : Prop :=
  ∀ s : State,
    (∀ source tag rest, s.Takes source [11, tag] rest → s.saving = none →
      exec .save s = .next
        { s with
          requests := rest, store := { s.store with whole := false }
          saving := some { source := source, tag := tag, content := s.cfg } }) ∧
    (∀ j, s.operating → s.Rested → s.saving = some j →
      exec .saveCompletion s = .next (transmitBoth
        { s with
          saving := none, storeFound := true
          store :=
            { whole := true, format := Config.formatCode, content := j.content,
              check := crc32 (Config.formatCode :: j.content.bytes) }
          replies := s.replies ++ [{ dest := j.source, code := 11, tag := j.tag, status := .done, body := [] }] }) ∧
      (j.content.ok = true → (Store.written j.content).fault = none))

/-! ## Frames -/

/-- A frame that fails a check is discarded and sets that one flag of its port; a flag that was clear raises PORT-ERROR,
but not in WATCH with watch-quiet, and one that was set changes nothing (R152, R154). -/
def Obligations.DamagedFrameSetsItsFlag : Prop :=
  ∀ (s : State) (p : Port) (f : Frame) (k : FlagKind), s.operating → s.Rested → FailsCheck f k →
    exec (.frameCompletion p f) s = .next
      (if (s.port p).flags.get k then s
      else
        let flagged := s.updPort p fun x => { x with flags := x.flags.set k }
        if s.mode = .watch ∧ s.settings.watchQuiet then flagged
        else transmitBoth
          { flagged with notices := s.notices.place (.portError p k ((s.port p).flags.set k)) s.stamp })

/-- A MANAGE frame to the own id at the control port joins the tail of the request queue, and is discarded when four requests
wait, with the OVERRUN flag set and PORT-ERROR raised where it was clear; any other frame to the own id is discarded (R153,
R154, R156, R160). The field link DOWN is `Obligations.FieldLinkLossMakesUnknown`'s. -/
def Obligations.ManageFrameJoinsRequestQueue : Prop :=
  ∀ (s : State) (f : Frame), s.operating → s.Rested → frameFault f = none → frameDest f = s.ownId →
    (frameKind f = 64 → s.requests.length < 4 →
      exec (.frameCompletion .control f) s = .next (transmitBoth
        { s.heard .control with
          requests := s.requests ++ [{ source := frameSource f, payload := framePayload f }] })) ∧
    (frameKind f = 64 → 4 ≤ s.requests.length →
      exec (.frameCompletion .control f) s = .next (transmitBoth ((s.heard .control).overran .control))) ∧
    (frameKind f ≠ 64 → exec (.frameCompletion .control f) s = .next (transmitBoth (s.heard .control))) ∧
    (s.fieldPort.up → exec (.frameCompletion .field f) s = .next (s.heard .field))

/-- A frame that nothing reads joins the other port's forward buffer unchanged: of a kind its port does not read; a COMMAND at the
control port to a node not mapped VALVE; a TIME, SAMPLE, STATUS or MACHINE frame whose source's role or payload does not agree.
So does a station's COMMAND to a BYPASS cannon; one to an OUT-OF-SERVICE cannon whose substitute is in BYPASS is forwarded to the substitute's node
with a new check; where the buffer is full the frame is discarded, with the OVERRUN flag set and PORT-ERROR raised where it was
clear (R6, R7, R153, R154, R155, R160, R165, R167, R168). -/
def Obligations.UnreadFrameIsForwarded : Prop :=
  ∀ (s : State) (f : Frame), s.operating → s.Rested →
    (s.Passes .control f → s.Unadmitted f →
      exec (.frameCompletion .control f) s = .next (transmitBoth ((s.heard .control).relayed .control f))) ∧
    (∀ c body, s.Commanded f c body → (s.cannonEntry c).mode = .bypass →
      exec (.frameCompletion .control f) s = .next (transmitBoth ((s.heard .control).relayed .control f))) ∧
    (∀ (c d : CannonId) (body : List Byte) (node : Byte), s.Commanded f c body →
      (s.cannonEntry c).mode = .outOfService → s.windowNumber c = some d.val → (s.cannonEntry d).mode = .bypass →
      s.nodeOf (.valve d) = some node →
      let rewritten := node :: (f.drop 1).take (f.length - 3)
      exec (.frameCompletion .control f) s = .next (transmitBoth
        ((s.heard .control).relayed .control (rewritten ++ be16 (crc16 rewritten).toNat)))) ∧
    (s.Passes .field f → s.fieldPort.up → s.Undelivered f →
      exec (.frameCompletion .field f) s = .next (transmitBoth ((s.heard .field).relayed .field f))) ∧
    (frameFault f = none → frameDest f ≠ s.ownId → 4 ≤ s.fieldPort.buffer.length →
      exec (.frameCompletion .control f) s = .next (transmitBoth ((s.heard .control).overran .control))) ∧
    (frameFault f = none → frameDest f ≠ s.ownId → 4 ≤ s.controlPort.buffer.length → s.fieldPort.up →
      exec (.frameCompletion .field f) s = .next (transmitBoth ((s.heard .field).overran .field)))

/-- A SAMPLE of several records does what its records do in frames of one record each, in payload order, each applied completely
to the state that the one before it left; this holds of every role, those of QualityRecordsJudgeParameters too. Of one record: a BAD record, a channel its role does not use and a direction outside 0–359 change nothing and the
frame is forwarded. A mast's speed seeds or advances its accumulator and gust and makes it FRESH; a direction settles the sector
at the third sample that agrees. A speed and a change of sector derive the targets of its cannons again: a new zone takes their
AUTO requests, a new pattern resets their aims, and a zone of none closes their bursts early. A dust monitor's concentration
seeds or advances its accumulator; a probe's moisture is held and becomes its zone's estimate (R8, R13, R14, R15, R18, R19, R69,
R70, R71, R72). -/
def Obligations.MastRecordIsApplied : Prop :=
  (∀ (s : State) (f : Frame) (role : NodeRole) (n : Nat) (recs : Nat → List Byte) (fs : Nat → Frame) (u : Nat → State),
    s.Hears f 16 role ((List.range n).flatMap recs) → 1 ≤ n → n ≤ 10 → (∀ i, i < n → (recs i).length = 6) →
    let sends := fun (t : State) (control field : Option Frame) =>
      { t with
        controlPort := { t.controlPort with sending := control }, fieldPort := { t.fieldPort with sending := field } }
    u 0 = sends s (some []) (some []) →
    (∀ i, i < n → (u i).Hears (fs i) 16 role (recs i) ∧
      exec (.frameCompletion .field (fs i)) (u i) = .next ((u (i + 1)).relayed .field (fs i))) →
    exec (.frameCompletion .field f) s =
      .next (transmitBoth (sends ((u n).relayed .field f) s.controlPort.sending s.fieldPort.sending))) ∧
  ∀ (s : State) (f : Frame) (role : NodeRole) (chan q a b c d : Byte), s.Hears f 16 role [chan, q, a, b, c, d] →
    let v := int32 a b c d
    let o := exec (.frameCompletion .field f) s
    (1 < q.toNat ∨ sampleUsed role chan.toNat v = false → o = .next (transmitBoth (s.passedOn f))) ∧
    (q.toNat ≤ 1 →
      (∀ n, role = .dust n → chan = 0 →
        o = .next (transmitBoth
          { s.passedOn f with
            dusts := updAt s.dusts n fun x =>
              { acc := if x.fresh then x.acc - x.acc / 4 + min 9999 v.toNat else 4 * min 9999 v.toNat
                fresh := true, timer := some s.settings.dustStale } })) ∧
      (∀ z, role = .moisture z → chan = 0 →
        o = .next (transmitBoth
          { s.passedOn f with
            probes := updAt s.probes z fun _ =>
              { value := min 300 v.toNat, fresh := true, timer := some s.settings.probeStale }
            zones := updAt s.zones z fun x => { x with mest := min 300 v.toNat } })) ∧
      (∀ m, role = .mast m →
        let x := s.mast m
        let holding := fun y : Mast => { s.passedOn f with masts := updAt s.masts m fun _ => y }
        let refers := fun c => decide ((s.cannonEntry c).refMast = m)
        (chan = 0 →
          let u := min 600 v.toNat
          DerivesAgain o (holding { x with
            acc := if x.fresh then x.acc - x.acc / 16 + u else 16 * u
            gust := if x.fresh then max u (x.gust - s.settings.gustDecay) else u
            fresh := true, timer := some s.settings.mastStale }) refers) ∧
        (chan = 1 → 0 ≤ v → v ≤ 359 → ∀ k : Sector, k.val = (2 * v.toNat + 22) / 45 % 16 →
          (k = x.sector → o = .next (transmitBoth (holding { x with pendingSector := none, count := 0 }))) ∧
          (k ≠ x.sector → x.pendingSector ≠ some k →
            o = .next (transmitBoth (holding { x with pendingSector := some k, count := 1 }))) ∧
          (k ≠ x.sector → x.pendingSector = some k → x.count + 1 < 3 →
            o = .next (transmitBoth (holding { x with count := x.count + 1 }))) ∧
          (k ≠ x.sector → x.pendingSector = some k → 3 ≤ x.count + 1 →
            DerivesAgain o (holding { x with sector := k, pendingSector := none, count := 0 }) refers))))

/-- A SAMPLE of a quality analyser with a turbidity and a conductivity record: each parameter is judged by the table of R125
against the source entry's limits, the stale flag is cleared and the timer restarted, and the source's quality is the worse of
the two; no other source changes, and each record that changes the quality raises SOURCE-QUALITY. A SAMPLE of a level sensor sets the source's estimate; below the floor of a metered source it
closes every burst drawing from it early, and raises SOURCE-LOW on the way down. Of several records more, in any order, MastRecordIsApplied speaks (R8, R112, R123, R124, R125, R126, R127). -/
def Obligations.QualityRecordsJudgeParameters : Prop :=
  (∀ (s : State) (f : Frame) (w : SourceId) (q a b c d q' a' b' c' d' : Byte),
    s.Hears f 16 (.quality w) [0, q, a, b, c, d, 1, q', a', b', c', d'] → q.toNat ≤ 1 → q'.toNat ≤ 1 →
    let judged := fun (g : Grade) (v lm lr : Nat) =>
      if g = .reject then (if v ≤ lr * 9 / 10 then Grade.marginal else .reject)
      else if lr < v then .reject
      else if lm < v then .marginal
      else if g = .marginal ∧ lm * 9 / 10 < v then .marginal
      else .ok
    let e := s.sourceEntry w
    let x := s.source w
    let turbidity := judged x.turbidity (min 10000 (int32 a b c d).toNat) e.turbMarginal e.turbReject
    let conductivity := judged x.conductivity (min 200000 (int32 a' b' c' d').toNat) e.condMarginal e.condReject
    let worse := fun a b : Grade =>
      if a = .reject ∨ b = .reject then Grade.reject else if a = .marginal ∨ b = .marginal then .marginal else .ok
    let told := fun (was now : Grade) (n : NoticeQueue) =>
      if now = was then n else n.place (.sourceQuality w now false e.kind) s.stamp
    let first := worse turbidity x.conductivity
    let second := worse turbidity conductivity
    ∃ t, exec (.frameCompletion .field f) s = .next t ∧
      t = transmitBoth { s.passedOn f with
        sources := updAt s.sources w fun x =>
          { x with
            turbidity := turbidity, conductivity := conductivity, stale := false, timer := some s.settings.qualityStale
            quality := second }
        notices := told first second (told x.quality first s.notices) } ∧
      t.sources = updAt s.sources w (fun x =>
        { x with
          turbidity := turbidity, conductivity := conductivity, stale := false, timer := some s.settings.qualityStale
          quality :=
            if turbidity = .reject ∨ conductivity = .reject then .reject
            else if turbidity = .marginal ∨ conductivity = .marginal then .marginal
            else .ok }) ∧
      t.masts = s.masts ∧ t.dusts = s.dusts ∧ t.probes = s.probes ∧ t.zones = s.zones ∧ t.stations = s.stations ∧
      t.cannons = s.cannons ∧ t.commands = s.commands ∧ t.machines = s.machines ∧ t.mode = s.mode ∧ t.cfg = s.cfg ∧
      t.clock = s.clock ∧ t.ring = s.ring ∧ t.requests = s.requests ∧ t.store = s.store ∧ t.pending = s.pending) ∧
  ∀ (s : State) (f : Frame) (w : SourceId) (q a b c d : Byte), s.Hears f 16 (.level w) [0, q, a, b, c, d] →
    q.toNat ≤ 1 →
    let e := s.sourceEntry w
    let level := 1000 * min 4000000 (int32 a b c d).toNat
    (e.metered = false ∨ e.floor ≤ level →
      exec (.frameCompletion .field f) s = .next (transmitBoth
        { s.passedOn f with sources := updAt s.sources w fun x => { x with estimate := some level } })) ∧
    (e.metered → level < e.floor → s.WaitingHeld →
      ∃ u, exec (.frameCompletion .field f) s = .next (transmitBoth u) ∧ (u.source w).estimate = some level ∧
        u.notices = (if ∀ v ∈ (s.source w).estimate, e.floor ≤ v then
            s.notices.place (.sourceLow w e.kind level) s.stamp
          else s.notices) ∧
        (∀ k b, (s.cannon k).burst = some b → b.source = w →
          ((s.cannon k).state = .spraying ∨ ((s.cannon k).state = .opening ∧ s.openQueued k = false) →
            u.cannon k = (s.shut k false).cannon k ∧ u.hasCommand k)) ∧
        (∀ k, (u.cannon k).flying (fun b => decide (b.source = w)) = false) ∧
        (∀ v, (u.source v).dayDraw = (s.source v).dayDraw ∧ (v ≠ w → (u.source v).estimate = (s.source v).estimate)) ∧
        s.SameRecords u ∧ u.zones = s.zones ∧ u.mode = s.mode ∧ u.requests = s.requests ∧ u.replies = s.replies)

/-- A TIME frame from a SUPERVISOR sets the yard clock, and a change of the day while SET clears every source's day draw;
the frame is forwarded (R25, R26, R134). -/
def Obligations.TimeFrameSetsClock : Prop :=
  ∀ (s : State) (f : Frame) (i : Fin 2) (a b c d e g : Byte), s.operating → s.Rested → s.Passes .control f →
    frameKind f = 32 → framePayload f = [a, b, c, d, e, g] → nat32 c d e g ≤ 86399 →
    s.roleOf (frameSource f) = .supervisor i →
    exec (.frameCompletion .control f) s = .next (transmitBoth
      { (s.heard .control).relayed .control f with
        clock := { s.clock with timeSet := true, day := nat16 a b, second := nat32 c d e g }
        sources := if s.clock.timeSet ∧ nat16 a b ≠ s.clock.day then
            s.sources.map fun w => { w with dayDraw := 0 }
          else s.sources })

/-- A MACHINE frame makes its record PRESENT with the frame's kind, activity and zone, moves one count from the zone it was counted
in to its new zone, and is forwarded; nothing else changes, but where it raises the count of a zone whose policy is no from 0 to 1:
every burst in flight that credits the zone and is not FIRE is then closed early, in ascending cannon number (R6, R7, R90, R112,
R139, R142, R143, R155). -/
def Obligations.MachineFrameSetsRecord : Prop :=
  ∀ (s : State) (f : Frame) (m : MachineId) (body : List Byte) (kind : MachineKind) (activity : Activity)
    (zone : Option ZoneId), s.Hears f 18 (.machine m) body → readMachine body = some (kind, activity, zone) →
    ∃ t, exec (.frameCompletion .field f) s = .next t ∧
      t.machine m =
        { presence := .present, kind := kind, activity := activity, zone := zone,
          timer := some s.settings.machineStale } ∧
      (∀ n, n ≠ m → t.machine n = s.machine n) ∧
      (∀ z, t.machineCount z =
        s.machineCount z - (if (s.machine m).countedIn z then 1 else 0) + (if zone = some z then 1 else 0)) ∧
      t.masts = s.masts ∧ t.dusts = s.dusts ∧ t.probes = s.probes ∧ t.clock = s.clock ∧ t.ring = s.ring ∧
      t.zones = s.zones ∧ t.mode = s.mode ∧ t.cfg = s.cfg ∧ t.requests = s.requests ∧ t.store = s.store ∧
      t.pending = s.pending ∧
      (let told := { s.passedOn f with
         machines := updAt s.machines m fun _ =>
           { presence := .present, kind := kind, activity := activity, zone := zone,
             timer := some s.settings.machineStale }
         machineCounts := Vector.ofFn fun z =>
           s.machineCount z - (if (s.machine m).countedIn z then 1 else 0) + (if zone = some z then 1 else 0) }
       let starts := fun z => zone = some z ∧ s.machineCount z = 0 ∧ (s.zoneEntry z).policy = false
       ((∀ z, ¬ starts z) → t = transmitBoth told) ∧
       ∀ z, starts z → ClosesEarly (.next t) told
         ((List.finRange 48).filter fun c =>
           (s.cannon c).flying fun b => decide (b.credited = some z ∧ b.cls ≠ .fire)))

/-- The valve's STATUS, by its cannon's state; the frame is forwarded. OPEN: OPENING starts SPRAYING, the burst timer and the
open seconds; UNKNOWN, IDLE and FAULT bring a close without a burst, the last two with UNCOMMANDED-OPEN; BYPASS-CLOSED opens.
CLOSED: SPRAYING (with UNEXPECTED-CLOSE), CLOSING and STUCK end the burst with its accounting; UNKNOWN becomes IDLE; the
cannon leaves the close waiting list; BYPASS-OPEN charges its draw. FAULT: the cannon is closed for it, or ends in FAULT, with
CANNON-FAULT unless one is pending. What ends a place is a capacity event: where it finds nothing to do the whole state is
given, and else the draws, credits and notices (R59, R89, R90, R108 to R114, R131, R133). That an OPEN of a cannon which already
waits for a close admits it by the tests of R89, past those ahead of it on the list, is the model's choice (log entry 17). -/
def Obligations.ValveOpenStartsSpraying : Prop :=
  ∀ (s : State) (f : Frame) (c : CannonId) (l3 l2 l1 l0 : Byte),
    let k := s.cannon c
    let litres := nat32 l3 l2 l1 l0
    let t := s.passedOn f
    let leads := fun u : State => exec (.frameCompletion .field f) s = .next (transmitBoth u)
    let frees := fun u : State =>
      (s.Quiet (s.stationOf c) → leads u) ∧
      ∃ v, leads v ∧ v.zones = u.zones ∧ v.notices = u.notices ∧ s.SameRecords v ∧
        ∀ w, (v.source w).dayDraw = (u.source w).dayDraw ∧ (v.source w).estimate = (u.source w).estimate
    let faulted := fun u : State => { u with notices := s.notices.place (.cannonFault c .valveFault) s.stamp }
    (s.Hears f 17 (.valve c) [1, l3, l2, l1, l0] →
      (∀ b, k.state = .opening → k.burst = some b →
        leads { t with
          cannons := updAt s.cannons c fun k =>
            { k with
              state := .spraying, ackTimer := none, burstTimer := some b.duration
              burst := some { b with counting := true, openSeconds := 0 } }
          commands := s.commands.filter fun q => ¬ (q.cannon = c ∧ q.verb = .openValve) }) ∧
      (k.state = .idle ∨ k.state = .fault →
        leads ({ t with notices := s.notices.place (.uncommandedOpen c) s.stamp }.closeArisen c)) ∧
      (k.state = .unknown → leads (t.closeArisen c)) ∧
      (k.state = .bypassClosed →
        leads { t with cannons := updAt s.cannons c fun k => { k with state := .bypassOpen, bypassSeconds := 0 } }) ∧
      (k.state ∈ [.spraying, .closing, .stuck, .bypassOpen, .retired] → leads t)) ∧
    (s.Hears f 17 (.valve c) [0, l3, l2, l1, l0] →
      (∀ b, k.state = .spraying → k.burst = some b →
        frees { t.ended c .idle litres with
          notices := s.notices.place (.unexpectedClose c (drawn (s.cannonEntry c).flow b.openSeconds litres)) s.stamp }) ∧
      (k.state = .closing → frees (t.ended c (if k.faultPending then .fault else .idle) litres)) ∧
      (k.state = .stuck → frees (t.ended c .fault litres)) ∧
      (k.state = .unknown →
        leads { t with
          cannons := updAt s.cannons c fun k => { k with state := .idle }
          stations := s.stations.map fun g => { g with waiting := g.waiting.filter (· ≠ c) }
          commands := if k.openMark ∧ s.hasCommand c = false then
              s.commands ++ [{ cannon := c, verb := .closeValve }]
            else s.commands }) ∧
      (k.state = .idle ∨ k.state = .fault →
        leads { t with stations := s.stations.map fun g => { g with waiting := g.waiting.filter (· ≠ c) } }) ∧
      (∀ w rest, k.state = .bypassOpen → (s.stationEntry (s.stationOf c)).prefs = w :: rest →
        frees { t with
          cannons := updAt s.cannons c fun k => { k with state := .bypassClosed }
          sources := updAt s.sources w fun x =>
            x.drew (s.sourceEntry w).metered (drawn (s.cannonEntry c).flow k.bypassSeconds litres) }) ∧
      (k.state ∈ [.opening, .bypassClosed, .retired] → leads t)) ∧
    (s.Hears f 17 (.valve c) [2, l3, l2, l1, l0] →
      (k.state = .opening → s.openQueued c → frees (faulted (t.unsent c .fault))) ∧
      (k.state = .opening → s.openQueued c = false → leads (faulted (t.shut c true))) ∧
      (k.state = .spraying → leads (faulted (t.shut c true))) ∧
      (k.state = .closing ∨ k.state = .stuck →
        frees (if k.faultPending then t.ended c .fault litres else faulted (t.ended c .fault litres))) ∧
      (k.state = .unknown ∨ k.state = .idle →
        leads (faulted { t with cannons := updAt s.cannons c fun k => { k with state := .fault } })) ∧
      (k.state ∈ [.fault, .bypassClosed, .bypassOpen, .retired] → leads t))

/-- A COMMAND that is refused is absorbed and raises COMMAND-REFUSED with the first reason that applies. For cannon `c` that it
names: a source that is not a SUPERVISOR; in OUT-OF-SERVICE no window that holds `c`, a substitute above 47 or itself
OUT-OF-SERVICE, or one that no VALVE entry holds. For the AUTOMATIC cannon `d` it is judged on: a payload that is not a
command; an OPEN in OFF, with the field link DOWN, or in FAULT or STUCK; a conversion that the burst's source does not fit
(R115, R128, R164, R166, R168, R193). Verb and fire flag of a short payload under NOT-PERMITTED are the model's choice (log
entry 15), and so is that NO-SUBSTITUTE for a substitute itself OUT-OF-SERVICE, and UNWIRED, report that substitute (log entry
15). -/
def Obligations.RefusedCommandRaisesNotice : Prop :=
  ∀ (s : State) (f : Frame) (c : CannonId) (body : List Byte),
    let refuses := fun (subject : CannonId) (reason : RefuseReason) (substitute : Option CannonId) =>
      exec (.frameCompletion .control f) s = .next (transmitBoth (s.refused subject reason body c substitute))
    (s.operating → s.Rested → s.Passes .control f → frameKind f = 48 → s.roleOf (frameDest f) = .valve c →
      framePayload f = body → s.isSupervisor (frameSource f) = false → refuses c .notPermitted none) ∧
    (s.Commanded f c body →
      ((s.cannonEntry c).mode = .outOfService →
        ((∀ d : CannonId, s.windowNumber c ≠ some d.val) → refuses c .noSubstitute none) ∧
        ∀ d : CannonId, s.windowNumber c = some d.val →
          ((s.cannonEntry d).mode = .outOfService → refuses c .noSubstitute (some d)) ∧
          ((s.cannonEntry d).mode ≠ .outOfService → s.wired d = false → refuses c .unwired (some d))) ∧
      ∀ d substitute, s.Judges c d substitute →
        (body.length ≠ 8 ∨ (body.head? ≠ some 1 ∧ body.head? ≠ some 2) → refuses d .malformed substitute) ∧
        ∀ d1 d0 pr fr a1 a0 el : Byte, body = [1, d1, d0, pr, fr, a1, a0, el] →
          (s.mode = .off → refuses d .wrongMode substitute) ∧
          (s.mode ≠ .off → s.fieldPort.up = false → refuses d .linkDown substitute) ∧
          (s.mode ≠ .off → s.fieldPort.up →
            ((s.cannon d).state = .fault ∨ (s.cannon d).state = .stuck → refuses d .cannonState substitute) ∧
            ∀ b, (s.cannon d).inFlight → (s.cannon d).burst = some b →
              ¬ SourcePasses (s.sourceEntry b.source) (s.source b.source) (if fr = 0 then .manual else .fire)
                (min 3 pr.toNat) ((s.cannonEntry d).flow * min 900 (max 5 (nat16 d1 d0)) / 60)
                ((s.source b.source).committed - b.planned) →
              refuses d .water substitute))

/-- A COMMAND accepted on the AUTOMATIC cannon `d` it is judged on is absorbed. An OPEN on a cannon not in flight is recorded, its
fields clamped, in place of the request held, with the owed count 0 and that request's preemption ended, and a FIRE one that is
a candidate is arbitrated at once. On a burst in flight it is a conversion, where the burst's source fits it; one to MANUAL in
HALT, WATCH or an excluded zone is closed. A CLOSE removes the request, starts or stops the hold timer, and closes the valve by
its state (R74, R75, R77, R90, R99, R101, R112, R115, R116, R144, R166, R168, R172, R193). That a CLOSE of an UNKNOWN cannon which
already waits for a close admits it by the tests of R89, past those ahead of it on the list, is the model's choice (log entry
17). -/
def Obligations.ManualOpenIsRecorded : Prop :=
  ∀ (s : State) (f : Frame) (c d : CannonId) (substitute : Option CannonId), s.Judges c d substitute →
    let k := s.cannon d
    let g := s.stationOf d
    let leads := fun u : State => exec (.frameCompletion .control f) s = .next (transmitBoth u)
    let dropsUnsent := fun u : State =>
      (s.Quiet g → leads (u.unsent d .idle)) ∧
      (s.WaitingHeld → ∃ v, leads v ∧ v.cannon d = (u.unsent d .idle).cannon d ∧ v.notices = s.notices)
    let holding := fun k : Cannon =>
      { s.heard .control with
        cannons := updAt s.cannons d fun _ => k
        stations := s.stations.map fun g => { g with preempt := g.preempt.filter fun p => p.1 ≠ d } }
    (∀ d1 d0 pr fr a1 a0 el : Byte, s.Commanded f c [1, d1, d0, pr, fr, a1, a0, el] → s.mode ≠ .off →
      s.fieldPort.up →
      let priority := min 3 pr.toNat
      let duration := min 900 (max 5 (nat16 d1 d0))
      (k.inFlight = false → k.state ≠ .fault → k.state ≠ .stuck →
        let asked := fun r : CannonRequest => holding { k with request := some r, owed := 0 }
        let fire := asked (.fire priority duration (min 359 (nat16 a1 a0)) (min 60 el.toNat))
        (fr = 0 → leads (asked (.manual priority duration (min 359 (nat16 a1 a0)) (min 60 el.toNat)))) ∧
        (fr ≠ 0 → s.Able g d → (s.station g).pump = .running → leads (arbitrate g d fire)) ∧
        (fr ≠ 0 → ¬ (s.Able g d ∧ (s.station g).pump = .running) → leads fire)) ∧
      (∀ b, k.inFlight → k.burst = some b →
        let cls := if fr = 0 then BurstClass.manual else .fire
        let planned := (s.cannonEntry d).flow * duration / 60
        SourcePasses (s.sourceEntry b.source) (s.source b.source) cls priority planned
          ((s.source b.source).committed - b.planned) →
        let u := { holding { k with
            request := none, owed := 0
            burst := some { b with cls := cls, priority := priority, duration := duration, planned := planned }
            burstTimer := if k.state = .spraying then some duration else k.burstTimer } with
          sources := updAt s.sources b.source fun w => { w with committed := w.committed - b.planned + planned } }
        let closes := fr = 0 ∧ (s.mode = .halt ∨ s.mode = .watch ∨
          ∃ z, b.credited = some z ∧ s.machineCount z ≠ 0 ∧ (s.zoneEntry z).policy = false)
        (¬ closes → leads u) ∧
        (closes → k.state = .spraying ∨ s.openQueued d = false → leads (u.shut d false)) ∧
        (closes → k.state = .opening → s.openQueued d → dropsUnsent u))) ∧
    (∀ rest : List Byte, rest.length = 7 → s.Commanded f c (2 :: rest) →
      let time := (s.cannonEntry d).holdTime
      let u := holding { k with request := none, owed := 0, holdTimer := if time = 0 then none else some time }
      (k.state ∈ [.idle, .closing, .stuck, .fault] → leads u) ∧
      (k.state = .unknown → leads (u.closeArisen d)) ∧
      (k.state = .spraying ∨ (k.state = .opening ∧ s.openQueued d = false) → leads (u.shut d false)) ∧
      (k.state = .opening → s.openQueued d → dropsUnsent u))

/-! ## Sending -/

/-- At the end of a sending the source that did not send the last frame is given the transmitter when both wait, the one
that waits when one does, and neither otherwise; the other port is untouched (R157, R158, R159). -/
def Obligations.EndOfSendingAlternatesSources : Prop :=
  ∀ (s : State) (p : Port), s.operating → s.Rested → (s.port p).sending.isSome →
    (p = .field → ∀ q ∈ s.commands, s.wired q.cannon) →
    ∃ t, exec (.endOfSending p) s = .next t ∧ t.port (otherPort p) = s.port (otherPort p) ∧
      (s.forwardWaits p → s.insertionWaits p →
        (t.port p).turn ≠ (s.port p).turn ∧ (t.port p).sending.isSome) ∧
      (s.forwardWaits p → (s.insertionWaits p = false ∨ (s.port p).turn = .insertion) →
        t = s.updPort p fun x =>
          { x with buffer := x.buffer.tail, sending := x.buffer.head?, turn := .forward }) ∧
      (s.forwardWaits p = false → s.insertionWaits p → (t.port p).turn = .insertion ∧ (t.port p).sending.isSome) ∧
      (s.forwardWaits p = false → s.insertionWaits p = false → t = s.updPort p fun x => { x with sending := none })

/-- The command at the head of the queue is sent as a COMMAND frame from the own id to the cannon's VALVE node: a CLOSE with
every field 0, which clears the open-sent mark and starts the acknowledgement timer in CLOSING; an OPEN with its burst's
duration, priority, fire flag and aim, which sets the marks, starts that timer, and advances the sweep aim of a burst granted
on an AUTO request (R79, R80, R105, R193). -/
def Obligations.SentCommandFrame : Prop :=
  ∀ (s : State) (c : CannonId) (v : Verb) (rest : List Command) (node : Byte), s.operating → s.Rested →
    s.fieldPort.sending.isSome → s.commands = { cannon := c, verb := v } :: rest → s.nodeOf (.valve c) = some node →
    (s.fieldPort.turn = .forward ∨ s.fieldPort.buffer = []) →
    (v = .closeValve →
      exec (.endOfSending .field) s = .next
        { s with
          commands := rest
          cannons := updAt s.cannons c fun k =>
            { k with
              openMark := false
              ackTimer := if k.state = .closing then some s.settings.ackTime else k.ackTimer }
          fieldPort :=
            { s.fieldPort with
              turn := .insertion
              sending := some (buildFrame node s.ownId 48 [2, 0, 0, 0, 0, 0, 0, 0]) } }) ∧
    (∀ b, v = .openValve → (s.cannon c).burst = some b →
      let f := s.patternOf c
      let k := s.cannon c
      let sweeps := b.grantClass = .auto
      let az := if sweeps then (f.azStart + k.column * f.azStep) % 360 else b.azimuth
      let el := if sweeps then min 60 (f.elStart + k.row * f.elStep) else b.elevation
      exec (.endOfSending .field) s = .next
        { s with
          commands := rest
          cannons := updAt s.cannons c fun k =>
            { k with
              openMark := true, ackTimer := some s.settings.ackTime, burst := some { b with openSent := true }
              column := if sweeps then (if k.column + 1 < f.cols then k.column + 1 else 0) else k.column
              row := if sweeps ∧ f.cols ≤ k.column + 1 then (if k.row + 1 < f.rows then k.row + 1 else 0) else k.row }
          fieldPort :=
            { s.fieldPort with
              turn := .insertion
              sending := some (buildFrame node s.ownId 48
                ([1] ++ be16 b.duration ++ [byte b.priority, if b.cls = .fire then 1 else 0] ++ be16 az ++
                 [byte el])) } })

/-- A notice updates in place the entry that has its kind and subject, else joins the tail, and where 32 entries wait is counted as
lost behind the overflow marker. Its stamp is the yard clock's while SET and else the uptime's. The control port sends a reply
before any notice, the OVERFLOW notice before the entries, and a notice with its kind, subject and value as R196 lays them out,
and its stamp (R28, R159, R181, R188, R189, R194, R196, R197). -/
def Obligations.RepliesAndNoticesAreSent : Prop :=
  (∀ s : State, s.stamp =
    if s.clock.timeSet then { day := s.clock.day, second := s.clock.second, timeSet := true }
    else { day := s.clock.upDay, second := s.clock.upSecond, timeSet := false }) ∧
  (∀ r : Report, [byte r.kind, byte r.subject] ++ r.value = r.laidOut) ∧
  (∀ (s : State) (r : Report), s.NoticesDiffer →
    (∀ (i : Nat) (e : NoticeEntry), s.notices.entries[i]? = some e → e.report.kind = r.kind →
      e.report.subject = r.subject →
      raise r s = { s with
        notices := { s.notices with entries := s.notices.entries.set i { report := r, stamp := s.stamp } } }) ∧
    ((∀ e ∈ s.notices.entries, e.report.kind = r.kind → e.report.subject ≠ r.subject) →
      (s.notices.entries.length < 32 →
        raise r s = { s with
          notices := { s.notices with entries := s.notices.entries ++ [{ report := r, stamp := s.stamp }] } }) ∧
      (32 ≤ s.notices.entries.length →
        raise r s = { s with
          notices := { s.notices with
            marker := some (s.notices.marker.getD s.stamp), lost := min 65535 (s.notices.lost + 1) } }))) ∧
  ∀ s : State, s.operating → s.Rested → s.controlPort.sending.isSome →
    (s.controlPort.turn = .forward ∨ s.controlPort.buffer = []) →
    let sent := fun (kind dest : Byte) (payload : List Byte) =>
      { s.controlPort with turn := .insertion, sending := some (buildFrame dest s.ownId kind payload) }
    (∀ r rest, s.replies = r :: rest →
      exec (.endOfSending .control) s = .next
        { s with
          replies := rest
          controlPort := sent 65 r.dest ([r.code, r.tag, byte r.status.code] ++ r.body) }) ∧
    (∀ dest, s.replies = [] → s.controlPort.up → s.noticeDest = some dest →
      (∀ k, s.notices.marker = some k →
        exec (.endOfSending .control) s = .next
          { s with
            notices := { s.notices with marker := none, lost := 0 }
            controlPort := sent 66 dest
              ([19, 0, 0, 0] ++ be16 s.notices.lost ++ be16 k.day ++ be32 k.second ++
               [if k.timeSet then 3 else 2]) }) ∧
      (∀ e rest, s.notices.marker = none → s.notices.entries = e :: rest →
        exec (.endOfSending .control) s = .next
          { s with
            notices := { s.notices with entries := rest }
            controlPort := sent 66 dest
              (e.report.laidOut ++ be16 e.stamp.day ++ be32 e.stamp.second ++ [if e.stamp.timeSet then 1 else 0]) }))

/-- The end of a step takes from the heads of the queues: one frame of a buffer at most, the unmapped commands at the head and one
more, and one reply, one notice or the overflow marker, and of a port whose transmitter is busy nothing. It changes nothing
else but the turns and frames being sent, and the marks, aim and timer of the one cannon whose command is sent (R79, R105, R157,
R158, R159, R189). -/
def Obligations.TransmissionTakesOnlyFromQueues : Prop :=
  ∀ s : State,
    let t := transmitBoth s
    let mapped := s.commands.dropWhile fun q => !s.wired q.cannon
    s.SameRecords t ∧ t.zones = s.zones ∧ t.stations = s.stations ∧ t.sources = s.sources ∧ t.mode = s.mode ∧
    t.lastChange = s.lastChange ∧ t.requests = s.requests ∧ t.dueCapacity = s.dueCapacity ∧
    (∀ c, (∀ q ∈ mapped.head?, q.cannon ≠ c) → t.cannon c = s.cannon c) ∧
    (∀ c, s.hasCommand c = false → t.cannon c = s.cannon c) ∧
    (∀ c, (s.cannon c).SameButSending (t.cannon c)) ∧
    (t.commands = s.commands ∧ t.cannons = s.cannons ∨
      t.commands = mapped.tail ∧ (mapped ≠ [] → t.fieldPort.buffer = s.fieldPort.buffer)) ∧
    (t.replies = s.replies ∧ t.notices = s.notices ∨
      t.controlPort.buffer = s.controlPort.buffer ∧
      ((t.replies = s.replies.tail ∧ t.notices = s.notices) ∨
       (t.replies = s.replies ∧ t.notices = { s.notices with marker := none, lost := 0 }) ∨
       (t.replies = s.replies ∧ t.notices = { s.notices with entries := s.notices.entries.tail }))) ∧
    (s.fieldPort.sending.isSome → t.commands = s.commands ∧ t.cannons = s.cannons) ∧
    (s.controlPort.sending.isSome → t.replies = s.replies ∧ t.notices = s.notices) ∧
    (∀ p, (t.port p).flags = (s.port p).flags ∧ (t.port p).up = (s.port p).up ∧
      (t.port p).liveness = (s.port p).liveness ∧
      ((t.port p).buffer = (s.port p).buffer ∨
        ((t.port p).buffer = (s.port p).buffer.tail ∧ (t.port p).sending = (s.port p).buffer.head?)) ∧
      ((s.port p).sending.isSome → t.port p = s.port p))

/-! ## Time and timers -/

/-- One second: the uptime count and, while SET, the yard clock advance with their midnight wraps; every running timer has a
second less to run; open seconds count, saturating; the yard clock's wrap clears the day draws (R24, R26, R103, R111). That
timers are held as whole seconds is the model's choice (log entry 2), and so is the saturation of the BYPASS open seconds at
65,535 (log entry 22). -/
def Obligations.SecondEventAdvancesTime : Prop :=
  ∀ s : State, s.operating → s.Rested →
    ∃ t, exec .secondEvent s = .next t ∧
      (t.clock.upDay, t.clock.upSecond) =
        (if s.clock.upSecond + 1 < 86400 then (s.clock.upDay, s.clock.upSecond + 1)
         else ((s.clock.upDay + 1) % 65536, 0)) ∧
      t.clock.timeSet = s.clock.timeSet ∧
      (t.clock.day, t.clock.second) =
        (if s.clock.timeSet = false then (s.clock.day, s.clock.second)
         else if s.clock.second + 1 < 86400 then (s.clock.day, s.clock.second + 1)
         else ((s.clock.day + 1) % 65536, 0)) ∧
      (∀ m, t.mast m = { s.mast m with timer := (s.mast m).timer.map (· - 1) }) ∧
      (∀ d, t.dust d = { s.dust d with timer := (s.dust d).timer.map (· - 1) }) ∧
      (∀ z, t.probe z = { s.probe z with timer := (s.probe z).timer.map (· - 1) }) ∧
      (∀ z, t.zone z =
        { s.zone z with timer := (s.zone z).timer.map fun x => { x with remaining := x.remaining - 1 } }) ∧
      (∀ c, t.cannon c =
        { s.cannon c with
          holdTimer := (s.cannon c).holdTimer.map (· - 1), burstTimer := (s.cannon c).burstTimer.map (· - 1)
          ackTimer := (s.cannon c).ackTimer.map (· - 1)
          burst := (s.cannon c).burst.map fun b =>
            if b.counting then { b with openSeconds := min 65535 (b.openSeconds + 1) } else b
          bypassSeconds := if (s.cannon c).state = .bypassOpen then min 65535 ((s.cannon c).bypassSeconds + 1)
            else (s.cannon c).bypassSeconds }) ∧
      (∀ g, t.station g =
        { s.station g with
          slotTimer := (s.station g).slotTimer.map (· - 1), pumpTimer := (s.station g).pumpTimer.map (· - 1) }) ∧
      (∀ w, t.source w =
        { s.source w with
          timer := (s.source w).timer.map (· - 1)
          dayDraw := if s.clock.timeSet ∧ 86400 ≤ s.clock.second + 1 then 0 else (s.source w).dayDraw }) ∧
      (∀ m, t.machine m = { s.machine m with timer := (s.machine m).timer.map (· - 1) }) ∧
      (∀ p, t.port p = { s.port p with liveness := (s.port p).liveness.map (· - 1) }) ∧
      t = { s with
        clock := t.clock, masts := t.masts, dusts := t.dusts, probes := t.probes, zones := t.zones
        cannons := t.cannons, stations := t.stations, sources := t.sources, machines := t.machines
        controlPort := t.controlPort, fieldPort := t.fieldPort }

/-- Staleness that is reported: a mast goes STALE with MAST-STALE and its held mean, a machine record goes STALE with
MACHINE-STALE and its held fields, and a source's quality is derived again from its stale flag, with SOURCE-QUALITY when it
changes (R16, R126, R127, R140). -/
def Obligations.StaleRecordsRaiseNotices : Prop :=
  ∀ s : State, s.operating → s.Rested →
    (∀ m, (s.mast m).timer.isSome →
      exec (.mastStalenessExpiry m) s = .next (transmitBoth
        { s with
          masts := updAt s.masts m fun x => { x with fresh := false, timer := none }
          notices := s.notices.place (.mastStale m ((s.mast m).acc / 16)) s.stamp })) ∧
    (∀ m, (s.machine m).timer.isSome →
      exec (.machineStalenessExpiry m) s = .next (transmitBoth
        { s with
          machines := updAt s.machines m fun x => { x with presence := .stale, timer := none }
          notices := s.notices.place
            (.machineStale m (s.machine m).zone (s.machine m).kind (s.machine m).activity) s.stamp })) ∧
    (∀ w, (s.source w).timer.isSome →
      let worse := (s.source w).turbidity.worse (s.source w).conductivity
      let q := if s.mapped (.quality w) = false then .ok else if worse = .ok then .marginal else worse
      exec (.qualityStalenessExpiry w) s = .next (transmitBoth
        { s with
          sources := updAt s.sources w fun x => { x with stale := true, timer := none, quality := q }
          notices := if q = (s.source w).quality then s.notices
            else s.notices.place (.sourceQuality w q true (s.sourceEntry w).kind) s.stamp }))

/-- Expiries that change one record and report nothing: a dust monitor and a probe go STALE, a hold timer stops, the control
link goes DOWN, and in WATCH the timer of a zone without the watch flag restarts and its evaluation is skipped (R18, R19,
R42, R77, R160). -/
def Obligations.QuietExpiriesChangeOneRecord : Prop :=
  ∀ s : State, s.operating → s.Rested →
    (∀ d, (s.dust d).timer.isSome →
      exec (.dustStalenessExpiry d) s = .next
        { s with dusts := updAt s.dusts d fun x => { x with fresh := false, timer := none } }) ∧
    (∀ z, (s.probe z).timer.isSome →
      exec (.probeStalenessExpiry z) s = .next
        { s with probes := updAt s.probes z fun x => { x with fresh := false, timer := none } }) ∧
    (∀ c, (s.cannon c).holdTimer.isSome →
      exec (.holdTimerExpiry c) s = .next { s with cannons := updAt s.cannons c fun x => { x with holdTimer := none } }) ∧
    (s.controlPort.liveness.isSome →
      exec (.livenessTimerExpiry .control) s = .next
        { s with controlPort := { s.controlPort with up := false, liveness := none } }) ∧
    (∀ z, (s.zone z).timer.isSome → s.mode = .watch → (s.zoneEntry z).watch = false →
      exec (.evaluationTimerExpiry z) s = .next
        { s with
          zones := updAt s.zones z fun x =>
            { x with timer := some { remaining := s.settings.evalPeriod, period := s.settings.evalPeriod } } })

/-- An evaluation: the timer restarts and the estimate dries by the period just run. Its wind is the primary mast's where FRESH,
else a FRESH fallback mast's, else the current slot's, with FORECAST-ONLY. With a wind BLIND is cleared, with ZONE-BLIND where it
was set; the risk is the sum of its terms and the band follows it, with BAND-CHANGE for a change and, in WATCH, a wake for ACT
and SEVERE; then the zone's priority is posted to the cannons aimed at it, or its requests are withdrawn, or in OFF neither.
Without one the zone is BLIND, with ZONE-BLIND where it was not, and all else is held (R27, R30, R31, R35, R42 to R52, R54 to
R58, R146, R173). That a fall from SEVERE to ACT wakes is the model's choice (log entry 33), and so is that the notices of a
wake are raised in any order (log entry 9). -/
def Obligations.EvaluationStoresRiskAndBand : Prop :=
  ∀ (s : State) (z : ZoneId) (et : EvalTimer), s.operating → s.Rested → s.ClockFits →
    (s.zone z).timer = some et → (s.mode = .watch → (s.zoneEntry z).watch = true) →
    let e := s.zoneEntry z
    let x := s.zone z
    let restarted : EvalTimer := { remaining := s.settings.evalPeriod, period := s.settings.evalPeriod }
    let lead := s.slotAhead s.settings.lead
    let rate := match s.slotAhead 0 with
      | some i => (s.slotAt i).evap
      | none => s.settings.defaultEvap
    let n := rate * et.period + x.remainder
    let dried := x.mest - n / 3600
    (s.NoWind z →
      exec (.evaluationTimerExpiry z) s = .next (transmitBoth
        { s with
          zones := updAt s.zones z fun x =>
            { x with
              mest := dried, remainder := n % 3600, blind := true, forecastOnly := false, timer := some restarted }
          notices := if x.blind then s.notices else s.notices.place (.zoneBlind z true) s.stamp })) ∧
    ∀ (mean gust : Nat) (sector : Sector) (forecast : Bool), s.WindIs z mean gust sector forecast →
      let moisture := if (s.probe z).fresh then (s.probe z).value else dried
      let we := (3 * mean + gust + 2) / 4
      let wp := match lead with
        | some i => max we ((we + (3 * (s.slotAt i).mean + (s.slotAt i).gust + 2) / 4) / 2)
        | none => we
      let q := min 1000 ((wp - e.threshold) * wp / 64)
      let sf := q * (256 * (e.mref - moisture) / e.mref) / 256
      let r2 := sf + s.dustBonus e
      let rw := if e.sensitive.getLsbD sector.val then r2 * 3 / 2 else r2
      let working := ∃ i, (s.machine i).presence ≠ .absent ∧ (s.machine i).zone = some z ∧
        ((s.machine i).activity = .stacking ∨ (s.machine i).activity = .reclaiming)
      let risk := min 1000 (rw + if working then 100 else 0)
      let deferral := ∃ i ∈ lead, s.settings.rainThreshold ≠ 0 ∧ s.settings.rainThreshold ≤ (s.slotAt i).rain
      ∃ (u : State) (band : Band), exec (.evaluationTimerExpiry z) s = .next (transmitBoth u) ∧
        (s.profileOf z).BandAfter risk x.band band ∧
        u.zone z =
          { risk := risk, band := band, mest := dried, remainder := n % 3600, blind := false, forecastOnly := forecast,
            uplift := decide (we < wp), sectorUsed := sector, timer := some restarted } ∧
        (∀ y, y ≠ z → u.zone y = s.zone y) ∧
        (let wakes := s.mode = .watch ∧ band ≠ x.band ∧ (band = .act ∨ band = .severe)
         let seen := if x.blind then s.notices.place (.zoneBlind z false) s.stamp else s.notices
         (wakes → u.mode = .run ∧ u.lastChange = some { previous := .watch, cause := .wake } ∧
           ∃ l : List Report, l.Perm [.bandChange z band risk, .wake z band, .dispatchMode .run .watch .wake] ∧
             u.notices = l.foldl (fun k r => k.place r s.stamp) seen) ∧
         (¬ wakes → u.mode = s.mode ∧ u.lastChange = s.lastChange ∧
           u.notices = if band = x.band then seen else seen.place (.bandChange z band risk) s.stamp)) ∧
        (let priority := match band with
          | .severe => some 3
          | .act => if deferral then none else some 2
          | .watch => if we < wp ∧ ¬ deferral then some 1 else none
          | .calm => none
         ∀ c, u.cannon c =
          match s.mode, priority, (s.cannon c).request with
          | .off, _, _ => s.cannon c
          | _, some p, none =>
            if (s.cannonEntry c).mode = .automatic ∧ (s.cannon c).target.zone = some z ∧
                (s.cannon c).holdTimer = none then
              { s.cannon c with request := some (.auto p z), owed := 0 }
            else s.cannon c
          | _, some p, some (.auto _ _) =>
            if (s.cannonEntry c).mode = .automatic ∧ (s.cannon c).target.zone = some z ∧
                (s.cannon c).holdTimer = none then
              { s.cannon c with request := some (.auto p z) }
            else s.cannon c
          | _, none, some (.auto _ y) => if y = z then { s.cannon c with request := none, owed := 0 } else s.cannon c
          | _, _, _ => s.cannon c) ∧
        s.SameRecords u ∧ u.stations = s.stations ∧ u.sources = s.sources ∧ u.commands = s.commands ∧
        u.requests = s.requests ∧ u.replies = s.replies ∧ u.controlPort = s.controlPort ∧ u.fieldPort = s.fieldPort

/-- At the expiry of a pump staleness timer the pump state becomes UNKNOWN, the pressure stays, an available station raises
STATION-DOWN, and every cannon of the station in OPENING is closed early: CLOSING with its CLOSE queued where its OPEN is sent, else
IDLE with the OPEN removed, the commitment released and a capacity event. A burst in SPRAYING goes on, no other cannon changes but a
close-waiting one that the capacity event admits, and of the sources only those commitments fall. A pump's STATUS sets its state and
pressure and restarts the timer: RUNNING makes an unavailable station available, with STATION-DOWN and a capacity event, and else does
nothing more; STOPPED and TRIPPED close every burst of the station early and make an available one unavailable, with STATION-DOWN; a
state of no code is not delivered (R7, R86, R87, R89, R90, R94, R99, R101, R112). That the closes have any order is the model's
choice (log entry 10), and so is that the capacity event comes after all of them (log entry 8). -/
def Obligations.StalePumpMakesUnavailable : Prop :=
  (∀ (s : State) (g : StationId), s.operating → s.Rested → (s.station g).pumpTimer.isSome →
    let up := (s.station g).pump = .running
    let told := { s with
      stations := updAt s.stations g fun x => { x with pump := .unknown, pumpTimer := none }
      notices := if up then s.notices.place (.stationDown g .unknown) s.stamp else s.notices }
    let opening := (List.finRange 48).filter fun c => s.stationOf c = g ∧ (s.cannon c).state = .opening
    let unsent := opening.filter fun c => s.openQueued c
    let released := fun w => (unsent.map fun c =>
      (s.cannon c).burst.elim 0 fun b => if b.source = w then b.planned else 0).sum
    ClosesInAnyOrder (exec (.pumpStalenessExpiry g) s) told g opening ∧
    ∃ u, exec (.pumpStalenessExpiry g) s = .next (transmitBoth u) ∧
      (u.station g).pump = .unknown ∧ (u.station g).pumpTimer = none ∧
      (u.station g).pressure = (s.station g).pressure ∧ (u.station g).slot = (s.station g).slot ∧
      (u.station g).slotTimer = (s.station g).slotTimer ∧ (u.station g).pointer = (s.station g).pointer ∧
      (∀ c, s.stationOf c = g → (u.cannon c).state ≠ .opening) ∧
      (s.WaitingHeld →
        (∀ c ∈ opening, s.openQueued c = false → u.cannon c = (s.shut c false).cannon c ∧ u.hasCommand c) ∧
        (∀ c ∈ unsent, u.cannon c = (s.unsent c .idle).cannon c) ∧
        (∀ c, s.stationOf c = g → (s.cannon c).state = .spraying → u.cannon c = s.cannon c) ∧
        (∀ c, s.stationOf c ≠ g → u.cannon c = s.cannon c) ∧
        (∀ c, c ∉ opening → u.cannon c = s.cannon c ∨
          (unsent ≠ [] ∧ c ∈ (s.station g).waiting ∧ u.cannon c =
            { s.cannon c with state := .closing, faultPending := decide ((s.cannon c).state = .fault) })) ∧
        ∀ h, h ≠ g → u.station h =
          { s.station h with preempt := (s.station h).preempt.filter fun p => p.2 ∉ unsent }) ∧
      (∀ w, u.source w = { s.source w with committed := (s.source w).committed - released w }) ∧
      u.notices = told.notices ∧
      u.zones = s.zones ∧ u.mode = s.mode ∧ s.SameRecords u ∧ u.requests = s.requests ∧ u.replies = s.replies ∧
      u.controlPort = s.controlPort ∧ u.fieldPort = s.fieldPort) ∧
  ∀ (s : State) (f : Frame) (g : StationId) (code p1 p0 : Byte), s.Hears f 17 (.pump g) [code, p1, p0] →
    let o := exec (.frameCompletion .field f) s
    let leads := fun u : State => o = .next (transmitBoth u)
    let up := (s.station g).pump = .running
    let told := fun pump : PumpState =>
      { s.passedOn f with
        stations := updAt s.stations g fun x =>
          { x with pump := pump, pressure := nat16 p1 p0, pumpTimer := some s.settings.pumpStale }
        notices := if up ↔ pump = .running then s.notices else s.notices.place (.stationDown g pump) s.stamp }
    let keeps := fun (pump : PumpState) (u : State) =>
      (u.station g).pump = pump ∧ (u.station g).pressure = nat16 p1 p0 ∧
      (u.station g).pumpTimer = some s.settings.pumpStale ∧ (u.station g).slot = (s.station g).slot ∧
      u.notices = (told pump).notices ∧ u.zones = s.zones ∧ u.mode = s.mode ∧ s.SameRecords u ∧
      u.requests = s.requests ∧ u.replies = s.replies
    (code = 1 →
      (up ∨ s.Quiet g → leads (told .running)) ∧ (¬ up → TakesCapacity o (told .running) g) ∧
      ∃ u, leads u ∧ keeps .running u) ∧
    (code = 0 ∨ code = 2 →
      let pump := if code = 0 then PumpState.stopped else .tripped
      ClosesInAnyOrder o (told pump) g
        ((List.finRange 48).filter fun c => s.stationOf c = g ∧ (s.cannon c).inFlight) ∧
      ∃ u, leads u ∧ keeps pump u ∧
        (∀ c, s.stationOf c = g → (u.cannon c).inFlight = false) ∧
        (s.WaitingHeld →
          (∀ c, s.stationOf c ≠ g → u.cannon c = s.cannon c) ∧
          ∀ c, s.stationOf c = g →
            ((s.cannon c).state = .spraying ∨ ((s.cannon c).state = .opening ∧ s.openQueued c = false) →
              u.cannon c = (s.shut c false).cannon c ∧ u.hasCommand c) ∧
            ((s.cannon c).state = .opening → s.openQueued c → u.cannon c = (s.unsent c .idle).cannon c))) ∧
    (2 < code.toNat → leads (s.passedOn f))

/-- At a slot start the slot advances, 19 to 0, and the timer restarts with the slot length, and the station takes over the
cannons written to it that hold no place. The close waiting list is walked in its order. Then in RUN with the field link UP and
the station available its candidates are arbitrated in the order of R94; with the link DOWN or the station unavailable each
candidate's AUTO request is owed one burst more, up to 2; in WATCH and HALT its FIRE requests alone are arbitrated, in the same
order; in OFF nothing more happens. The walk and what follows it are one operation, over any list and in every mode (R64, R88, R89, R92, R93, R94, R95, R98, R99). That a cannon which holds a place stays, and
that a close-waiting one moves at that slot start and in what order, is the model's choice (log entry 23). -/
def Obligations.SlotStartAdvancesSlot : Prop :=
  ∀ (s : State) (g : StationId), s.operating → s.Rested → (s.station g).slotTimer.isSome →
    let k := ((s.station g).slot.val + 1) % 20
    let joins := fun c => (s.cannonEntry c).station = g ∧ (s.cannon c).state.holdsPlace = false
    let begun := { s with
      stations := updAt s.stations g fun x =>
        { x with slot := ⟨k, Nat.mod_lt _ (by decide)⟩, slotTimer := some (s.stationEntry g).slotLength }
      cannons := Vector.ofFn fun c => if joins c then { s.cannon c with station := g } else s.cannon c }
    let queue := (s.station g).waiting ++
      (List.finRange 48).filter fun c => joins c ∧ s.stationOf c ≠ g ∧ s.closeWaiting c
    let served := s.fieldPort.up ∧ (s.station g).pump = .running
    (∃ t, exec (.slotStart g) s = .next t ∧ (t.station g).slot.val = k ∧
      (t.station g).slotTimer = some (s.stationEntry g).slotLength ∧
      (∀ h, h ≠ g → (t.station h).slot = (s.station h).slot ∧ (t.station h).slotTimer = (s.station h).slotTimer) ∧
      (∀ c, t.stationOf c = begun.stationOf c) ∧
      t.zones = s.zones ∧ t.mode = s.mode ∧ s.SameRecords t ∧ t.requests = s.requests) ∧
    (s.mode = .off → s.WaitingHeld →
      ∃ u, exec (.slotStart g) s = .next (transmitBoth u) ∧ begun.AdmitsInOrder u queue ∧
        (u.station g).waiting = queue.filter (fun c => (u.cannon c).state ≠ .closing) ∧
        (∀ h, h ≠ g → (u.station h).waiting = (s.station h).waiting.filter fun c => begun.stationOf c = h) ∧
        (∀ c, c ∉ queue → u.cannon c = begun.cannon c) ∧
        (∀ c, c ∈ queue → u.cannon c = begun.cannon c ∨
          (u.hasCommand c ∧ u.cannon c = { begun.cannon c with
            state := .closing, faultPending := decide ((s.cannon c).state = .fault) }))) ∧
    (s.WaitingHeld →
      let moved := { begun with
        stations := Vector.ofFn fun h =>
          { begun.station h with
            waiting := if h = g then queue else (s.station h).waiting.filter fun c => begun.stationOf c = h } }
      ∃ w, moved.Walked w g queue ∧
        (s.mode = .off → exec (.slotStart g) s = .next (transmitBoth w)) ∧
        (s.mode = .run → served → ∀ cs, w.WalkOf g (w.Candidate g k) cs →
          exec (.slotStart g) s = .next (transmitBoth (cs.foldl (fun t c => arbitrate g c t) w))) ∧
        (s.mode = .run → ¬ served →
          ∃ t, exec (.slotStart g) s = .next (transmitBoth t) ∧ t = { w with cannons := t.cannons } ∧
            ∀ c, (w.Candidate g k c ∧ (w.cannon c).holds .auto →
                t.cannon c = { w.cannon c with owed := min 2 ((w.cannon c).owed + 1) }) ∧
              (¬ (w.Candidate g k c ∧ (w.cannon c).holds .auto) → t.cannon c = w.cannon c)) ∧
        (s.mode = .watch ∨ s.mode = .halt →
          (served → ∀ cs, w.WalkOf g (fun c => w.Able g c ∧ (w.cannon c).holds .fire) cs →
            exec (.slotStart g) s = .next (transmitBoth (cs.foldl (fun t c => arbitrate g c t) w))) ∧
          (¬ served → exec (.slotStart g) s = .next (transmitBoth w)))) ∧
    ((s.station g).waiting = [] → (∀ c, joins c → s.closeWaiting c = false) →
      (s.mode = .off → exec (.slotStart g) s = .next begun) ∧
      (s.mode = .run → served → ∀ cs, begun.WalkOf g (begun.Candidate g k) cs →
        exec (.slotStart g) s = .next (transmitBoth (cs.foldl (fun t c => arbitrate g c t) begun))) ∧
      (s.mode = .run → ¬ served →
        ∃ t, exec (.slotStart g) s = .next t ∧ t = { begun with cannons := t.cannons } ∧
          ∀ c, (begun.Candidate g k c ∧ (s.cannon c).holds .auto →
              t.cannon c = { begun.cannon c with owed := min 2 ((s.cannon c).owed + 1) }) ∧
            (¬ (begun.Candidate g k c ∧ (s.cannon c).holds .auto) → t.cannon c = begun.cannon c)) ∧
      (s.mode = .watch ∨ s.mode = .halt →
        (served → ∀ cs, begun.WalkOf g (fun c => begun.Able g c ∧ (s.cannon c).holds .fire) cs →
          exec (.slotStart g) s = .next (transmitBoth (cs.foldl (fun t c => arbitrate g c t) begun))) ∧
        (¬ served → exec (.slotStart g) s = .next begun)))

/-- The timers of a cannon's valve. An unanswered OPEN: CLOSING with the fault-pending mark, its CLOSE queued, CANNON-FAULT. An
unanswered CLOSE: STUCK, CANNON-STUCK, the retry timer started, and where a FIRE preemption closed the cannon its pair is removed
and the FIRE request arbitrated again at once, if it may be. In STUCK: a CLOSE queued unless one is, and the retry timer
restarted. The end of the burst timer in SPRAYING: CLOSING and its CLOSE queued (R99, R101, R104, R106, R107). -/
def Obligations.ValveTimersExpireByState : Prop :=
  ∀ (s : State) (c : CannonId), s.operating → s.Rested →
    ((s.cannon c).ackTimer.isSome → (s.cannon c).state = .opening → s.hasCommand c = false →
      exec (.acknowledgementTimerExpiry c) s = .next (transmitBoth
        { s with
          cannons := updAt s.cannons c fun k =>
            { k with state := .closing, burstTimer := none, ackTimer := none, faultPending := true }
          commands := s.commands ++ [{ cannon := c, verb := .closeValve }]
          notices := s.notices.place (.cannonFault c .noOpenAck) s.stamp })) ∧
    ((s.cannon c).ackTimer.isSome → (s.cannon c).state = .closing → s.preemptors c = [] →
      exec (.acknowledgementTimerExpiry c) s = .next (transmitBoth
        { s with
          cannons := updAt s.cannons c fun k =>
            { k with state := .stuck, faultPending := false, ackTimer := some s.settings.stuckRetry }
          notices := s.notices.place (.cannonStuck c) s.stamp })) ∧
    ((s.cannon c).ackTimer.isSome → (s.cannon c).state = .closing →
      let fires := (List.finRange 4).flatMap fun g => ((s.station g).preempt.filter fun p => p.2 = c).map (·.1)
      let stuck := { s with
        cannons := updAt s.cannons c fun k =>
          { k with state := .stuck, faultPending := false, ackTimer := some s.settings.stuckRetry }
        stations := s.stations.map fun g => { g with preempt := g.preempt.filter fun p => p.2 ≠ c }
        notices := s.notices.place (.cannonStuck c) s.stamp }
      exec (.acknowledgementTimerExpiry c) s = .next (transmitBoth
        (fires.foldl (fun t f => if t.FireServed f then arbitrate (t.stationOf f) f t else t) stuck))) ∧
    ((s.cannon c).ackTimer.isSome → (s.cannon c).state = .stuck →
      exec (.acknowledgementTimerExpiry c) s = .next (transmitBoth
        { s with
          cannons := updAt s.cannons c fun k => { k with ackTimer := some s.settings.stuckRetry }
          commands := if s.hasCommand c then s.commands
            else s.commands ++ [{ cannon := c, verb := .closeValve }] })) ∧
    ((s.cannon c).burstTimer.isSome → (s.cannon c).state = .spraying → s.hasCommand c = false →
      exec (.burstTimerExpiry c) s = .next (transmitBoth
        { s with
          cannons := updAt s.cannons c fun k => { k with state := .closing, burstTimer := none, ackTimer := none }
          commands := s.commands ++ [{ cannon := c, verb := .closeValve }] }))

/-- The loss of the field link: every cannon in OPENING, SPRAYING, CLOSING or STUCK becomes UNKNOWN without burst or timers,
its marks and requests as R175 says, each burst's commitment is released with a draw equal to it, the places are given back, the
command queue is emptied, and FIELD-DOWN tells how many. Its return, at the next well-formed frame and before that frame's
disposition: a confirming CLOSE for each IDLE cannon that needs one; a close without a burst, in ascending cannon number, for each
mapped AUTOMATIC cannon in UNKNOWN that is not close-waiting, admitted or waiting at the tail of its station's list; FIELD-UP; and
then a capacity event at each station, which walks its list and arbitrates its FIRE requests, each seeing what the one before it
left (R88, R89, R90, R94, R99, R101, R114, R131, R132, R160, R175, R176). That FIELD-UP counts the close-waiting ones of these
cannons too is the model's choice (log entry 21), and so are that the confirming CLOSEs are placed in any order (log entry 10), and
that the stations take their capacity events in any order (log entry 8). -/
def Obligations.FieldLinkLossMakesUnknown : Prop :=
  (∀ s : State, s.operating → s.Rested → s.fieldPort.liveness.isSome →
    let lost := (List.finRange 48).filter fun c => (s.cannon c).state ∈ [.opening, .spraying, .closing, .stuck]
    let drawn := fun w => (lost.map fun c =>
      (s.cannon c).burst.elim 0 fun b => if b.source = w then b.planned else 0).sum
    let at_ := fun g => lost.filter fun c => s.stationOf c = g
    ∃ u, exec (.livenessTimerExpiry .field) s = .next (transmitBoth u) ∧
      u.fieldPort = { s.fieldPort with up := false, liveness := none } ∧ u.commands = [] ∧
      (∀ c, u.cannon c =
        if c ∈ lost then
          { s.cannon c with
            state := .unknown, burst := none, burstTimer := none, ackTimer := none, faultPending := false }
        else s.cannon c) ∧
      u.notices = s.notices.place (.fieldDown lost.length) s.stamp ∧
      (∀ w, u.source w =
        if ∃ c ∈ lost, ∃ b ∈ (s.cannon c).burst, b.source = w then
          { s.source w with committed := (s.source w).committed - drawn w }.drew (s.sourceEntry w).metered (drawn w)
        else s.source w) ∧
      (∀ g, u.station g =
        { s.station g with
          inUse := (s.station g).inUse - (at_ g).length
          inUseFlow := (s.station g).inUseFlow - ((at_ g).map fun c => (s.cannonEntry c).flow).sum
          preempt := (s.station g).preempt.filter fun p => p.2 ∉ lost }) ∧
      u.zones = s.zones ∧ u.mode = s.mode ∧ s.SameRecords u ∧ u.requests = s.requests ∧ u.replies = s.replies ∧
      u.controlPort = s.controlPort) ∧
  ∀ (s : State) (f : Frame), s.operating → s.Rested → s.WaitingHeld → s.fieldPort.up = false → frameFault f = none →
    let due := (List.finRange 48).filter fun c =>
      (s.cannonEntry c).mode = .automatic ∧ (s.cannon c).state = .unknown ∧ s.wired c
    let unmarked := (List.finRange 48).filter fun c =>
      (s.cannon c).state = .idle ∧ (s.cannon c).openMark ∧ s.hasCommand c = false
    let arising := due.filter fun c => s.closeWaiting c = false
    ∃ (u : State) (l : List CannonId) (gs : List StationId),
      exec (.frameCompletion .field f) s = exec (.frameCompletion .field f) u ∧
      l.Perm unmarked ∧ gs.Perm (List.finRange 4) ∧
      (let confirmed : State := { s.heard .field with
         commands := s.commands ++ l.map fun c => { cannon := c, verb := .closeValve } }
       let arisen : State := { arising.foldl (fun t c => t.closeArisen c) confirmed with
         notices := s.notices.place (.fieldUp due.length) s.stamp }
       let busy := (List.finRange 4).filter fun g => ¬ arisen.Quiet g
       let free := unmarked.length - 1 + if 2 ≤ busy.length then 3 else 0
       (arisen.chosen free).AfterCapacities u gs) ∧
      (frameDest f = s.ownId → exec (.frameCompletion .field f) s = .next (transmitBoth u)) ∧
      u.fieldPort = { s.fieldPort with up := true, liveness := some s.settings.linkTimeout } ∧
      (s.commands ++ l.map fun c => { cannon := c, verb := .closeValve }) <+: u.commands ∧
      (s.heard .field).AdmitsInOrder u arising ∧
      (∀ c, c ∈ due →
        (u.cannon c = s.cannon c ∧ u.closeWaiting c) ∨
        (u.hasCommand c ∧ u.cannon c = { s.cannon c with state := .closing, faultPending := false })) ∧
      u.notices = s.notices.place (.fieldUp due.length) s.stamp ∧
      ((∀ g, s.Quiet g) →
        (∀ c, c ∉ due → u.cannon c = s.cannon c) ∧ u.sources = s.sources ∧
        ∀ g,
          let closing := arising.filter fun c => s.stationOf c = g ∧ (u.cannon c).state = .closing
          u.station g =
            { s.station g with
              waiting := arising.filter fun c => s.stationOf c = g ∧ (u.cannon c).state ≠ .closing
              inUse := (s.station g).inUse + closing.length
              inUseFlow := (s.station g).inUseFlow + (closing.map fun c => (s.cannonEntry c).flow).sum }) ∧
      u.zones = s.zones ∧ u.mode = s.mode ∧ s.SameRecords u ∧ u.requests = s.requests ∧ u.replies = s.replies ∧
      u.controlPort = s.controlPort

/-! ## The management unit -/

/-- A request at the head of the queue that fails a check of R180 is answered with the first check's status and an empty
body, and changes nothing else: BUSY in the load; NOT-PERMITTED where the node map holds a SUPERVISOR entry and the source is none,
whatever the request; BAD-REQUEST for a code that is none of the twelve and for a body whose length is not the one that R194 gives
the request; BUSY where a SAVE runs that excludes it. The BAD-REQUEST of LOAD-FORECAST, which carries fields, is
LoadForecastWritesRing's. The permission and the length that the other statements' requests pass are these (R32, R179, R180, R181,
R194, R195). Which command carries out a request that has no row is the model's choice (log entry 3), and so is the length that
agrees with a WRITE-ENTRIES on an unknown table (log entry 19). -/
def Obligations.RequestChecksComeFirst : Prop :=
  (∀ (s : State) (row : Instr) (source code tag : Byte) (body : List Byte) (rest : List MgmtRequest) (why : Status),
    row ∈ managementRows → s.operating → s.Rested → s.replyLoad < 4 →
    s.requests = { source := source, payload := code :: tag :: body } :: rest →
    answers row { source := source, payload := code :: tag :: body } →
    ((s.phase = .loading ∧ why = .busy) ∨
     (s.phase = .running ∧ s.Barred source ∧ why = .notPermitted) ∨
     (s.phase = .running ∧ ¬ s.Barred source ∧ bodyAgrees code body = false ∧ code ≠ 4 ∧ why = .badRequest) ∨
     (s.phase = .running ∧ ¬ s.Barred source ∧ bodyAgrees code body = true ∧
       s.saving.isSome ∧ (code = 3 ∨ code = 7 ∨ code = 11 ∨ code = 12) ∧ why = .busy)) →
    exec row s = .next (transmitBoth (s.replied rest source code tag why []))) ∧
  (∀ (s : State) (node : Byte), s.permits node = true ↔ ¬ s.Barred node) ∧
  ∀ (source code tag : Byte) (body : List Byte),
    lengthAgrees { source := source, payload := code :: tag :: body } = bodyAgrees code body

/-- IDENTIFY, READ-ENTRIES and READ-STATE: the reply carries the codes, capacities and store state; as many whole entries as were
asked for, remain and fit; and as many whole records, each entry and record written out field by field in its rule's order; that of
the clock while it keeps its ranges (R23). The tables have the sizes of R183 and the object kinds its indexes. READ-ENTRIES of no
table is refused BAD-TABLE, either read with count 0 and a READ-STATE of no object kind BAD-VALUE, and a first entry or index
outside BAD-INDEX. They change nothing else (R22, R23, R37, R61, R83, R102, R119, R137, R148, R163, R178, R182, R183, R194, R195, R197). The codes that no table gives, and
the unused preemption pairs of a STATION record, are the model's choice (log entry 13), so is the order of its pairs (log
entry 34), and so is which check is judged first where several fail (log entry 31). -/
def Obligations.ReadRepliesCarryRecords : Prop :=
  ∀ (s : State) (source tag : Byte) (rest : List MgmtRequest),
    (s.Takes source [1, tag] rest →
      exec .identify s = .next (transmitBoth (s.replied rest source 1 tag .done
        ([20, 83, 0, 48, 65, byte s.settings.ownId,
          if s.saving.isSome then 2 else if s.storeFound then 0 else 1] ++
         [239, 8, 12, 32, 32, 4, 48, 48, 768, 8, 4, 20, 4, 8, 2, 4, 48, 4, 4, 32].flatMap be16)))) ∧
    (∀ table hi lo count : Byte, s.Takes source [2, tag, table, hi, lo, count] rest → count ≠ 0 →
      inTable table.toNat (nat16 hi lo) →
      let n := min count.toNat
        (min (tableFirst table.toNat + tableSize table.toNat - nat16 hi lo) (57 / entryWidths.getD (table.toNat - 1) 0))
      exec .readEntries s = .next (transmitBoth (s.replied rest source 2 tag
        (if n = count.toNat then .done else .partialDone)
        ([table, hi, lo, byte n] ++
         (List.range n).flatMap fun i => s.cfg.laidOut table.toNat (nat16 hi lo + i))))) ∧
    (∀ kind i : Byte, s.Takes source [5, tag, kind, i, 1] rest → i.toNat < kindSize kind.toNat → (kind = 4 → s.ClockFits) →
      exec .readState s = .next (transmitBoth (s.replied rest source 5 tag .done
        ([kind, i, 1] ++ s.laidOut kind.toNat i.toNat)))) ∧
    (∀ kind i count : Byte, s.Takes source [5, tag, kind, i, count] rest → count ≠ 0 → i.toNat < kindSize kind.toNat →
      (kind = 4 → s.ClockFits) →
      let n := min count.toNat
        (min (kindSize kind.toNat - i.toNat) (58 / (s.laidOut kind.toNat i.toNat).length))
      exec .readState s = .next (transmitBoth (s.replied rest source 5 tag
        (if n = count.toNat then .done else .partialDone)
        ([kind, i, byte n] ++ (List.range n).flatMap fun j => s.laidOut kind.toNat (i.toNat + j))))) ∧
    (∀ table hi lo count : Byte, s.Takes source [2, tag, table, hi, lo, count] rest →
      let fails := fun why : Status => exec .readEntries s = .next (transmitBoth (s.replied rest source 2 tag why []))
      let known := 1 ≤ table.toNat ∧ table.toNat ≤ 10
      (¬ known → fails .badTable) ∧ (known → count = 0 → fails .badValue) ∧
      (known → count ≠ 0 → inTable table.toNat (nat16 hi lo) = false → fails .badIndex)) ∧
    (∀ kind i count : Byte, s.Takes source [5, tag, kind, i, count] rest →
      let fails := fun why : Status => exec .readState s = .next (transmitBoth (s.replied rest source 5 tag why []))
      let known := 1 ≤ kind.toNat ∧ kind.toNat ≤ 13
      (¬ known ∨ count = 0 → fails .badValue) ∧
      (known → count ≠ 0 → kindSize kind.toNat ≤ i.toNat → fails .badIndex)) ∧
    (∀ table e : Nat, inTable table e = true ↔
      (table = 1 ∧ 1 ≤ e ∧ e ≤ 239) ∨ (2 ≤ table ∧ e < [32, 4, 48, 768, 8, 4, 4, 2, 1].getD (table - 2) 0)) ∧
    (∀ kind : Nat, kindSize kind =
      if kind = 0 then 0 else [8, 12, 32, 1, 48, 32, 48, 4, 4, 8, 1, 2, 1].getD (kind - 1) 0)

/-- A WRITE-ENTRIES of one entry of SOURCE, SUBSTITUTION or SETTINGS that is in range writes it, replies DONE with count 1, and
changes nothing else. Of any table: an unknown one is refused BAD-TABLE, a count of 0 BAD-VALUE, and a first entry outside the
table BAD-INDEX, with count 0. In each of the ten tables an entry with a field out of the range its rule gives is refused BAD-VALUE:
PARTIAL with count 0, the entry's number and that reason, and nothing else changes. A node map entry of role NONE acts with any index
as with index 0. One of several entries does what its entries do written one at a time, each judged in the state that
the one before it left: DONE with the count when all are written; else PARTIAL at the first that is refused, or that lies past the
table's end, with the count, its number and its status (R2, R3, R20, R36, R38, R41, R60, R63, R68, R78, R84, R102, R118, R120, R121, R136, R147,
R163, R167, R184, R194, R195). The fields of a refusal as a whole are the
model's choice (log entry 14), and so are the row that answers an unknown table (log entry 3), the length that agrees with it (log
entry 19), the order of the checks (log entry 31), and that an entry's capacity events come before the next entry (log entry 8). -/
def Obligations.PlainTableWrites : Prop :=
  ∀ (s : State) (source tag : Byte) (rest : List MgmtRequest), s.saving = none →
    (∀ (w : SourceId) (e : SourceEntry), e.ok = true →
      s.Takes source ([3, tag, 8, 0, byte w.val, 1] ++ e.bytes) rest →
      exec .writeSource s = .next (transmitBoth
        { s.replied rest source 3 tag .done [1, 255, 255, 0] with
          cfg := { s.cfg with sources := updAt s.cfg.sources w fun _ => e } })) ∧
    (∀ (i : Fin 2) (e : Window), s.Takes source ([3, tag, 9, 0, byte i.val, 1] ++ e.bytes) rest →
      exec .writeSubstitution s = .next (transmitBoth
        { s.replied rest source 3 tag .done [1, 255, 255, 0] with
          cfg := { s.cfg with windows := updAt s.cfg.windows i fun _ => e } })) ∧
    (∀ e : Settings, e.ok = true → s.Takes source ([3, tag, 10, 0, 0, 1] ++ e.bytes) rest →
      exec .writeSettings s = .next (transmitBoth
        { s.replied rest source 3 tag .done [1, 255, 255, 0] with cfg := { s.cfg with settings := e } })) ∧
    (∀ (row : Instr) (table hi lo count : Byte) (entries : List Byte), row ∈ managementRows →
      s.Takes source ([3, tag, table, hi, lo, count] ++ entries) rest → table = 0 ∨ 10 < table.toNat →
      exec row s = .next (transmitBoth (s.replied rest source 3 tag .badTable [0, 255, 255, 0]))) ∧
    (∀ (row : Instr) (table hi lo count : Byte) (entries : List Byte), 1 ≤ table.toNat →
      writeRows[table.toNat - 1]? = some row →
      s.Takes source ([3, tag, table, hi, lo, count] ++ entries) rest →
      entries.length = count.toNat * entrySize table.toNat →
      let fails := fun why : Status =>
        exec row s = .next (transmitBoth (s.replied rest source 3 tag why [0, 255, 255, 0]))
      (count = 0 → fails .badValue) ∧
      (count ≠ 0 → inTable table.toNat (nat16 hi lo) = false → fails .badIndex)) ∧
    (∀ (row : Instr) (table e : Nat) (b : List Byte), 1 ≤ table → writeRows[table - 1]? = some row →
      s.Takes source ([3, tag, byte table] ++ be16 e ++ [1] ++ b) rest → inTable table e →
      b.length = entryWidths.getD (table - 1) 0 → (table = 1 → s.mode = .off ∨ s.mode = .halt) →
      entryInRange table b = false →
      exec row s = .next (transmitBoth (s.replied rest source 3 tag .partialDone ([0] ++ be16 e ++ [6])))) ∧
    (∀ (i : Fin 239) (x : Byte), s.Takes source [3, tag, 1, 0, byte (i.val + 1), 1, 0, x] rest →
      exec .writeNodeMap s = exec .writeNodeMap
        { s with
          requests := { source := source, payload := [3, tag, 1, 0, byte (i.val + 1), 1, 0, 0] } :: rest }) ∧
    (∀ (row : Instr) (table e n : Nat) (bs : Nat → List Byte) (more : List (List Byte)) (u : Nat → State)
        (src : Nat → Byte),
      1 ≤ table → writeRows[table - 1]? = some row → u 0 = s → s.phase = .running → s.Rested →
      (∀ p, (s.port p).sending.isSome) → s.replyLoad < 4 → s.permits source →
      n + more.length ≤ 255 → 1 ≤ n + more.length → (∀ b ∈ more, b.length = entrySize table) → inTable table e →
      (table = 1 → s.mode = .off ∨ s.mode = .halt) →
      (∀ i, i < n → inTable table (e + i) ∧
        exec row ((u i).writing (src i) tag table (e + i) [bs i]) =
          .next ((u (i + 1)).wrote (src i) tag .done 1 65535 0)) →
      let whole := fun t : State =>
        exec row (s.writing source tag table e ((List.range n).map bs ++ more)) = .next t
      (more = [] → whole ((u n).wrote source tag .done n 65535 0)) ∧
      (∀ b x y why, more.head? = some b → inTable table (e + n) →
        exec row ((u n).writing x y table (e + n) [b]) = .next ((u n).wrote x y .partialDone 0 (e + n) why) →
        whole ((u n).wrote source tag .partialDone n (e + n) why)) ∧
      (more ≠ [] → inTable table (e + n) = false →
        whole ((u n).wrote source tag .partialDone n (e + n) Status.badIndex.code)))

/-- A WRITE-ENTRIES of one node map entry: written in OFF and HALT, with a confirming CLOSE for an IDLE cannon that it maps, in
HALT the close of an UNKNOWN one in AUTOMATIC, and the qualities derived again, with SOURCE-QUALITY for each that changes; refused
as a whole in RUN and WATCH; refused CONFLICT where another node holds the role, and IN-USE for the valve of a cannon in flight,
closing, stuck or BYPASS-OPEN (R3, R4, R89, R114, R127, R177). The fields of the refusal as a whole are the model's choice (log
entry 14), and so are CONFLICT before IN-USE (log entry 31), the free order of two SOURCE-QUALITY notices (log entry 9), and that a
mapped cannon which already waits for a close is admitted by the tests of R89 (log entry 17). -/
def Obligations.NodeMapWrite : Prop :=
  ∀ (s : State) (source tag : Byte) (rest : List MgmtRequest) (i : Fin 239) (r : NodeRole), s.saving = none →
    nodeMapUnique s.cfg.nodeMap →
    s.Takes source ([3, tag, 1, 0, byte (i.val + 1), 1] ++ r.bytes) rest →
    ((s.mode = .run ∨ s.mode = .watch) →
      exec .writeNodeMap s = .next (transmitBoth (s.replied rest source 3 tag .wrongMode [0, 255, 255, 0]))) ∧
    ((s.mode = .off ∨ s.mode = .halt) →
      (r = s.cfg.nodeMap[i] →
        exec .writeNodeMap s = .next (transmitBoth (s.replied rest source 3 tag .done [1, 255, 255, 0]))) ∧
      (r ≠ s.cfg.nodeMap[i] → r ≠ .none → s.mapped r →
        exec .writeNodeMap s = .next (transmitBoth
          (s.replied rest source 3 tag .partialDone [0, 0, byte (i.val + 1), 7]))) ∧
      (r ≠ s.cfg.nodeMap[i] → (r = .none ∨ s.mapped r = false) → s.nodeInUse s.cfg.nodeMap[i] →
        exec .writeNodeMap s = .next (transmitBoth
          (s.replied rest source 3 tag .partialDone [0, 0, byte (i.val + 1), 8]))) ∧
      (r ≠ s.cfg.nodeMap[i] → (r = .none ∨ s.mapped r = false) → s.nodeInUse s.cfg.nodeMap[i] = false →
        ∃ u, exec .writeNodeMap s = .next (transmitBoth u) ∧
          u.cfg = { s.cfg with nodeMap := updAt s.cfg.nodeMap i fun _ => r } ∧
          u.replies = s.replies ++
            [{ dest := source, code := 3, tag := tag, status := .done, body := [1, 255, 255, 0] }] ∧
          u.requests = rest ∧
          (∀ w, s.cfg.nodeMap[i] ≠ .quality w → r ≠ .quality w → u.source w = s.source w) ∧
          (∀ w, s.cfg.nodeMap[i] = .quality w ∨ r = .quality w →
            u.source w = { s.source w with quality := (s.source w).derived (r = .quality w) }) ∧
          ((∀ c, r ≠ .valve c) → u.cannons = s.cannons ∧ u.commands = s.commands ∧ u.stations = s.stations) ∧
          (∀ c, r = .valve c →
            let arises := s.mode = .halt ∧ (s.cannonEntry c).mode = .automatic ∧ (s.cannon c).state = .unknown
            let closed := State.closeArisen { s with cfg := u.cfg } c
            (arises → u.cannons = closed.cannons ∧ u.stations = closed.stations ∧ u.commands = closed.commands) ∧
            (¬ arises → u.cannons = s.cannons ∧ u.stations = s.stations ∧
              u.commands = if (s.cannon c).state = .idle ∧ (s.cannon c).openMark ∧ s.hasCommand c = false then
                  s.commands ++ [{ cannon := c, verb := .closeValve }]
                else s.commands)) ∧
          (let changed := (List.finRange 4).filter fun w =>
             (s.cfg.nodeMap[i] = .quality w ∨ r = .quality w) ∧
               (s.source w).derived (r = .quality w) ≠ (s.source w).quality
           ∃ l : List SourceId, l.Perm changed ∧
             u.notices = l.foldl (fun n w =>
               n.place (.sourceQuality w ((s.source w).derived (r = .quality w)) (s.source w).stale (s.sourceEntry w).kind)
                 s.stamp) s.notices) ∧
          u.zones = s.zones ∧ u.masts = s.masts ∧ u.machines = s.machines ∧ u.mode = s.mode ∧ u.store = s.store))

/-- A WRITE-ENTRIES of one zone entry that is in range writes it. Enabling starts the evaluation timer; disabling stops it,
withdraws the zone's requests, clears its flags, risk and band, and raises BAND-CHANGE when the band was not CALM. A new profile
number re-bands the zone from its stored risk, with BAND-CHANGE for a change and, for a watched zone that comes to ACT or SEVERE
in WATCH, a wake. A policy that goes from yes to no where the zone's machine count is not 0 closes every burst that credits the
zone and is not FIRE, in ascending cannon number. A change of the other fields alone changes no zone record (R40, R52, R54, R112,
R143, R173, R184). That these effects follow in this order is the model's choice (log entry 27), and so are the free order of a
wake's notices (log entry 9), that a fall from SEVERE to ACT wakes (log entry 33), that the wake goes by the watch flag just written
(log entry 35), and the risk 0 of a disabled zone's BAND-CHANGE (log entry 36). -/
def Obligations.ZoneWrite : Prop :=
  ∀ (s : State) (source tag : Byte) (rest : List MgmtRequest) (z : ZoneId) (e : ZoneEntry), s.saving = none →
    s.Takes source ([3, tag, 2, 0, byte z.val, 1] ++ e.bytes) rest → e.ok = true →
    let old := s.zoneEntry z
    let done := { s.replied rest source 3 tag .done [1, 255, 255, 0] with
      cfg := { s.cfg with zones := updAt s.cfg.zones z fun _ => e } }
    let switched :=
      if old.enabled = e.enabled then done
      else if e.enabled then
        { done with
          zones := updAt s.zones z fun x =>
            { x with timer := some { remaining := s.settings.evalPeriod, period := s.settings.evalPeriod } } }
      else
        { done with
          zones := updAt s.zones z fun x =>
            { x with timer := none, blind := false, forecastOnly := false, uplift := false, risk := 0, band := .calm }
          cannons := s.cannons.map fun k =>
            if k.request.any (·.ownedBy z) then { k with request := none, owed := 0 } else k
          notices := if (s.zone z).band = .calm then s.notices
            else s.notices.place (.bandChange z .calm 0) s.stamp }
    let starts := s.machineCount z ≠ 0 ∧ old.policy = true ∧ e.policy = false
    (∃ t, exec .writeZone s = .next t ∧ t.cfg = done.cfg ∧ ∀ y, y ≠ z → t.zone y = s.zone y) ∧
    (¬ starts → e.profile = old.profile → exec .writeZone s = .next (transmitBoth switched)) ∧
    ∃ v, v = { switched with
        zones := v.zones, mode := v.mode, lastChange := v.lastChange, notices := v.notices
        choices := v.choices, choiceCount := v.choiceCount } ∧
      (e.profile = old.profile → v = switched) ∧
      (e.profile ≠ old.profile →
        let x := switched.zone z
        ∃ band, (s.cfg.profiles[e.profile]).BandAfter x.risk x.band band ∧
          v.zones = updAt switched.zones z (fun x => { x with band := band }) ∧
          let wakes := s.mode = .watch ∧ e.watch = true ∧ band ≠ x.band ∧ (band = .act ∨ band = .severe)
          (wakes → v.mode = .run ∧ v.lastChange = some { previous := .watch, cause := .wake } ∧
            ∃ l : List Report, l.Perm [.bandChange z band x.risk, .wake z band, .dispatchMode .run .watch .wake] ∧
              v.notices = l.foldl (fun k r => k.place r s.stamp) switched.notices) ∧
          (¬ wakes → v.mode = s.mode ∧ v.lastChange = s.lastChange ∧
            v.notices = if band = x.band then switched.notices
              else switched.notices.place (.bandChange z band x.risk) s.stamp)) ∧
      (¬ starts → exec .writeZone s = .next (transmitBoth v)) ∧
      (starts → ClosesEarly (exec .writeZone s) v
        ((List.finRange 48).filter fun c =>
          (s.cannon c).flying fun b => decide (b.credited = some z ∧ b.cls ≠ .fire)))

/-- A WRITE-ENTRIES of one profile in range writes it and re-bands every zone that uses it from its stored risk, with BAND-CHANGE for
each that changes; no request changes, and only a watched zone that reaches ACT or SEVERE in WATCH takes dispatch to RUN, with WAKE
for one such zone and DISPATCH-MODE (R41, R52, R54, R173). That a fall from SEVERE to ACT does so too is the model's choice (log
entry 33), and so are the free order of these notices and which of several zones wakes dispatch (log entry 9). -/
def Obligations.ProfileWriteRebands : Prop :=
  ∀ (s : State) (source tag : Byte) (rest : List MgmtRequest) (f : ProfileId) (e : Profile), s.saving = none →
    s.Takes source ([3, tag, 3, 0, byte f.val, 1] ++ e.bytes) rest → e.ok = true →
    ∃ u, exec .writeProfile s = .next (transmitBoth u) ∧
      u.cfg = { s.cfg with profiles := updAt s.cfg.profiles f fun _ => e } ∧
      (∀ z, (s.zoneEntry z).profile = f →
        u.zone z = { s.zone z with band := (u.zone z).band } ∧
        e.BandAfter (s.zone z).risk (s.zone z).band (u.zone z).band) ∧
      (∀ z, (s.zoneEntry z).profile ≠ f → u.zone z = s.zone z) ∧
      (u.mode =
        if s.mode = .watch ∧ ∃ z, (s.zoneEntry z).profile = f ∧ (s.zoneEntry z).watch ∧
            (u.zone z).band ≠ (s.zone z).band ∧ ((u.zone z).band = .act ∨ (u.zone z).band = .severe) then .run
        else s.mode) ∧
      (let changed := (List.finRange 32).filter fun z =>
         (s.zoneEntry z).profile = f ∧ (u.zone z).band ≠ (s.zone z).band
       let reports := changed.map fun z => Report.bandChange z (u.zone z).band (s.zone z).risk
       let wakes := fun z => s.mode = .watch ∧ z ∈ changed ∧ (s.zoneEntry z).watch ∧
         ((u.zone z).band = .act ∨ (u.zone z).band = .severe)
       let raises := fun rs : List Report =>
         ∃ l : List Report, l.Perm rs ∧ u.notices = l.foldl (fun k r => k.place r s.stamp) s.notices
       ((∀ z, ¬ wakes z) → u.lastChange = s.lastChange ∧ raises reports) ∧
       ((∃ z, wakes z) → u.lastChange = some { previous := .watch, cause := .wake } ∧
         ∃ z, wakes z ∧ raises (reports ++ [.wake z (u.zone z).band, .dispatchMode .run .watch .wake]))) ∧
      u.requests = rest ∧
      u.replies = s.replies ++
        [{ dest := source, code := 3, tag := tag, status := .done, body := [1, 255, 255, 0] }] ∧
      u.cannons = s.cannons ∧ u.stations = s.stations ∧ u.sources = s.sources ∧ u.commands = s.commands ∧
      u.masts = s.masts ∧ u.machines = s.machines ∧ u.clock = s.clock ∧ u.ring = s.ring ∧
      u.controlPort = s.controlPort ∧ u.fieldPort = s.fieldPort ∧ u.store = s.store

/-- A WRITE-ENTRIES of one cannon entry in range: refused IN-USE where it changes the entry of a cannon in OPENING, SPRAYING,
CLOSING or STUCK, or the mode of one in BYPASS-OPEN; written otherwise. A new mode gives the cannon the state of R67. Leaving
AUTOMATIC removes its request, ends its preemption, stops its hold timer and takes it off the close waiting list; entering it
leaves no request, and IDLE from BYPASS-CLOSED takes a confirming CLOSE where it needs one, while in a mode other than OFF the
close of a mapped cannon from RETIRED arises at once. Then a new reference mast derives its target again. The other fields change
nothing at the write (R64, R67, R69, R70, R71, R89, R101, R114, R177, R184). That a written station moves no close waiting list
at the write, and that the effects follow in this order, is the model's choice (log entry 23). -/
def Obligations.CannonWrite : Prop :=
  ∀ (s : State) (source tag : Byte) (rest : List MgmtRequest) (c : CannonId) (e : CannonEntry), s.saving = none →
    s.Takes source ([3, tag, 4, 0, byte c.val, 1] ++ e.bytes) rest → e.ok = true →
    let old := s.cannonEntry c
    let k := s.cannon c
    let inUse := e ≠ old ∧ (k.state.holdsPlace ∨ (k.state = .bypassOpen ∧ e.mode ≠ old.mode))
    let written := { s.replied rest source 3 tag .done [1, 255, 255, 0] with
      cfg := { s.cfg with cannons := updAt s.cfg.cannons c fun _ => e } }
    let leads := fun t : State =>
      exec .writeCannon s = .next (transmitBoth
        (if e.refMast = old.refMast then t else t.rederived fun d => decide (d = c)))
    (inUse →
      exec .writeCannon s = .next (transmitBoth (s.replied rest source 3 tag .partialDone [0, 0, byte c.val, 8]))) ∧
    (¬ inUse → e.mode = old.mode → leads written) ∧
    (¬ inUse → e.mode ≠ old.mode → leads (written.modeTaken c old.mode e.mode))

/-- A WRITE-ENTRIES of one coverage entry in range writes it and derives its cannon's target again, no other cannon's, with the
AUTO request, the aim and the burst that a new zone or pattern takes; one of a pattern in range writes it and sets the sweep aim
of every cannon whose pattern it is to column 0 and row 0 (R68 to R72, R78, R81). -/
def Obligations.CoverageAndPatternWrites : Prop :=
  ∀ (s : State) (source tag : Byte) (rest : List MgmtRequest), s.saving = none →
    (∀ (i : Fin 768) (e : Coverage), e.ok = true →
      s.Takes source ([3, tag, 5] ++ be16 i.val ++ [1] ++ e.bytes) rest →
      DerivesAgain (exec .writeCoverage s)
        { s.replied rest source 3 tag .done [1, 255, 255, 0] with
          cfg := { s.cfg with coverage := updAt s.cfg.coverage i fun _ => e } }
        fun c => decide (c.val = i.val / 16)) ∧
    (∀ (f : PatternId) (e : Pattern), e.ok = true →
      s.Takes source ([3, tag, 6, 0, byte f.val, 1] ++ e.bytes) rest →
      exec .writePattern s = .next (transmitBoth
        { s.replied rest source 3 tag .done [1, 255, 255, 0] with
          cfg := { s.cfg with patterns := updAt s.cfg.patterns f fun _ => e }
          cannons := s.cannons.map fun k =>
            if k.target.pattern = f then { k with column := 0, row := 0 } else k }))

/-- A WRITE-ENTRIES of one station entry in range: refused IN-USE below the in-use count or flow; written otherwise. Where neither
limit nor flow rises nothing else changes, and a rise is a capacity event of the station: its close waiting list is walked by the
tests of R89, and its FIRE requests are arbitrated where they may be (R89, R90, R91, R94, R99, R184). -/
def Obligations.StationWrite : Prop :=
  ∀ (s : State) (source tag : Byte) (rest : List MgmtRequest) (g : StationId) (e : StationEntry), s.saving = none →
    s.Takes source ([3, tag, 7, 0, byte g.val, 1] ++ e.bytes) rest → e.ok = true →
    let old := s.stationEntry g
    let inUse := e ≠ old ∧ (e.limit < (s.station g).inUse ∨ e.maxFlow < (s.station g).inUseFlow)
    let cfg := { s.cfg with stations := updAt s.cfg.stations g fun _ => e }
    (inUse →
      exec .writeStation s = .next (transmitBoth (s.replied rest source 3 tag .partialDone [0, 0, byte g.val, 8]))) ∧
    (¬ inUse → e.limit ≤ old.limit → e.maxFlow ≤ old.maxFlow →
      exec .writeStation s = .next (transmitBoth
        { s.replied rest source 3 tag .done [1, 255, 255, 0] with cfg := cfg })) ∧
    (¬ inUse → old.limit < e.limit ∨ old.maxFlow < e.maxFlow →
      TakesCapacity (exec .writeStation s)
        { s.replied rest source 3 tag .done [1, 255, 255, 0] with cfg := cfg } g) ∧
    (¬ inUse → ∃ t, exec .writeStation s = .next t ∧ t.cfg = cfg ∧ t.zones = s.zones ∧ t.mode = s.mode ∧
      t.requests = rest ∧ t.store = s.store)

/-- LOAD-FORECAST of one to eight records in range writes each record whose hour lies 0 to 47 hours after the epoch in force
into its hour's slot and skips the rest, all of them while the time state is UNSET; the reply gives the count written, the
epoch and the time state, DONE when every record was written. A start hour or a field of a record out of range is refused BAD-VALUE,
and a length that does not agree with a record count of 1 to 8 BAD-REQUEST, and nothing is written (R32, R33, R180, R194). That the
BAD-REQUEST carries the count, the epoch and the time state is the model's choice (log entry 18). -/
def Obligations.LoadForecastWritesRing : Prop :=
  (∀ (s : State) (source tag : Byte) (rest : List MgmtRequest) (start : Nat) (rs : List ForecastRecord),
    start < 1572864 → 1 ≤ rs.length → rs.length ≤ 8 → (∀ r ∈ rs, r.ok = true) →
    s.Takes source ([4, tag] ++ be32 start ++ [byte rs.length] ++
      rs.flatMap fun r => be16 r.mean ++ be16 r.gust ++ [byte r.sector, byte r.rain, byte r.evap]) rest →
    let hour := fun k : Nat => (start + k) % 1572864
    let taken := fun k : Nat => s.epoch.any fun e => decide ((hour k + 1572864 - e) % 1572864 < 48)
    let n := ((List.range rs.length).filter taken).length
    s.ClockFits →
    ∃ u, exec .loadForecast s = .next (transmitBoth u) ∧
      u = { s.replied rest source 4 tag (if n = rs.length then .done else .partialDone)
              ([byte n] ++ be32 (s.epoch.getD 4294967295) ++ [if s.clock.timeSet then 1 else 0]) with
        ring := u.ring } ∧
      (∀ (k : Nat) (r : ForecastRecord) (i : Fin 48), rs[k]? = some r → taken k → i.val = hour k % 48 →
        u.slotAt i =
          { valid := true, hour := hour k, mean := r.mean, gust := r.gust, rain := r.rain, evap := r.evap,
            sector := ⟨r.sector % 16, Nat.mod_lt _ (by decide)⟩ }) ∧
      (∀ i : Fin 48, (∀ k, k < rs.length → taken k → hour k % 48 ≠ i.val) → u.slotAt i = s.slotAt i)) ∧
  ∀ (s : State) (source tag : Byte) (rest : List MgmtRequest),
    let fails := fun why : Status =>
      exec .loadForecast s = .next (transmitBoth (s.replied rest source 4 tag why
        ([0] ++ be32 (s.epoch.getD 4294967295) ++ [if s.clock.timeSet then 1 else 0])))
    (∀ (h3 h2 h1 h0 : Byte) (rs : List ForecastRecord), 1 ≤ rs.length → rs.length ≤ 8 →
      (∀ r ∈ rs, r.mean < 65536 ∧ r.gust < 65536 ∧ r.sector < 256 ∧ r.rain < 256 ∧ r.evap < 256) →
      s.Takes source ([4, tag, h3, h2, h1, h0, byte rs.length] ++
        rs.flatMap fun r => be16 r.mean ++ be16 r.gust ++ [byte r.sector, byte r.rain, byte r.evap]) rest →
      (1572864 ≤ nat32 h3 h2 h1 h0 ∨
        ∃ r ∈ rs, 600 < r.mean ∨ 600 < r.gust ∨ 15 < r.sector ∨ 100 < r.rain ∨ 100 < r.evap) → fails .badValue) ∧
    (∀ body : List Byte, s.Takes source ([4, tag] ++ body) rest →
      (body.length < 5 ∨ body.getD 4 0 = 0 ∨ 8 < (body.getD 4 0).toNat ∨
        body.length ≠ 5 + 7 * (body.getD 4 0).toNat) → fails .badRequest)

/-! ## Dispatch modes -/

/-- START taken in OFF sets RUN, raises DISPATCH-MODE, and makes the close sweep: each mapped AUTOMATIC cannon in UNKNOWN,
IDLE or FAULT is judged in ascending cannon number by the tests of R89; one that passes enters CLOSING, with the fault-pending
mark from FAULT, its place taken and its CLOSE queued; another keeps its state and joins the tail of its station's close waiting
list, if it is on none; every one of them waits while the field link is DOWN; no other cannon changes. In any other mode it is
refused WRONG-MODE (R88, R89, R104, R170, R171). That a swept cannon which already waits for a close is admitted and leaves the
list, past those ahead of it, is the model's choice (log entry 17). -/
def Obligations.StartSweepsUnknownValves : Prop :=
  ∀ (s : State) (source tag : Byte) (rest : List MgmtRequest), s.Takes source [6, tag, 1] rest →
    (s.mode ≠ .off →
      exec .start s = .next (transmitBoth (s.replied rest source 6 tag .wrongMode [byte s.mode.code]))) ∧
    (s.mode = .off →
      let swept := (List.finRange 48).filter fun c =>
        (s.cannonEntry c).mode = .automatic ∧ s.wired c ∧ (s.cannon c).state ∈ [.unknown, .idle, .fault]
      ∃ u, exec .start s = .next (transmitBoth u) ∧ u.mode = .run ∧
        u.lastChange = some { previous := .off, cause := .request } ∧
        u.notices = s.notices.place (.dispatchMode .run .off .request) s.stamp ∧
        u.replies = s.replies ++ [{ dest := source, code := 6, tag := tag, status := .done, body := [1] }] ∧
        u.requests = rest ∧ s.AdmitsInOrder u swept ∧
        (∀ c, u.cannon c = s.cannon c ∨
          (c ∈ swept ∧ u.cannon c = { s.cannon c with
            state := .closing, faultPending := decide ((s.cannon c).state = .fault) })) ∧
        (let closing := swept.filter fun c => (u.cannon c).state = .closing
         let left := swept.filter fun c => (u.cannon c).state ≠ .closing
         u.commands = s.commands ++
           (closing.filter fun c => s.hasCommand c = false).map (fun c => { cannon := c, verb := .closeValve }) ∧
         ∀ g, u.station g =
           { s.station g with
             waiting := ((s.station g).waiting.filter fun c => c ∉ closing) ++
               left.filter fun c => s.stationOf c = g ∧ s.closeWaiting c = false
             inUse := (s.station g).inUse + (closing.filter fun c => s.stationOf c = g).length
             inUseFlow := (s.station g).inUseFlow +
               ((closing.filter fun c => s.stationOf c = g).map fun c => (s.cannonEntry c).flow).sum }) ∧
        s.SameRecords u ∧ u.zones = s.zones ∧ u.sources = s.sources ∧ u.controlPort = s.controlPort ∧
        u.fieldPort = s.fieldPort)

/-- WATCH in RUN and HALT in RUN or WATCH set the mode and close early every burst in flight but FIRE bursts, which stay as they
are; every request is kept, but for a FIRE request that a place so freed lets the station grant. RESUME in WATCH or HALT sets RUN
and changes nothing else; where the mode does not allow them all three are refused WRONG-MODE. A verb that is none of the five is
refused BAD-VALUE (R90, R112, R170, R172). The row that answers such a verb is the model's choice (log entry 3). -/
def Obligations.WatchHaltResumeSetMode : Prop :=
  ∀ (s : State) (source tag : Byte) (rest : List MgmtRequest),
    let quiets := fun (m : DispatchMode) (u : State) =>
      u.mode = m ∧ u.lastChange = some { previous := s.mode, cause := .request } ∧
      u.notices = s.notices.place (.dispatchMode m s.mode .request) s.stamp ∧
      u.replies = s.replies ++ [{ dest := source, code := 6, tag := tag, status := .done, body := [byte m.code] }] ∧
      (∀ c, (u.cannon c).flying (fun b => decide (b.cls ≠ .fire)) = false) ∧
      (s.WaitingHeld →
        (∀ c, (s.cannon c).flying (fun b => decide (b.cls = .fire)) → u.cannon c = s.cannon c) ∧
        (∀ c b, (s.cannon c).burst = some b → b.cls ≠ .fire →
          (s.cannon c).state = .spraying ∨ ((s.cannon c).state = .opening ∧ s.openQueued c = false) →
          u.cannon c = (s.shut c false).cannon c ∧ u.hasCommand c) ∧
        ∀ c, ((u.cannon c).request = (s.cannon c).request ∧ (u.cannon c).owed = (s.cannon c).owed) ∨
          ((s.cannon c).holds .fire ∧ (u.cannon c).request = none ∧ (u.cannon c).state = .opening)) ∧
      s.SameRecords u ∧ u.zones = s.zones ∧ u.requests = rest
    (s.Takes source [6, tag, 2] rest → s.mode = .run →
      ∃ u, exec .watch s = .next (transmitBoth u) ∧ quiets .watch u) ∧
    (s.Takes source [6, tag, 2] rest → s.mode ≠ .run →
      exec .watch s = .next (transmitBoth (s.replied rest source 6 tag .wrongMode [byte s.mode.code]))) ∧
    (s.Takes source [6, tag, 3] rest → (s.mode = .run ∨ s.mode = .watch) →
      ∃ u, exec .halt s = .next (transmitBoth u) ∧ quiets .halt u) ∧
    (s.Takes source [6, tag, 3] rest → (s.mode = .off ∨ s.mode = .halt) →
      exec .halt s = .next (transmitBoth (s.replied rest source 6 tag .wrongMode [byte s.mode.code]))) ∧
    (s.Takes source [6, tag, 4] rest → (s.mode = .watch ∨ s.mode = .halt) →
      exec .resume s = .next (transmitBoth
        { s.replied rest source 6 tag .done [1] with
          mode := .run, lastChange := some { previous := s.mode, cause := .request }
          notices := s.notices.place (.dispatchMode .run s.mode .request) s.stamp })) ∧
    (s.Takes source [6, tag, 4] rest → (s.mode = .off ∨ s.mode = .run) →
      exec .resume s = .next (transmitBoth (s.replied rest source 6 tag .wrongMode [byte s.mode.code]))) ∧
    (∀ (row : Instr) (verb : Byte), row ∈ managementRows → verb = 0 ∨ 5 < verb.toNat → s.Takes source [6, tag, verb] rest →
      exec row s = .next (transmitBoth (s.replied rest source 6 tag .badValue [])))

/-- STOP in RUN, WATCH or HALT removes every request and owed count, ends every preemption, closes every burst in flight early, in
ascending cannon number, and sets OFF with DISPATCH-MODE and the reply DONE: an unsent OPEN is removed and its cannon IDLE, and any
other is CLOSING with its CLOSE queued. What it frees may admit a close-waiting cannon. Hold timers, targets, aims, zones, records
and the sources' accounts but for the commitment of an unsent burst stay; in OFF it is refused WRONG-MODE (R89, R90, R101, R112,
R170, R174). -/
def Obligations.StopClearsRequests : Prop :=
  ∀ (s : State) (source tag : Byte) (rest : List MgmtRequest), s.Takes source [6, tag, 5] rest →
    (s.mode = .off →
      exec .stop s = .next (transmitBoth (s.replied rest source 6 tag .wrongMode [0]))) ∧
    (s.mode ≠ .off →
      ∃ t, exec .stop s = .next t ∧ t.mode = .off ∧
        t.lastChange = some { previous := s.mode, cause := .request } ∧
        (∀ c, (t.cannon c).request = none ∧ (t.cannon c).owed = 0 ∧ (t.cannon c).inFlight = false ∧
          (t.cannon c).holdTimer = (s.cannon c).holdTimer ∧ (t.cannon c).target = (s.cannon c).target ∧
          (t.cannon c).column = (s.cannon c).column ∧ (t.cannon c).row = (s.cannon c).row ∧
          (t.cannon c).bypassSeconds = (s.cannon c).bypassSeconds) ∧
        (∀ g, (t.station g).preempt = []) ∧ s.SameRecords t ∧ t.zones = s.zones ∧ t.requests = rest ∧
        ClosesEarly (.next t)
          { s.replied rest source 6 tag .done [0] with
            mode := .off, lastChange := some { previous := s.mode, cause := .request }
            notices := s.notices.place (.dispatchMode .off s.mode .request) s.stamp
            cannons := s.cannons.map fun k => { k with request := none, owed := 0 }
            stations := s.stations.map fun g => { g with preempt := [] } }
          ((List.finRange 48).filter fun c => (s.cannon c).inFlight))

/-! ## Requests to one record -/

/-- SET-CANNON-MODE: a cannon above 47 is BAD-INDEX, a mode code above 2 BAD-VALUE, the mode already held DONE without effect, a
cannon in OPENING, SPRAYING, CLOSING, STUCK or BYPASS-OPEN IN-USE; else the mode is written, DONE, and nothing else changes but what
the mode brings. The state follows the table of R67. Leaving AUTOMATIC removes the request, ends its preemption, stops the hold timer
and takes the cannon off the close waiting list. Entering it leaves no request; IDLE from BYPASS-CLOSED takes a confirming CLOSE where
it needs one, and in a mode other than OFF the close of a mapped cannon from RETIRED arises, admitted by the tests of R89 or left
waiting (R67, R89, R101, R114, R177). That the cannon is judged before the mode code is the model's choice (log entry 31). -/
def Obligations.SetCannonModeTakesState : Prop :=
  ∀ (s : State) (source tag cb mb : Byte) (rest : List MgmtRequest), s.saving = none →
    s.Takes source [7, tag, cb, mb] rest →
    (47 < cb.toNat →
      exec .setCannonMode s = .next (transmitBoth (s.replied rest source 7 tag .badIndex []))) ∧
    (cb.toNat ≤ 47 → 2 < mb.toNat →
      exec .setCannonMode s = .next (transmitBoth (s.replied rest source 7 tag .badValue []))) ∧
    (∀ (c : CannonId) (m : CannonMode), c.val = cb.toNat → m.code = mb.toNat →
      let k := (s.cannon c).state
      ((s.cannonEntry c).mode = m →
        exec .setCannonMode s = .next (transmitBoth (s.replied rest source 7 tag .done []))) ∧
      ((s.cannonEntry c).mode ≠ m →
        (k = .opening ∨ k = .spraying ∨ k = .closing ∨ k = .stuck ∨ k = .bypassOpen) →
        exec .setCannonMode s = .next (transmitBoth (s.replied rest source 7 tag .inUse []))) ∧
      ((s.cannonEntry c).mode ≠ m →
        ¬ (k = .opening ∨ k = .spraying ∨ k = .closing ∨ k = .stuck ∨ k = .bypassOpen) →
        let next := match m with
          | .automatic => if k = .bypassClosed then CannonState.idle else .unknown
          | .bypass => .bypassClosed
          | .outOfService => .retired
        ∃ t, exec .setCannonMode s = .next t ∧
          t.cfg = { s.cfg with cannons := updAt s.cfg.cannons c fun e => { e with mode := m } } ∧
          ((t.cannon c).state = next ∨
            (next = .unknown ∧ s.mode ≠ .off ∧ s.wired c ∧ (t.cannon c).state = .closing)) ∧
          ((s.cannonEntry c).mode = .automatic ∨ m = .automatic →
            (t.cannon c).request = none ∧ (t.cannon c).owed = 0) ∧
          ((s.cannonEntry c).mode = .automatic → (t.cannon c).holdTimer = none) ∧
          (t.cannon c).target = (s.cannon c).target ∧ (t.cannon c).column = (s.cannon c).column ∧
          (t.cannon c).row = (s.cannon c).row ∧ t.zones = s.zones ∧ t.mode = s.mode ∧ t.masts = s.masts ∧
          t.requests = rest ∧
          t = transmitBoth
            (State.modeTaken { s.replied rest source 7 tag .done [] with
              cfg := { s.cfg with cannons := updAt s.cfg.cannons c fun e => { e with mode := m } } }
              c (s.cannonEntry c).mode m)))

/-- CLEAR-FAULT takes a cannon from FAULT to IDLE with its confirming CLOSE, is refused IN-USE in CLOSING and STUCK, and changes
nothing elsewhere; CLEAR-FLAGS clears the flags named and replies with those still set; CLEAR-MACHINE makes a record ABSENT
and lowers the count of the zone it was counted in (R114, R117, R141, R162). That CLEAR-FLAGS judges the port before the flags is
the model's choice (log entry 31). -/
def Obligations.ClearsOfFaultFlagsMachine : Prop :=
  ∀ (s : State) (source tag : Byte) (rest : List MgmtRequest),
    (∀ c : CannonId, s.Takes source [8, tag, byte c.val] rest →
      ((s.cannon c).state = .fault →
        exec .clearFault s = .next (transmitBoth
          { s.replied rest source 8 tag .done [] with
            cannons := updAt s.cannons c fun k => { k with state := .idle }
            commands := if (s.cannon c).openMark ∧ s.hasCommand c = false then
                s.commands ++ [{ cannon := c, verb := .closeValve }]
              else s.commands })) ∧
      ((s.cannon c).state = .closing ∨ (s.cannon c).state = .stuck →
        exec .clearFault s = .next (transmitBoth (s.replied rest source 8 tag .inUse []))) ∧
      (¬ ((s.cannon c).state = .fault ∨ (s.cannon c).state = .closing ∨ (s.cannon c).state = .stuck) →
        exec .clearFault s = .next (transmitBoth (s.replied rest source 8 tag .done [])))) ∧
    (∀ b : Byte, 47 < b.toNat → s.Takes source [8, tag, b] rest →
      exec .clearFault s = .next (transmitBoth (s.replied rest source 8 tag .badIndex []))) ∧
    (∀ (p : Port) (pb named : Byte), pb = (match p with | .control => 0 | .field => 1) →
      s.Takes source [9, tag, pb, named] rest →
      (15 < named.toNat →
        exec .clearFlags s = .next (transmitBoth (s.replied rest source 9 tag .badValue []))) ∧
      (named.toNat ≤ 15 →
        let left : PortFlags :=
          { check := (s.port p).flags.check && !named.getLsbD 0, length := (s.port p).flags.length && !named.getLsbD 1
            header := (s.port p).flags.header && !named.getLsbD 2
            overrun := (s.port p).flags.overrun && !named.getLsbD 3 }
        exec .clearFlags s = .next (transmitBoth
          ((s.replied rest source 9 tag .done [byte left.code]).updPort p fun x => { x with flags := left })))) ∧
    (∀ pb named : Byte, 1 < pb.toNat → s.Takes source [9, tag, pb, named] rest →
      exec .clearFlags s = .next (transmitBoth (s.replied rest source 9 tag .badIndex []))) ∧
    (∀ m : MachineId, s.Takes source [10, tag, byte m.val] rest →
      ∃ u, exec .clearMachine s = .next (transmitBoth u) ∧
        u = { s.replied rest source 10 tag .done [] with
          machines := u.machines, machineCounts := u.machineCounts } ∧
        u.machine m =
          (if (s.machine m).presence = .absent then s.machine m
           else { s.machine m with presence := .absent, timer := none }) ∧
        (∀ n, n ≠ m → u.machine n = s.machine n) ∧
        ∀ z, u.machineCount z = s.machineCount z - if (s.machine m).countedIn z then 1 else 0) ∧
    (∀ b : Byte, 7 < b.toNat → s.Takes source [10, tag, b] rest →
      exec .clearMachine s = .next (transmitBoth (s.replied rest source 10 tag .badIndex [])))

/-- RESTART sets every block's dynamic state to its value for RESTART, starts the timers, clears the error flags and replies
DONE; the tables, the ring, the clock, the links, the buffers, the sendings and the management queues are kept (R39, R65,
R66, R69, R85, R92, R122, R150, R186). The BYPASS open seconds of 0 are the model's choice (log entry 22), and so is a cannon's
station, its entry's (log entry 23). -/
def Obligations.RestartResetsDynamicState : Prop :=
  ∀ (s : State) (source tag : Byte) (rest : List MgmtRequest), s.saving = none → s.Takes source [12, tag] rest →
    ∃ u, exec .restart s = .next (transmitBoth u) ∧
      u = { s.replied rest source 12 tag .done [] with
        masts := u.masts, dusts := u.dusts, probes := u.probes, zones := u.zones, cannons := u.cannons
        stations := u.stations, sources := u.sources, machines := u.machines, machineCounts := u.machineCounts
        mode := .off, lastChange := none, commands := []
        controlPort := { s.controlPort with flags := PortFlags.clear }
        fieldPort := { s.fieldPort with flags := PortFlags.clear } } ∧
      (∀ m, u.mast m = Mast.initial) ∧ (∀ d, u.dust d = Dust.initial) ∧ (∀ z, u.probe z = Probe.initial) ∧
      (∀ m, u.machine m = MachineRecord.initial) ∧ (∀ z, u.machineCount z = 0) ∧
      (∀ z, u.zone z =
        { Zone.initial (s.zoneEntry z) with
          timer := if (s.zoneEntry z).enabled then
              some { remaining := s.settings.evalPeriod, period := s.settings.evalPeriod }
            else none }) ∧
      (∀ c, u.cannon c = Cannon.initial (s.cannonEntry c).mode.resetState (s.cannonEntry c).station
        { zone := (s.coverage c 0).zone, efficiency := (s.coverage c 0).efficiency, pattern := (s.coverage c 0).pattern }) ∧
      (∀ g, u.station g = { Station.initial with slotTimer := some (s.stationEntry g).slotLength }) ∧
      (∀ w, u.source w = Source.initial (s.mapped (.quality w)))

/-! ## Computations -/

/-- The erosion term of R48 and the dust bonus of R50, with every consequence those rules draw. -/
def Obligations.RiskTermsFollowTheirFormulas : Prop :=
  (∀ wp ut : Nat, wp ≤ 600 → 10 ≤ ut → ut ≤ 400 →
    let e := max 0 ((wp : Int) - ut)
    (erosion wp ut : Int) = min 1000 (e * wp / 64) ∧ e * wp ≤ 354000 ∧ (wp ≤ ut → erosion wp ut = 0) ∧
    (64000 ≤ e * wp → erosion wp ut = 1000)) ∧
  erosion 310 100 = 1000 ∧
  (∀ (s : State) (e : ZoneEntry),
    (∀ d, e.dust = some d → (s.dust d).fresh → s.settings.alertLevels[d] ≤ (s.dust d).acc / 4 →
      s.dustBonus e =
        min 250 (((s.dust d).acc / 4 - s.settings.alertLevels[d]) * 250 / s.settings.alertLevels[d])) ∧
    (e.dust = none → s.dustBonus e = 0) ∧ (∀ d, e.dust = some d → (s.dust d).fresh = false → s.dustBonus e = 0) ∧
    (∀ d, e.dust = some d → (s.dust d).acc / 4 < s.settings.alertLevels[d] → s.dustBonus e = 0) ∧
    (∀ d, e.dust = some d → (s.dust d).acc / 4 = s.settings.alertLevels[d] → s.dustBonus e = 0) ∧
    (∀ d, e.dust = some d → (s.dust d).fresh → 1 ≤ s.settings.alertLevels[d] →
      2 * s.settings.alertLevels[d] ≤ (s.dust d).acc / 4 → s.dustBonus e = 250) ∧
    (∀ masts ring, State.dustBonus { s with masts := masts, ring := ring } e = s.dustBonus e)) ∧
  (∀ (s : State) (z : ZoneId) (sector : Sector) (m : Nat), s.profileOf z = Profile.default →
    s.dustBonus (s.zoneEntry z) = 250 →
    (s.profileOf z).decideBand (s.riskOf z 0 sector m) .calm = .act ∨
    (s.profileOf z).decideBand (s.riskOf z 0 sector m) .calm = .severe)

/-- A candidate that passes the count, flow and water tests is granted: OPENING, its burst record, the commitment, its OPEN at
the tail of the queue, the in-use figures, the pointer, and the request and owed count, a FIRE request's preemption ended. An
AUTO candidate that fails is owed one more, up to 2; a FIRE candidate that has water but not the room preempts the burst of
lowest priority, and of highest cannon number among equals, that may be closed, unless it is preempting or can never fit; a
denial changes nothing else. The source is the first of the station's preferences that passes R128, and an AUTO burst's duration
is the slot length times its duty (R94, R95, R96, R97, R98, R99, R100, R101, R128). That the pair joins the tail of the preemption
list is the model's choice (log entry 34). -/
def Obligations.GrantTakesPlaceAndCommits : Prop :=
  (∀ (s : State) (g : StationId) (cls : BurstClass) (priority planned : Nat) (w : SourceId),
    chooseSource g cls priority planned s = some w ↔
      ∃ before after, (s.stationEntry g).prefs = before ++ w :: after ∧
        SourcePasses (s.sourceEntry w) (s.source w) cls priority planned (s.source w).committed ∧
        ∀ v ∈ before, ¬ SourcePasses (s.sourceEntry v) (s.source v) cls priority planned (s.source v).committed) ∧
  (∀ (s : State) (g : StationId),
    (∀ p z, s.durationOf g (.auto p z) =
      let f := s.profileOf z
      let band := (s.zone z).band
      let duty := if p = 1 then f.dutyWatch
        else if band = .act ∨ (band ≠ .severe ∧ p = 2) then f.dutyAct
        else f.dutySevere
      max 1 ((s.stationEntry g).slotLength * duty / 16)) ∧
    ∀ p d az el, s.durationOf g (.manual p d az el) = d ∧ s.durationOf g (.fire p d az el) = d) ∧
  ∀ (s : State) (g : StationId) (c : CannonId) (r : CannonRequest), s.stationOf c = g → (s.cannon c).request = some r →
    let e := s.cannonEntry c
    let planned := e.flow * s.durationOf g r / 60
    let room := s.arbiterCount g < (s.stationEntry g).limit ∧ s.arbiterFlow g + e.flow ≤ (s.stationEntry g).maxFlow
    let water := chooseSource g r.cls r.priority planned s
    let t := arbitrate g c s
    (∀ w, room → water = some w →
      (t.cannon c).state = .opening ∧
      (∃ b, (t.cannon c).burst = some b ∧ b.cls = r.cls ∧ b.grantClass = r.cls ∧ b.priority = r.priority ∧
        b.source = w ∧ b.planned = planned ∧ b.duration = s.durationOf g r ∧
        b.efficiency = (s.cannon c).target.efficiency ∧ b.openSent = false ∧ b.counting = false ∧ b.openSeconds = 0 ∧
        (∀ p z, r = .auto p z → b.credited = some z) ∧
        (r.cls ≠ .auto → b.credited = (s.cannon c).target.zone) ∧
        (∀ p d az el, r = .manual p d az el ∨ r = .fire p d az el → b.azimuth = az ∧ b.elevation = el)) ∧
      (r.cls = .auto → (t.cannon c).request = some r ∧ (t.cannon c).owed = (s.cannon c).owed - 1) ∧
      (r.cls ≠ .auto → (t.cannon c).request = none ∧ (t.cannon c).owed = 0) ∧
      (∀ h, (t.station h).preempt =
        if r.cls = .fire then (s.station h).preempt.filter fun p => p.1 ≠ c else (s.station h).preempt) ∧
      (t.source w).committed = (s.source w).committed + planned ∧ (∀ v, v ≠ w → t.source v = s.source v) ∧
      t.commands = s.commands ++ [{ cannon := c, verb := .openValve }] ∧
      (t.station g).inUse = (s.station g).inUse + 1 ∧ (t.station g).inUseFlow = (s.station g).inUseFlow + e.flow ∧
      (t.station g).pointer.val = (c.val + 1) % 48 ∧ (∀ d, d ≠ c → t.cannon d = s.cannon d) ∧ t.zones = s.zones ∧
      t.mode = s.mode ∧ t.notices = s.notices ∧ s.SameRecords t) ∧
    (r.cls = .auto → (¬ room ∨ water = none) →
      t = { s with cannons := updAt s.cannons c fun k => { k with owed := min 2 (k.owed + 1) } }) ∧
    (r.cls = .manual → (¬ room ∨ water = none) → t = s) ∧
    (r.cls = .fire → water = none → t = s) ∧
    (r.cls = .fire → ¬ room → water ≠ none →
      let preempting := (∃ h, ∃ p ∈ (s.station h).preempt, p.1 = c) ∨ (s.stationEntry g).maxFlow < e.flow
      let closable := fun (v : CannonId) (b : Burst) =>
        s.stationOf v = g ∧ (s.cannon v).burst = some b ∧ b.cls ≠ .fire ∧
        ((s.cannon v).state = .spraying ∨ ((s.cannon v).state = .opening ∧ s.openQueued v = false))
      (preempting ∨ (∀ v b, ¬ closable v b) → t = s) ∧
      ∀ v b, ¬ preempting → closable v b →
        (∀ v' b', closable v' b' → b.priority < b'.priority ∨ (b.priority = b'.priority ∧ v' ≤ v)) →
        t = { s.shut v false with
          stations := updAt s.stations g fun x => { x with preempt := x.preempt ++ [(c, v)] } })

/-- The settings of R118, R136 and R147: their ranges, with any other value refused BAD-VALUE; their defaults from reset release
until the load ends, for every step that enters the load and every step within it, and after a load that finds the store
invalid; kept by RESTART; and the timers they start, a machine's for a frame of any zone or none. -/
def Obligations.TimerSettingsRangesAndDefaults : Prop :=
  (∀ (l : List Byte) (s : State),
    ¬ (1 ≤ u8 l 36 ∧ u8 l 36 ≤ 10 ∧ 5 ≤ u8 l 37 ∧ u8 l 37 ≤ 60 ∧ 60 ≤ u16 l 38 ∧ u16 l 38 ≤ 3600 ∧ 10 ≤ u16 l 40 ∧
      u16 l 40 ≤ 600) → writeSettingsEntry 0 l s = .error .badValue) ∧
  (∀ (l : List Byte) (s t : State), writeSettingsEntry 0 l s = .ok t →
    t.settings.ackTime = u8 l 36 ∧ t.settings.stuckRetry = u8 l 37 ∧ t.settings.qualityStale = u16 l 38 ∧
    t.settings.machineStale = u16 l 40) ∧
  (∀ (straps : BitVec 4) (store : Store),
    let d := (State.afterRelease straps store).settings
    d.ackTime = 3 ∧ d.stuckRetry = 10 ∧ d.qualityStale = 600 ∧ d.machineStale = 60) ∧
  (∀ s t : State, s.phase ≠ .loading → step s = .next t → t.phase = .loading →
    t.settings.ackTime = 3 ∧ t.settings.stuckRetry = 10 ∧ t.settings.qualityStale = 600 ∧ t.settings.machineStale = 60) ∧
  (∀ s t : State, s.phase = .loading → step s = .next t → t.phase = .loading → t.settings = s.settings) ∧
  (∀ s : State, s.store.fault ≠ none → (endLoad s).settings = s.settings) ∧
  (∀ (straps : BitVec 4) (store : Store), store.fault ≠ none →
    let d := (endLoad (State.afterRelease straps store)).settings
    d.ackTime = 3 ∧ d.stuckRetry = 10 ∧ d.qualityStale = 600 ∧ d.machineStale = 60) ∧
  (∀ s : State, (restartPart s).settings = s.settings) ∧
  (∀ (s : State) (c : CannonId),
    ((commandSent { cannon := c, verb := .openValve } s).cannon c).ackTimer = some s.settings.ackTime) ∧
  (∀ (s : State) (c : CannonId), (s.cannon c).state = .stuck →
    ((ackExpiry c s).cannon c).ackTimer = some s.settings.stuckRetry) ∧
  (∀ (s : State) (c : CannonId), (s.cannon c).state = .closing →
    ((commandSent { cannon := c, verb := .closeValve } s).cannon c).ackTimer = some s.settings.ackTime ∧
    ((becomeStuck c { s with stations := s.stations.map fun g => { g with preempt := [] } }).cannon c).ackTimer =
      some s.settings.stuckRetry) ∧
  (∀ (s : State) (w : SourceId) (v : Nat),
    ((turbidityRecord w v s).source w).timer = some s.settings.qualityStale ∧
    ((conductivityRecord w v s).source w).timer = some s.settings.qualityStale) ∧
  (∀ (s : State) (m : MachineId) (k : MachineKind) (a : Activity) (z : Option ZoneId),
    ((machineFrame m k a z s).machine m).timer = some s.settings.machineStale)

/-! ## Decode and encode agree -/

/-- Every entry of the ten tables is written out with each field at its place, in its width and with its code as R195 lays them out,
and one in range, read back, is the entry: no field of a layout is dropped or misplaced. The bytes in the ranges that the tables'
rules give, each field at its place, are those of an entry in range, and of role NONE with any index (R2, R3, R20, R36, R38, R41, R60,
R63, R68, R78, R84, R102, R118, R120, R136, R147, R163, R167, R195). -/
def Obligations.TableEntriesRoundTrip : Prop :=
  (∀ e : NodeRole, e.bytes = e.laidOut ∧ readNodeRole e.bytes = some e) ∧
  (∀ e : ZoneEntry, e.bytes = e.laidOut ∧ (e.ok = true → readZoneEntry e.bytes = some e)) ∧
  (∀ e : Profile, e.bytes = e.laidOut ∧ (e.ok = true → readProfile e.bytes = some e)) ∧
  (∀ e : CannonEntry, e.bytes = e.laidOut ∧ (e.ok = true → readCannonEntry e.bytes = some e)) ∧
  (∀ e : Coverage, e.bytes = e.laidOut ∧ (e.ok = true → readCoverage e.bytes = some e)) ∧
  (∀ e : Pattern, e.bytes = e.laidOut ∧ (e.ok = true → readPattern e.bytes = some e)) ∧
  (∀ e : StationEntry, e.bytes = e.laidOut ∧ (e.ok = true → readStationEntry e.bytes = some e)) ∧
  (∀ e : SourceEntry, e.bytes = e.laidOut ∧ (e.ok = true → readSourceEntry e.bytes = some e)) ∧
  (∀ e : Window, e.bytes = e.laidOut ∧ readWindow e.bytes = some e) ∧
  (∀ e : Settings, e.bytes = e.laidOut ∧ (e.ok = true → readSettings e.bytes = some e)) ∧
  (∀ x : Byte, readNodeRole [0, x] = some .none) ∧
  ∀ b : List Byte,
    (b.length = 2 → (entryInRange 1 b ↔ b.head? = some 0 ∨ ∃ e : NodeRole, e.laidOut = b)) ∧
    (b.length = 15 → (entryInRange 2 b ↔ ∃ e : ZoneEntry, e.ok = true ∧ e.laidOut = b)) ∧
    (b.length = 10 → (entryInRange 3 b ↔ ∃ e : Profile, e.ok = true ∧ e.laidOut = b)) ∧
    (b.length = 10 → (entryInRange 4 b ↔ ∃ e : CannonEntry, e.ok = true ∧ e.laidOut = b)) ∧
    (b.length = 5 → (entryInRange 5 b ↔ ∃ e : Coverage, e.ok = true ∧ e.laidOut = b)) ∧
    (b.length = 7 → (entryInRange 6 b ↔ ∃ e : Pattern, e.ok = true ∧ e.laidOut = b)) ∧
    (b.length = 9 → (entryInRange 7 b ↔ ∃ e : StationEntry, e.ok = true ∧ e.laidOut = b)) ∧
    (b.length = 26 → (entryInRange 8 b ↔ ∃ e : SourceEntry, e.ok = true ∧ e.laidOut = b)) ∧
    (b.length = 3 → (entryInRange 9 b ↔ ∃ e : Window, e.laidOut = b)) ∧
    (b.length = 44 → (entryInRange 10 b ↔ ∃ e : Settings, e.ok = true ∧ e.laidOut = b))

/-! ## Laws that every step keeps -/

/-- After every step no capacity event is left due, and while the part operates no transmitter stands idle while one of its
sources waits (R90, R158). -/
def Obligations.StepKeepsTransmittersBusy : Prop := ∀ s t : State, s.Rested → step s = .next t → t.Rested

/-- The queues keep their sizes, no two queued notices share kind and subject, and the store is invalid while a SAVE runs
(R150, R179, R185, R188). -/
def Obligations.StepKeepsQueueSizes : Prop :=
  ∀ s t : State, s.QueuesFit ∧ s.NoticesDiffer ∧ s.StoreHeld → step s = .next t →
    t.QueuesFit ∧ t.NoticesDiffer ∧ t.StoreHeld

/-- The clock keeps its ranges, and day 0 and second 0 while UNSET (R23, R24, R25). -/
def Obligations.StepKeepsClockRanges : Prop := ∀ s t : State, s.ClockFits → step s = .next t → t.ClockFits

/-- With a configuration in range, which every step keeps, every zone's risk and band satisfy the law of R53. -/
def Obligations.StepKeepsBandLaw : Prop :=
  ∀ s t : State, s.cfg.ok = true ∧ s.BandsHeld → step s = .next t → t.cfg.ok = true ∧ t.BandsHeld

/-- With a configuration in range, every cannon's sweep column and row lie below its pattern's counts; and every owed count is
0, 1 or 2, and 0 without an AUTO request (R73, R78). -/
def Obligations.StepKeepsAimsAndOwedCounts : Prop :=
  (∀ s t : State, s.cfg.ok = true ∧ s.AimsFit → step s = .next t → t.cfg.ok = true ∧ t.AimsFit) ∧
  (∀ s t : State, s.OwedHeld → step s = .next t → t.OwedHeld)

/-- Every zone's machine count is the number of PRESENT and STALE records that hold it (R142). -/
def Obligations.StepKeepsMachineCounts : Prop := ∀ s t : State, s.CountsHeld → step s = .next t → t.CountsHeld

/-- Each cannon's mode, burst and timers agree with its state, each close waiting list holds its own cannons once each, an OPEN is
queued for a cannon in OPENING alone, and at each station the cannons in OPENING, SPRAYING, CLOSING or STUCK are those the
in-use figures count, within its limits (R66, R88, R89, R104). -/
def Obligations.StepKeepsPlaces : Prop :=
  ∀ s t : State, s.CannonsAgree ∧ s.WaitingHeld ∧ s.PlacesHeld ∧ s.CommandsHeld → step s = .next t →
    t.CannonsAgree ∧ t.WaitingHeld ∧ t.PlacesHeld ∧ t.CommandsHeld

/-- Each source's committed total is the sum of the planned draws of the bursts granted from it (R130). -/
def Obligations.StepKeepsCommitments : Prop :=
  ∀ s t : State, s.CannonsAgree ∧ s.WaitingHeld ∧ s.CommitmentsHeld → step s = .next t → t.CommitmentsHeld

/-- The command queue holds one command for a cannon at most, and a CLOSE stands between any two OPENs of a cannon as the
open-sent mark carries it (R104, R114). -/
def Obligations.StepKeepsClosesBetweenOpens : Prop :=
  ∀ s t : State, s.CannonsAgree ∧ s.WaitingHeld ∧ s.CommandsHeld ∧ s.ClosesBetween → step s = .next t →
    t.CommandsHeld ∧ t.ClosesBetween

/-- No cannon is in OPENING or SPRAYING with a credited zone that is excluded, unless its burst is FIRE (R143). -/
def Obligations.StepKeepsExclusionLaw : Prop := ∀ s t : State, s.ExclusionHeld → step s = .next t → t.ExclusionHeld

/-- In HALT and WATCH no burst but FIRE is in flight; in OFF none is and no cannon holds a request (R58, R172, R174). -/
def Obligations.StepKeepsModeLaw : Prop := ∀ s t : State, s.ModeHeld → step s = .next t → t.ModeHeld
end

