-- ==== Sys2Proof/Laws/State.lean ====
section
/-! SUPPORT. One lemma for each field of the state under each record update, each true by `rfl`, so that no proof unfolds
an update; then the same for the accessors of records. -/

namespace Sys2Proof.Machine

variable (s : State)

/-! ## updMast -/

@[simp] theorem State.updMast_phase (m : MastId) (f : Mast → Mast) : (s.updMast m f).phase = s.phase := rfl
@[simp] theorem State.updMast_straps (m : MastId) (f : Mast → Mast) : (s.updMast m f).straps = s.straps := rfl
@[simp] theorem State.updMast_cfg (m : MastId) (f : Mast → Mast) : (s.updMast m f).cfg = s.cfg := rfl
@[simp] theorem State.updMast_masts (m : MastId) (f : Mast → Mast) : (s.updMast m f).masts = updAt s.masts m f := rfl
@[simp] theorem State.updMast_dusts (m : MastId) (f : Mast → Mast) : (s.updMast m f).dusts = s.dusts := rfl
@[simp] theorem State.updMast_probes (m : MastId) (f : Mast → Mast) : (s.updMast m f).probes = s.probes := rfl
@[simp] theorem State.updMast_clock (m : MastId) (f : Mast → Mast) : (s.updMast m f).clock = s.clock := rfl
@[simp] theorem State.updMast_ring (m : MastId) (f : Mast → Mast) : (s.updMast m f).ring = s.ring := rfl
@[simp] theorem State.updMast_zones (m : MastId) (f : Mast → Mast) : (s.updMast m f).zones = s.zones := rfl
@[simp] theorem State.updMast_cannons (m : MastId) (f : Mast → Mast) : (s.updMast m f).cannons = s.cannons := rfl
@[simp] theorem State.updMast_stations (m : MastId) (f : Mast → Mast) : (s.updMast m f).stations = s.stations := rfl
@[simp] theorem State.updMast_sources (m : MastId) (f : Mast → Mast) : (s.updMast m f).sources = s.sources := rfl
@[simp] theorem State.updMast_machines (m : MastId) (f : Mast → Mast) : (s.updMast m f).machines = s.machines := rfl
@[simp] theorem State.updMast_machineCounts (m : MastId) (f : Mast → Mast) : (s.updMast m f).machineCounts = s.machineCounts := rfl
@[simp] theorem State.updMast_mode (m : MastId) (f : Mast → Mast) : (s.updMast m f).mode = s.mode := rfl
@[simp] theorem State.updMast_lastChange (m : MastId) (f : Mast → Mast) : (s.updMast m f).lastChange = s.lastChange := rfl
@[simp] theorem State.updMast_commands (m : MastId) (f : Mast → Mast) : (s.updMast m f).commands = s.commands := rfl
@[simp] theorem State.updMast_controlPort (m : MastId) (f : Mast → Mast) : (s.updMast m f).controlPort = s.controlPort := rfl
@[simp] theorem State.updMast_fieldPort (m : MastId) (f : Mast → Mast) : (s.updMast m f).fieldPort = s.fieldPort := rfl
@[simp] theorem State.updMast_requests (m : MastId) (f : Mast → Mast) : (s.updMast m f).requests = s.requests := rfl
@[simp] theorem State.updMast_replies (m : MastId) (f : Mast → Mast) : (s.updMast m f).replies = s.replies := rfl
@[simp] theorem State.updMast_notices (m : MastId) (f : Mast → Mast) : (s.updMast m f).notices = s.notices := rfl
@[simp] theorem State.updMast_store (m : MastId) (f : Mast → Mast) : (s.updMast m f).store = s.store := rfl
@[simp] theorem State.updMast_saving (m : MastId) (f : Mast → Mast) : (s.updMast m f).saving = s.saving := rfl
@[simp] theorem State.updMast_storeFound (m : MastId) (f : Mast → Mast) : (s.updMast m f).storeFound = s.storeFound := rfl
@[simp] theorem State.updMast_dueCapacity (m : MastId) (f : Mast → Mast) : (s.updMast m f).dueCapacity = s.dueCapacity := rfl
@[simp] theorem State.updMast_choices (m : MastId) (f : Mast → Mast) : (s.updMast m f).choices = s.choices := rfl
@[simp] theorem State.updMast_choiceCount (m : MastId) (f : Mast → Mast) : (s.updMast m f).choiceCount = s.choiceCount := rfl
@[simp] theorem State.updMast_pending (m : MastId) (f : Mast → Mast) : (s.updMast m f).pending = s.pending := rfl

/-! ## updDust -/

@[simp] theorem State.updDust_phase (d : DustId) (f : Dust → Dust) : (s.updDust d f).phase = s.phase := rfl
@[simp] theorem State.updDust_straps (d : DustId) (f : Dust → Dust) : (s.updDust d f).straps = s.straps := rfl
@[simp] theorem State.updDust_cfg (d : DustId) (f : Dust → Dust) : (s.updDust d f).cfg = s.cfg := rfl
@[simp] theorem State.updDust_masts (d : DustId) (f : Dust → Dust) : (s.updDust d f).masts = s.masts := rfl
@[simp] theorem State.updDust_dusts (d : DustId) (f : Dust → Dust) : (s.updDust d f).dusts = updAt s.dusts d f := rfl
@[simp] theorem State.updDust_probes (d : DustId) (f : Dust → Dust) : (s.updDust d f).probes = s.probes := rfl
@[simp] theorem State.updDust_clock (d : DustId) (f : Dust → Dust) : (s.updDust d f).clock = s.clock := rfl
@[simp] theorem State.updDust_ring (d : DustId) (f : Dust → Dust) : (s.updDust d f).ring = s.ring := rfl
@[simp] theorem State.updDust_zones (d : DustId) (f : Dust → Dust) : (s.updDust d f).zones = s.zones := rfl
@[simp] theorem State.updDust_cannons (d : DustId) (f : Dust → Dust) : (s.updDust d f).cannons = s.cannons := rfl
@[simp] theorem State.updDust_stations (d : DustId) (f : Dust → Dust) : (s.updDust d f).stations = s.stations := rfl
@[simp] theorem State.updDust_sources (d : DustId) (f : Dust → Dust) : (s.updDust d f).sources = s.sources := rfl
@[simp] theorem State.updDust_machines (d : DustId) (f : Dust → Dust) : (s.updDust d f).machines = s.machines := rfl
@[simp] theorem State.updDust_machineCounts (d : DustId) (f : Dust → Dust) : (s.updDust d f).machineCounts = s.machineCounts := rfl
@[simp] theorem State.updDust_mode (d : DustId) (f : Dust → Dust) : (s.updDust d f).mode = s.mode := rfl
@[simp] theorem State.updDust_lastChange (d : DustId) (f : Dust → Dust) : (s.updDust d f).lastChange = s.lastChange := rfl
@[simp] theorem State.updDust_commands (d : DustId) (f : Dust → Dust) : (s.updDust d f).commands = s.commands := rfl
@[simp] theorem State.updDust_controlPort (d : DustId) (f : Dust → Dust) : (s.updDust d f).controlPort = s.controlPort := rfl
@[simp] theorem State.updDust_fieldPort (d : DustId) (f : Dust → Dust) : (s.updDust d f).fieldPort = s.fieldPort := rfl
@[simp] theorem State.updDust_requests (d : DustId) (f : Dust → Dust) : (s.updDust d f).requests = s.requests := rfl
@[simp] theorem State.updDust_replies (d : DustId) (f : Dust → Dust) : (s.updDust d f).replies = s.replies := rfl
@[simp] theorem State.updDust_notices (d : DustId) (f : Dust → Dust) : (s.updDust d f).notices = s.notices := rfl
@[simp] theorem State.updDust_store (d : DustId) (f : Dust → Dust) : (s.updDust d f).store = s.store := rfl
@[simp] theorem State.updDust_saving (d : DustId) (f : Dust → Dust) : (s.updDust d f).saving = s.saving := rfl
@[simp] theorem State.updDust_storeFound (d : DustId) (f : Dust → Dust) : (s.updDust d f).storeFound = s.storeFound := rfl
@[simp] theorem State.updDust_dueCapacity (d : DustId) (f : Dust → Dust) : (s.updDust d f).dueCapacity = s.dueCapacity := rfl
@[simp] theorem State.updDust_choices (d : DustId) (f : Dust → Dust) : (s.updDust d f).choices = s.choices := rfl
@[simp] theorem State.updDust_choiceCount (d : DustId) (f : Dust → Dust) : (s.updDust d f).choiceCount = s.choiceCount := rfl
@[simp] theorem State.updDust_pending (d : DustId) (f : Dust → Dust) : (s.updDust d f).pending = s.pending := rfl

/-! ## updProbe -/

@[simp] theorem State.updProbe_phase (z : ZoneId) (f : Probe → Probe) : (s.updProbe z f).phase = s.phase := rfl
@[simp] theorem State.updProbe_straps (z : ZoneId) (f : Probe → Probe) : (s.updProbe z f).straps = s.straps := rfl
@[simp] theorem State.updProbe_cfg (z : ZoneId) (f : Probe → Probe) : (s.updProbe z f).cfg = s.cfg := rfl
@[simp] theorem State.updProbe_masts (z : ZoneId) (f : Probe → Probe) : (s.updProbe z f).masts = s.masts := rfl
@[simp] theorem State.updProbe_dusts (z : ZoneId) (f : Probe → Probe) : (s.updProbe z f).dusts = s.dusts := rfl
@[simp] theorem State.updProbe_probes (z : ZoneId) (f : Probe → Probe) : (s.updProbe z f).probes = updAt s.probes z f := rfl
@[simp] theorem State.updProbe_clock (z : ZoneId) (f : Probe → Probe) : (s.updProbe z f).clock = s.clock := rfl
@[simp] theorem State.updProbe_ring (z : ZoneId) (f : Probe → Probe) : (s.updProbe z f).ring = s.ring := rfl
@[simp] theorem State.updProbe_zones (z : ZoneId) (f : Probe → Probe) : (s.updProbe z f).zones = s.zones := rfl
@[simp] theorem State.updProbe_cannons (z : ZoneId) (f : Probe → Probe) : (s.updProbe z f).cannons = s.cannons := rfl
@[simp] theorem State.updProbe_stations (z : ZoneId) (f : Probe → Probe) : (s.updProbe z f).stations = s.stations := rfl
@[simp] theorem State.updProbe_sources (z : ZoneId) (f : Probe → Probe) : (s.updProbe z f).sources = s.sources := rfl
@[simp] theorem State.updProbe_machines (z : ZoneId) (f : Probe → Probe) : (s.updProbe z f).machines = s.machines := rfl
@[simp] theorem State.updProbe_machineCounts (z : ZoneId) (f : Probe → Probe) : (s.updProbe z f).machineCounts = s.machineCounts := rfl
@[simp] theorem State.updProbe_mode (z : ZoneId) (f : Probe → Probe) : (s.updProbe z f).mode = s.mode := rfl
@[simp] theorem State.updProbe_lastChange (z : ZoneId) (f : Probe → Probe) : (s.updProbe z f).lastChange = s.lastChange := rfl
@[simp] theorem State.updProbe_commands (z : ZoneId) (f : Probe → Probe) : (s.updProbe z f).commands = s.commands := rfl
@[simp] theorem State.updProbe_controlPort (z : ZoneId) (f : Probe → Probe) : (s.updProbe z f).controlPort = s.controlPort := rfl
@[simp] theorem State.updProbe_fieldPort (z : ZoneId) (f : Probe → Probe) : (s.updProbe z f).fieldPort = s.fieldPort := rfl
@[simp] theorem State.updProbe_requests (z : ZoneId) (f : Probe → Probe) : (s.updProbe z f).requests = s.requests := rfl
@[simp] theorem State.updProbe_replies (z : ZoneId) (f : Probe → Probe) : (s.updProbe z f).replies = s.replies := rfl
@[simp] theorem State.updProbe_notices (z : ZoneId) (f : Probe → Probe) : (s.updProbe z f).notices = s.notices := rfl
@[simp] theorem State.updProbe_store (z : ZoneId) (f : Probe → Probe) : (s.updProbe z f).store = s.store := rfl
@[simp] theorem State.updProbe_saving (z : ZoneId) (f : Probe → Probe) : (s.updProbe z f).saving = s.saving := rfl
@[simp] theorem State.updProbe_storeFound (z : ZoneId) (f : Probe → Probe) : (s.updProbe z f).storeFound = s.storeFound := rfl
@[simp] theorem State.updProbe_dueCapacity (z : ZoneId) (f : Probe → Probe) : (s.updProbe z f).dueCapacity = s.dueCapacity := rfl
@[simp] theorem State.updProbe_choices (z : ZoneId) (f : Probe → Probe) : (s.updProbe z f).choices = s.choices := rfl
@[simp] theorem State.updProbe_choiceCount (z : ZoneId) (f : Probe → Probe) : (s.updProbe z f).choiceCount = s.choiceCount := rfl
@[simp] theorem State.updProbe_pending (z : ZoneId) (f : Probe → Probe) : (s.updProbe z f).pending = s.pending := rfl

/-! ## updSlot -/

@[simp] theorem State.updSlot_phase (i : Fin 48) (f : ForecastSlot → ForecastSlot) : (s.updSlot i f).phase = s.phase := rfl
@[simp] theorem State.updSlot_straps (i : Fin 48) (f : ForecastSlot → ForecastSlot) : (s.updSlot i f).straps = s.straps := rfl
@[simp] theorem State.updSlot_cfg (i : Fin 48) (f : ForecastSlot → ForecastSlot) : (s.updSlot i f).cfg = s.cfg := rfl
@[simp] theorem State.updSlot_masts (i : Fin 48) (f : ForecastSlot → ForecastSlot) : (s.updSlot i f).masts = s.masts := rfl
@[simp] theorem State.updSlot_dusts (i : Fin 48) (f : ForecastSlot → ForecastSlot) : (s.updSlot i f).dusts = s.dusts := rfl
@[simp] theorem State.updSlot_probes (i : Fin 48) (f : ForecastSlot → ForecastSlot) : (s.updSlot i f).probes = s.probes := rfl
@[simp] theorem State.updSlot_clock (i : Fin 48) (f : ForecastSlot → ForecastSlot) : (s.updSlot i f).clock = s.clock := rfl
@[simp] theorem State.updSlot_ring (i : Fin 48) (f : ForecastSlot → ForecastSlot) : (s.updSlot i f).ring = updAt s.ring i f := rfl
@[simp] theorem State.updSlot_zones (i : Fin 48) (f : ForecastSlot → ForecastSlot) : (s.updSlot i f).zones = s.zones := rfl
@[simp] theorem State.updSlot_cannons (i : Fin 48) (f : ForecastSlot → ForecastSlot) : (s.updSlot i f).cannons = s.cannons := rfl
@[simp] theorem State.updSlot_stations (i : Fin 48) (f : ForecastSlot → ForecastSlot) : (s.updSlot i f).stations = s.stations := rfl
@[simp] theorem State.updSlot_sources (i : Fin 48) (f : ForecastSlot → ForecastSlot) : (s.updSlot i f).sources = s.sources := rfl
@[simp] theorem State.updSlot_machines (i : Fin 48) (f : ForecastSlot → ForecastSlot) : (s.updSlot i f).machines = s.machines := rfl
@[simp] theorem State.updSlot_machineCounts (i : Fin 48) (f : ForecastSlot → ForecastSlot) : (s.updSlot i f).machineCounts = s.machineCounts := rfl
@[simp] theorem State.updSlot_mode (i : Fin 48) (f : ForecastSlot → ForecastSlot) : (s.updSlot i f).mode = s.mode := rfl
@[simp] theorem State.updSlot_lastChange (i : Fin 48) (f : ForecastSlot → ForecastSlot) : (s.updSlot i f).lastChange = s.lastChange := rfl
@[simp] theorem State.updSlot_commands (i : Fin 48) (f : ForecastSlot → ForecastSlot) : (s.updSlot i f).commands = s.commands := rfl
@[simp] theorem State.updSlot_controlPort (i : Fin 48) (f : ForecastSlot → ForecastSlot) : (s.updSlot i f).controlPort = s.controlPort := rfl
@[simp] theorem State.updSlot_fieldPort (i : Fin 48) (f : ForecastSlot → ForecastSlot) : (s.updSlot i f).fieldPort = s.fieldPort := rfl
@[simp] theorem State.updSlot_requests (i : Fin 48) (f : ForecastSlot → ForecastSlot) : (s.updSlot i f).requests = s.requests := rfl
@[simp] theorem State.updSlot_replies (i : Fin 48) (f : ForecastSlot → ForecastSlot) : (s.updSlot i f).replies = s.replies := rfl
@[simp] theorem State.updSlot_notices (i : Fin 48) (f : ForecastSlot → ForecastSlot) : (s.updSlot i f).notices = s.notices := rfl
@[simp] theorem State.updSlot_store (i : Fin 48) (f : ForecastSlot → ForecastSlot) : (s.updSlot i f).store = s.store := rfl
@[simp] theorem State.updSlot_saving (i : Fin 48) (f : ForecastSlot → ForecastSlot) : (s.updSlot i f).saving = s.saving := rfl
@[simp] theorem State.updSlot_storeFound (i : Fin 48) (f : ForecastSlot → ForecastSlot) : (s.updSlot i f).storeFound = s.storeFound := rfl
@[simp] theorem State.updSlot_dueCapacity (i : Fin 48) (f : ForecastSlot → ForecastSlot) : (s.updSlot i f).dueCapacity = s.dueCapacity := rfl
@[simp] theorem State.updSlot_choices (i : Fin 48) (f : ForecastSlot → ForecastSlot) : (s.updSlot i f).choices = s.choices := rfl
@[simp] theorem State.updSlot_choiceCount (i : Fin 48) (f : ForecastSlot → ForecastSlot) : (s.updSlot i f).choiceCount = s.choiceCount := rfl
@[simp] theorem State.updSlot_pending (i : Fin 48) (f : ForecastSlot → ForecastSlot) : (s.updSlot i f).pending = s.pending := rfl

/-! ## updZone -/

@[simp] theorem State.updZone_phase (z : ZoneId) (f : Zone → Zone) : (s.updZone z f).phase = s.phase := rfl
@[simp] theorem State.updZone_straps (z : ZoneId) (f : Zone → Zone) : (s.updZone z f).straps = s.straps := rfl
@[simp] theorem State.updZone_cfg (z : ZoneId) (f : Zone → Zone) : (s.updZone z f).cfg = s.cfg := rfl
@[simp] theorem State.updZone_masts (z : ZoneId) (f : Zone → Zone) : (s.updZone z f).masts = s.masts := rfl
@[simp] theorem State.updZone_dusts (z : ZoneId) (f : Zone → Zone) : (s.updZone z f).dusts = s.dusts := rfl
@[simp] theorem State.updZone_probes (z : ZoneId) (f : Zone → Zone) : (s.updZone z f).probes = s.probes := rfl
@[simp] theorem State.updZone_clock (z : ZoneId) (f : Zone → Zone) : (s.updZone z f).clock = s.clock := rfl
@[simp] theorem State.updZone_ring (z : ZoneId) (f : Zone → Zone) : (s.updZone z f).ring = s.ring := rfl
@[simp] theorem State.updZone_zones (z : ZoneId) (f : Zone → Zone) : (s.updZone z f).zones = updAt s.zones z f := rfl
@[simp] theorem State.updZone_cannons (z : ZoneId) (f : Zone → Zone) : (s.updZone z f).cannons = s.cannons := rfl
@[simp] theorem State.updZone_stations (z : ZoneId) (f : Zone → Zone) : (s.updZone z f).stations = s.stations := rfl
@[simp] theorem State.updZone_sources (z : ZoneId) (f : Zone → Zone) : (s.updZone z f).sources = s.sources := rfl
@[simp] theorem State.updZone_machines (z : ZoneId) (f : Zone → Zone) : (s.updZone z f).machines = s.machines := rfl
@[simp] theorem State.updZone_machineCounts (z : ZoneId) (f : Zone → Zone) : (s.updZone z f).machineCounts = s.machineCounts := rfl
@[simp] theorem State.updZone_mode (z : ZoneId) (f : Zone → Zone) : (s.updZone z f).mode = s.mode := rfl
@[simp] theorem State.updZone_lastChange (z : ZoneId) (f : Zone → Zone) : (s.updZone z f).lastChange = s.lastChange := rfl
@[simp] theorem State.updZone_commands (z : ZoneId) (f : Zone → Zone) : (s.updZone z f).commands = s.commands := rfl
@[simp] theorem State.updZone_controlPort (z : ZoneId) (f : Zone → Zone) : (s.updZone z f).controlPort = s.controlPort := rfl
@[simp] theorem State.updZone_fieldPort (z : ZoneId) (f : Zone → Zone) : (s.updZone z f).fieldPort = s.fieldPort := rfl
@[simp] theorem State.updZone_requests (z : ZoneId) (f : Zone → Zone) : (s.updZone z f).requests = s.requests := rfl
@[simp] theorem State.updZone_replies (z : ZoneId) (f : Zone → Zone) : (s.updZone z f).replies = s.replies := rfl
@[simp] theorem State.updZone_notices (z : ZoneId) (f : Zone → Zone) : (s.updZone z f).notices = s.notices := rfl
@[simp] theorem State.updZone_store (z : ZoneId) (f : Zone → Zone) : (s.updZone z f).store = s.store := rfl
@[simp] theorem State.updZone_saving (z : ZoneId) (f : Zone → Zone) : (s.updZone z f).saving = s.saving := rfl
@[simp] theorem State.updZone_storeFound (z : ZoneId) (f : Zone → Zone) : (s.updZone z f).storeFound = s.storeFound := rfl
@[simp] theorem State.updZone_dueCapacity (z : ZoneId) (f : Zone → Zone) : (s.updZone z f).dueCapacity = s.dueCapacity := rfl
@[simp] theorem State.updZone_choices (z : ZoneId) (f : Zone → Zone) : (s.updZone z f).choices = s.choices := rfl
@[simp] theorem State.updZone_choiceCount (z : ZoneId) (f : Zone → Zone) : (s.updZone z f).choiceCount = s.choiceCount := rfl
@[simp] theorem State.updZone_pending (z : ZoneId) (f : Zone → Zone) : (s.updZone z f).pending = s.pending := rfl

/-! ## updCannon -/

@[simp] theorem State.updCannon_phase (c : CannonId) (f : Cannon → Cannon) : (s.updCannon c f).phase = s.phase := rfl
@[simp] theorem State.updCannon_straps (c : CannonId) (f : Cannon → Cannon) : (s.updCannon c f).straps = s.straps := rfl
@[simp] theorem State.updCannon_cfg (c : CannonId) (f : Cannon → Cannon) : (s.updCannon c f).cfg = s.cfg := rfl
@[simp] theorem State.updCannon_masts (c : CannonId) (f : Cannon → Cannon) : (s.updCannon c f).masts = s.masts := rfl
@[simp] theorem State.updCannon_dusts (c : CannonId) (f : Cannon → Cannon) : (s.updCannon c f).dusts = s.dusts := rfl
@[simp] theorem State.updCannon_probes (c : CannonId) (f : Cannon → Cannon) : (s.updCannon c f).probes = s.probes := rfl
@[simp] theorem State.updCannon_clock (c : CannonId) (f : Cannon → Cannon) : (s.updCannon c f).clock = s.clock := rfl
@[simp] theorem State.updCannon_ring (c : CannonId) (f : Cannon → Cannon) : (s.updCannon c f).ring = s.ring := rfl
@[simp] theorem State.updCannon_zones (c : CannonId) (f : Cannon → Cannon) : (s.updCannon c f).zones = s.zones := rfl
@[simp] theorem State.updCannon_cannons (c : CannonId) (f : Cannon → Cannon) : (s.updCannon c f).cannons = updAt s.cannons c f := rfl
@[simp] theorem State.updCannon_stations (c : CannonId) (f : Cannon → Cannon) : (s.updCannon c f).stations = s.stations := rfl
@[simp] theorem State.updCannon_sources (c : CannonId) (f : Cannon → Cannon) : (s.updCannon c f).sources = s.sources := rfl
@[simp] theorem State.updCannon_machines (c : CannonId) (f : Cannon → Cannon) : (s.updCannon c f).machines = s.machines := rfl
@[simp] theorem State.updCannon_machineCounts (c : CannonId) (f : Cannon → Cannon) : (s.updCannon c f).machineCounts = s.machineCounts := rfl
@[simp] theorem State.updCannon_mode (c : CannonId) (f : Cannon → Cannon) : (s.updCannon c f).mode = s.mode := rfl
@[simp] theorem State.updCannon_lastChange (c : CannonId) (f : Cannon → Cannon) : (s.updCannon c f).lastChange = s.lastChange := rfl
@[simp] theorem State.updCannon_commands (c : CannonId) (f : Cannon → Cannon) : (s.updCannon c f).commands = s.commands := rfl
@[simp] theorem State.updCannon_controlPort (c : CannonId) (f : Cannon → Cannon) : (s.updCannon c f).controlPort = s.controlPort := rfl
@[simp] theorem State.updCannon_fieldPort (c : CannonId) (f : Cannon → Cannon) : (s.updCannon c f).fieldPort = s.fieldPort := rfl
@[simp] theorem State.updCannon_requests (c : CannonId) (f : Cannon → Cannon) : (s.updCannon c f).requests = s.requests := rfl
@[simp] theorem State.updCannon_replies (c : CannonId) (f : Cannon → Cannon) : (s.updCannon c f).replies = s.replies := rfl
@[simp] theorem State.updCannon_notices (c : CannonId) (f : Cannon → Cannon) : (s.updCannon c f).notices = s.notices := rfl
@[simp] theorem State.updCannon_store (c : CannonId) (f : Cannon → Cannon) : (s.updCannon c f).store = s.store := rfl
@[simp] theorem State.updCannon_saving (c : CannonId) (f : Cannon → Cannon) : (s.updCannon c f).saving = s.saving := rfl
@[simp] theorem State.updCannon_storeFound (c : CannonId) (f : Cannon → Cannon) : (s.updCannon c f).storeFound = s.storeFound := rfl
@[simp] theorem State.updCannon_dueCapacity (c : CannonId) (f : Cannon → Cannon) : (s.updCannon c f).dueCapacity = s.dueCapacity := rfl
@[simp] theorem State.updCannon_choices (c : CannonId) (f : Cannon → Cannon) : (s.updCannon c f).choices = s.choices := rfl
@[simp] theorem State.updCannon_choiceCount (c : CannonId) (f : Cannon → Cannon) : (s.updCannon c f).choiceCount = s.choiceCount := rfl
@[simp] theorem State.updCannon_pending (c : CannonId) (f : Cannon → Cannon) : (s.updCannon c f).pending = s.pending := rfl

/-! ## updStation -/

@[simp] theorem State.updStation_phase (g : StationId) (f : Station → Station) : (s.updStation g f).phase = s.phase := rfl
@[simp] theorem State.updStation_straps (g : StationId) (f : Station → Station) : (s.updStation g f).straps = s.straps := rfl
@[simp] theorem State.updStation_cfg (g : StationId) (f : Station → Station) : (s.updStation g f).cfg = s.cfg := rfl
@[simp] theorem State.updStation_masts (g : StationId) (f : Station → Station) : (s.updStation g f).masts = s.masts := rfl
@[simp] theorem State.updStation_dusts (g : StationId) (f : Station → Station) : (s.updStation g f).dusts = s.dusts := rfl
@[simp] theorem State.updStation_probes (g : StationId) (f : Station → Station) : (s.updStation g f).probes = s.probes := rfl
@[simp] theorem State.updStation_clock (g : StationId) (f : Station → Station) : (s.updStation g f).clock = s.clock := rfl
@[simp] theorem State.updStation_ring (g : StationId) (f : Station → Station) : (s.updStation g f).ring = s.ring := rfl
@[simp] theorem State.updStation_zones (g : StationId) (f : Station → Station) : (s.updStation g f).zones = s.zones := rfl
@[simp] theorem State.updStation_cannons (g : StationId) (f : Station → Station) : (s.updStation g f).cannons = s.cannons := rfl
@[simp] theorem State.updStation_stations (g : StationId) (f : Station → Station) : (s.updStation g f).stations = updAt s.stations g f := rfl
@[simp] theorem State.updStation_sources (g : StationId) (f : Station → Station) : (s.updStation g f).sources = s.sources := rfl
@[simp] theorem State.updStation_machines (g : StationId) (f : Station → Station) : (s.updStation g f).machines = s.machines := rfl
@[simp] theorem State.updStation_machineCounts (g : StationId) (f : Station → Station) : (s.updStation g f).machineCounts = s.machineCounts := rfl
@[simp] theorem State.updStation_mode (g : StationId) (f : Station → Station) : (s.updStation g f).mode = s.mode := rfl
@[simp] theorem State.updStation_lastChange (g : StationId) (f : Station → Station) : (s.updStation g f).lastChange = s.lastChange := rfl
@[simp] theorem State.updStation_commands (g : StationId) (f : Station → Station) : (s.updStation g f).commands = s.commands := rfl
@[simp] theorem State.updStation_controlPort (g : StationId) (f : Station → Station) : (s.updStation g f).controlPort = s.controlPort := rfl
@[simp] theorem State.updStation_fieldPort (g : StationId) (f : Station → Station) : (s.updStation g f).fieldPort = s.fieldPort := rfl
@[simp] theorem State.updStation_requests (g : StationId) (f : Station → Station) : (s.updStation g f).requests = s.requests := rfl
@[simp] theorem State.updStation_replies (g : StationId) (f : Station → Station) : (s.updStation g f).replies = s.replies := rfl
@[simp] theorem State.updStation_notices (g : StationId) (f : Station → Station) : (s.updStation g f).notices = s.notices := rfl
@[simp] theorem State.updStation_store (g : StationId) (f : Station → Station) : (s.updStation g f).store = s.store := rfl
@[simp] theorem State.updStation_saving (g : StationId) (f : Station → Station) : (s.updStation g f).saving = s.saving := rfl
@[simp] theorem State.updStation_storeFound (g : StationId) (f : Station → Station) : (s.updStation g f).storeFound = s.storeFound := rfl
@[simp] theorem State.updStation_dueCapacity (g : StationId) (f : Station → Station) : (s.updStation g f).dueCapacity = s.dueCapacity := rfl
@[simp] theorem State.updStation_choices (g : StationId) (f : Station → Station) : (s.updStation g f).choices = s.choices := rfl
@[simp] theorem State.updStation_choiceCount (g : StationId) (f : Station → Station) : (s.updStation g f).choiceCount = s.choiceCount := rfl
@[simp] theorem State.updStation_pending (g : StationId) (f : Station → Station) : (s.updStation g f).pending = s.pending := rfl

/-! ## updSource -/

@[simp] theorem State.updSource_phase (w : SourceId) (f : Source → Source) : (s.updSource w f).phase = s.phase := rfl
@[simp] theorem State.updSource_straps (w : SourceId) (f : Source → Source) : (s.updSource w f).straps = s.straps := rfl
@[simp] theorem State.updSource_cfg (w : SourceId) (f : Source → Source) : (s.updSource w f).cfg = s.cfg := rfl
@[simp] theorem State.updSource_masts (w : SourceId) (f : Source → Source) : (s.updSource w f).masts = s.masts := rfl
@[simp] theorem State.updSource_dusts (w : SourceId) (f : Source → Source) : (s.updSource w f).dusts = s.dusts := rfl
@[simp] theorem State.updSource_probes (w : SourceId) (f : Source → Source) : (s.updSource w f).probes = s.probes := rfl
@[simp] theorem State.updSource_clock (w : SourceId) (f : Source → Source) : (s.updSource w f).clock = s.clock := rfl
@[simp] theorem State.updSource_ring (w : SourceId) (f : Source → Source) : (s.updSource w f).ring = s.ring := rfl
@[simp] theorem State.updSource_zones (w : SourceId) (f : Source → Source) : (s.updSource w f).zones = s.zones := rfl
@[simp] theorem State.updSource_cannons (w : SourceId) (f : Source → Source) : (s.updSource w f).cannons = s.cannons := rfl
@[simp] theorem State.updSource_stations (w : SourceId) (f : Source → Source) : (s.updSource w f).stations = s.stations := rfl
@[simp] theorem State.updSource_sources (w : SourceId) (f : Source → Source) : (s.updSource w f).sources = updAt s.sources w f := rfl
@[simp] theorem State.updSource_machines (w : SourceId) (f : Source → Source) : (s.updSource w f).machines = s.machines := rfl
@[simp] theorem State.updSource_machineCounts (w : SourceId) (f : Source → Source) : (s.updSource w f).machineCounts = s.machineCounts := rfl
@[simp] theorem State.updSource_mode (w : SourceId) (f : Source → Source) : (s.updSource w f).mode = s.mode := rfl
@[simp] theorem State.updSource_lastChange (w : SourceId) (f : Source → Source) : (s.updSource w f).lastChange = s.lastChange := rfl
@[simp] theorem State.updSource_commands (w : SourceId) (f : Source → Source) : (s.updSource w f).commands = s.commands := rfl
@[simp] theorem State.updSource_controlPort (w : SourceId) (f : Source → Source) : (s.updSource w f).controlPort = s.controlPort := rfl
@[simp] theorem State.updSource_fieldPort (w : SourceId) (f : Source → Source) : (s.updSource w f).fieldPort = s.fieldPort := rfl
@[simp] theorem State.updSource_requests (w : SourceId) (f : Source → Source) : (s.updSource w f).requests = s.requests := rfl
@[simp] theorem State.updSource_replies (w : SourceId) (f : Source → Source) : (s.updSource w f).replies = s.replies := rfl
@[simp] theorem State.updSource_notices (w : SourceId) (f : Source → Source) : (s.updSource w f).notices = s.notices := rfl
@[simp] theorem State.updSource_store (w : SourceId) (f : Source → Source) : (s.updSource w f).store = s.store := rfl
@[simp] theorem State.updSource_saving (w : SourceId) (f : Source → Source) : (s.updSource w f).saving = s.saving := rfl
@[simp] theorem State.updSource_storeFound (w : SourceId) (f : Source → Source) : (s.updSource w f).storeFound = s.storeFound := rfl
@[simp] theorem State.updSource_dueCapacity (w : SourceId) (f : Source → Source) : (s.updSource w f).dueCapacity = s.dueCapacity := rfl
@[simp] theorem State.updSource_choices (w : SourceId) (f : Source → Source) : (s.updSource w f).choices = s.choices := rfl
@[simp] theorem State.updSource_choiceCount (w : SourceId) (f : Source → Source) : (s.updSource w f).choiceCount = s.choiceCount := rfl
@[simp] theorem State.updSource_pending (w : SourceId) (f : Source → Source) : (s.updSource w f).pending = s.pending := rfl

/-! ## updMachine -/

@[simp] theorem State.updMachine_phase (m : MachineId) (f : MachineRecord → MachineRecord) : (s.updMachine m f).phase = s.phase := rfl
@[simp] theorem State.updMachine_straps (m : MachineId) (f : MachineRecord → MachineRecord) : (s.updMachine m f).straps = s.straps := rfl
@[simp] theorem State.updMachine_cfg (m : MachineId) (f : MachineRecord → MachineRecord) : (s.updMachine m f).cfg = s.cfg := rfl
@[simp] theorem State.updMachine_masts (m : MachineId) (f : MachineRecord → MachineRecord) : (s.updMachine m f).masts = s.masts := rfl
@[simp] theorem State.updMachine_dusts (m : MachineId) (f : MachineRecord → MachineRecord) : (s.updMachine m f).dusts = s.dusts := rfl
@[simp] theorem State.updMachine_probes (m : MachineId) (f : MachineRecord → MachineRecord) : (s.updMachine m f).probes = s.probes := rfl
@[simp] theorem State.updMachine_clock (m : MachineId) (f : MachineRecord → MachineRecord) : (s.updMachine m f).clock = s.clock := rfl
@[simp] theorem State.updMachine_ring (m : MachineId) (f : MachineRecord → MachineRecord) : (s.updMachine m f).ring = s.ring := rfl
@[simp] theorem State.updMachine_zones (m : MachineId) (f : MachineRecord → MachineRecord) : (s.updMachine m f).zones = s.zones := rfl
@[simp] theorem State.updMachine_cannons (m : MachineId) (f : MachineRecord → MachineRecord) : (s.updMachine m f).cannons = s.cannons := rfl
@[simp] theorem State.updMachine_stations (m : MachineId) (f : MachineRecord → MachineRecord) : (s.updMachine m f).stations = s.stations := rfl
@[simp] theorem State.updMachine_sources (m : MachineId) (f : MachineRecord → MachineRecord) : (s.updMachine m f).sources = s.sources := rfl
@[simp] theorem State.updMachine_machines (m : MachineId) (f : MachineRecord → MachineRecord) : (s.updMachine m f).machines = updAt s.machines m f := rfl
@[simp] theorem State.updMachine_machineCounts (m : MachineId) (f : MachineRecord → MachineRecord) : (s.updMachine m f).machineCounts = s.machineCounts := rfl
@[simp] theorem State.updMachine_mode (m : MachineId) (f : MachineRecord → MachineRecord) : (s.updMachine m f).mode = s.mode := rfl
@[simp] theorem State.updMachine_lastChange (m : MachineId) (f : MachineRecord → MachineRecord) : (s.updMachine m f).lastChange = s.lastChange := rfl
@[simp] theorem State.updMachine_commands (m : MachineId) (f : MachineRecord → MachineRecord) : (s.updMachine m f).commands = s.commands := rfl
@[simp] theorem State.updMachine_controlPort (m : MachineId) (f : MachineRecord → MachineRecord) : (s.updMachine m f).controlPort = s.controlPort := rfl
@[simp] theorem State.updMachine_fieldPort (m : MachineId) (f : MachineRecord → MachineRecord) : (s.updMachine m f).fieldPort = s.fieldPort := rfl
@[simp] theorem State.updMachine_requests (m : MachineId) (f : MachineRecord → MachineRecord) : (s.updMachine m f).requests = s.requests := rfl
@[simp] theorem State.updMachine_replies (m : MachineId) (f : MachineRecord → MachineRecord) : (s.updMachine m f).replies = s.replies := rfl
@[simp] theorem State.updMachine_notices (m : MachineId) (f : MachineRecord → MachineRecord) : (s.updMachine m f).notices = s.notices := rfl
@[simp] theorem State.updMachine_store (m : MachineId) (f : MachineRecord → MachineRecord) : (s.updMachine m f).store = s.store := rfl
@[simp] theorem State.updMachine_saving (m : MachineId) (f : MachineRecord → MachineRecord) : (s.updMachine m f).saving = s.saving := rfl
@[simp] theorem State.updMachine_storeFound (m : MachineId) (f : MachineRecord → MachineRecord) : (s.updMachine m f).storeFound = s.storeFound := rfl
@[simp] theorem State.updMachine_dueCapacity (m : MachineId) (f : MachineRecord → MachineRecord) : (s.updMachine m f).dueCapacity = s.dueCapacity := rfl
@[simp] theorem State.updMachine_choices (m : MachineId) (f : MachineRecord → MachineRecord) : (s.updMachine m f).choices = s.choices := rfl
@[simp] theorem State.updMachine_choiceCount (m : MachineId) (f : MachineRecord → MachineRecord) : (s.updMachine m f).choiceCount = s.choiceCount := rfl
@[simp] theorem State.updMachine_pending (m : MachineId) (f : MachineRecord → MachineRecord) : (s.updMachine m f).pending = s.pending := rfl

/-! ## updCount -/

@[simp] theorem State.updCount_phase (z : ZoneId) (f : Nat → Nat) : (s.updCount z f).phase = s.phase := rfl
@[simp] theorem State.updCount_straps (z : ZoneId) (f : Nat → Nat) : (s.updCount z f).straps = s.straps := rfl
@[simp] theorem State.updCount_cfg (z : ZoneId) (f : Nat → Nat) : (s.updCount z f).cfg = s.cfg := rfl
@[simp] theorem State.updCount_masts (z : ZoneId) (f : Nat → Nat) : (s.updCount z f).masts = s.masts := rfl
@[simp] theorem State.updCount_dusts (z : ZoneId) (f : Nat → Nat) : (s.updCount z f).dusts = s.dusts := rfl
@[simp] theorem State.updCount_probes (z : ZoneId) (f : Nat → Nat) : (s.updCount z f).probes = s.probes := rfl
@[simp] theorem State.updCount_clock (z : ZoneId) (f : Nat → Nat) : (s.updCount z f).clock = s.clock := rfl
@[simp] theorem State.updCount_ring (z : ZoneId) (f : Nat → Nat) : (s.updCount z f).ring = s.ring := rfl
@[simp] theorem State.updCount_zones (z : ZoneId) (f : Nat → Nat) : (s.updCount z f).zones = s.zones := rfl
@[simp] theorem State.updCount_cannons (z : ZoneId) (f : Nat → Nat) : (s.updCount z f).cannons = s.cannons := rfl
@[simp] theorem State.updCount_stations (z : ZoneId) (f : Nat → Nat) : (s.updCount z f).stations = s.stations := rfl
@[simp] theorem State.updCount_sources (z : ZoneId) (f : Nat → Nat) : (s.updCount z f).sources = s.sources := rfl
@[simp] theorem State.updCount_machines (z : ZoneId) (f : Nat → Nat) : (s.updCount z f).machines = s.machines := rfl
@[simp] theorem State.updCount_machineCounts (z : ZoneId) (f : Nat → Nat) : (s.updCount z f).machineCounts = updAt s.machineCounts z f := rfl
@[simp] theorem State.updCount_mode (z : ZoneId) (f : Nat → Nat) : (s.updCount z f).mode = s.mode := rfl
@[simp] theorem State.updCount_lastChange (z : ZoneId) (f : Nat → Nat) : (s.updCount z f).lastChange = s.lastChange := rfl
@[simp] theorem State.updCount_commands (z : ZoneId) (f : Nat → Nat) : (s.updCount z f).commands = s.commands := rfl
@[simp] theorem State.updCount_controlPort (z : ZoneId) (f : Nat → Nat) : (s.updCount z f).controlPort = s.controlPort := rfl
@[simp] theorem State.updCount_fieldPort (z : ZoneId) (f : Nat → Nat) : (s.updCount z f).fieldPort = s.fieldPort := rfl
@[simp] theorem State.updCount_requests (z : ZoneId) (f : Nat → Nat) : (s.updCount z f).requests = s.requests := rfl
@[simp] theorem State.updCount_replies (z : ZoneId) (f : Nat → Nat) : (s.updCount z f).replies = s.replies := rfl
@[simp] theorem State.updCount_notices (z : ZoneId) (f : Nat → Nat) : (s.updCount z f).notices = s.notices := rfl
@[simp] theorem State.updCount_store (z : ZoneId) (f : Nat → Nat) : (s.updCount z f).store = s.store := rfl
@[simp] theorem State.updCount_saving (z : ZoneId) (f : Nat → Nat) : (s.updCount z f).saving = s.saving := rfl
@[simp] theorem State.updCount_storeFound (z : ZoneId) (f : Nat → Nat) : (s.updCount z f).storeFound = s.storeFound := rfl
@[simp] theorem State.updCount_dueCapacity (z : ZoneId) (f : Nat → Nat) : (s.updCount z f).dueCapacity = s.dueCapacity := rfl
@[simp] theorem State.updCount_choices (z : ZoneId) (f : Nat → Nat) : (s.updCount z f).choices = s.choices := rfl
@[simp] theorem State.updCount_choiceCount (z : ZoneId) (f : Nat → Nat) : (s.updCount z f).choiceCount = s.choiceCount := rfl
@[simp] theorem State.updCount_pending (z : ZoneId) (f : Nat → Nat) : (s.updCount z f).pending = s.pending := rfl

/-! ## updCfg -/

@[simp] theorem State.updCfg_phase (f : Tables → Tables) : (s.updCfg f).phase = s.phase := rfl
@[simp] theorem State.updCfg_straps (f : Tables → Tables) : (s.updCfg f).straps = s.straps := rfl
@[simp] theorem State.updCfg_cfg (f : Tables → Tables) : (s.updCfg f).cfg = f s.cfg := rfl
@[simp] theorem State.updCfg_masts (f : Tables → Tables) : (s.updCfg f).masts = s.masts := rfl
@[simp] theorem State.updCfg_dusts (f : Tables → Tables) : (s.updCfg f).dusts = s.dusts := rfl
@[simp] theorem State.updCfg_probes (f : Tables → Tables) : (s.updCfg f).probes = s.probes := rfl
@[simp] theorem State.updCfg_clock (f : Tables → Tables) : (s.updCfg f).clock = s.clock := rfl
@[simp] theorem State.updCfg_ring (f : Tables → Tables) : (s.updCfg f).ring = s.ring := rfl
@[simp] theorem State.updCfg_zones (f : Tables → Tables) : (s.updCfg f).zones = s.zones := rfl
@[simp] theorem State.updCfg_cannons (f : Tables → Tables) : (s.updCfg f).cannons = s.cannons := rfl
@[simp] theorem State.updCfg_stations (f : Tables → Tables) : (s.updCfg f).stations = s.stations := rfl
@[simp] theorem State.updCfg_sources (f : Tables → Tables) : (s.updCfg f).sources = s.sources := rfl
@[simp] theorem State.updCfg_machines (f : Tables → Tables) : (s.updCfg f).machines = s.machines := rfl
@[simp] theorem State.updCfg_machineCounts (f : Tables → Tables) : (s.updCfg f).machineCounts = s.machineCounts := rfl
@[simp] theorem State.updCfg_mode (f : Tables → Tables) : (s.updCfg f).mode = s.mode := rfl
@[simp] theorem State.updCfg_lastChange (f : Tables → Tables) : (s.updCfg f).lastChange = s.lastChange := rfl
@[simp] theorem State.updCfg_commands (f : Tables → Tables) : (s.updCfg f).commands = s.commands := rfl
@[simp] theorem State.updCfg_controlPort (f : Tables → Tables) : (s.updCfg f).controlPort = s.controlPort := rfl
@[simp] theorem State.updCfg_fieldPort (f : Tables → Tables) : (s.updCfg f).fieldPort = s.fieldPort := rfl
@[simp] theorem State.updCfg_requests (f : Tables → Tables) : (s.updCfg f).requests = s.requests := rfl
@[simp] theorem State.updCfg_replies (f : Tables → Tables) : (s.updCfg f).replies = s.replies := rfl
@[simp] theorem State.updCfg_notices (f : Tables → Tables) : (s.updCfg f).notices = s.notices := rfl
@[simp] theorem State.updCfg_store (f : Tables → Tables) : (s.updCfg f).store = s.store := rfl
@[simp] theorem State.updCfg_saving (f : Tables → Tables) : (s.updCfg f).saving = s.saving := rfl
@[simp] theorem State.updCfg_storeFound (f : Tables → Tables) : (s.updCfg f).storeFound = s.storeFound := rfl
@[simp] theorem State.updCfg_dueCapacity (f : Tables → Tables) : (s.updCfg f).dueCapacity = s.dueCapacity := rfl
@[simp] theorem State.updCfg_choices (f : Tables → Tables) : (s.updCfg f).choices = s.choices := rfl
@[simp] theorem State.updCfg_choiceCount (f : Tables → Tables) : (s.updCfg f).choiceCount = s.choiceCount := rfl
@[simp] theorem State.updCfg_pending (f : Tables → Tables) : (s.updCfg f).pending = s.pending := rfl

/-! ## mapStations -/

@[simp] theorem State.mapStations_phase (f : Station → Station) : (s.mapStations f).phase = s.phase := rfl
@[simp] theorem State.mapStations_straps (f : Station → Station) : (s.mapStations f).straps = s.straps := rfl
@[simp] theorem State.mapStations_cfg (f : Station → Station) : (s.mapStations f).cfg = s.cfg := rfl
@[simp] theorem State.mapStations_masts (f : Station → Station) : (s.mapStations f).masts = s.masts := rfl
@[simp] theorem State.mapStations_dusts (f : Station → Station) : (s.mapStations f).dusts = s.dusts := rfl
@[simp] theorem State.mapStations_probes (f : Station → Station) : (s.mapStations f).probes = s.probes := rfl
@[simp] theorem State.mapStations_clock (f : Station → Station) : (s.mapStations f).clock = s.clock := rfl
@[simp] theorem State.mapStations_ring (f : Station → Station) : (s.mapStations f).ring = s.ring := rfl
@[simp] theorem State.mapStations_zones (f : Station → Station) : (s.mapStations f).zones = s.zones := rfl
@[simp] theorem State.mapStations_cannons (f : Station → Station) : (s.mapStations f).cannons = s.cannons := rfl
@[simp] theorem State.mapStations_stations (f : Station → Station) : (s.mapStations f).stations = s.stations.map f := rfl
@[simp] theorem State.mapStations_sources (f : Station → Station) : (s.mapStations f).sources = s.sources := rfl
@[simp] theorem State.mapStations_machines (f : Station → Station) : (s.mapStations f).machines = s.machines := rfl
@[simp] theorem State.mapStations_machineCounts (f : Station → Station) : (s.mapStations f).machineCounts = s.machineCounts := rfl
@[simp] theorem State.mapStations_mode (f : Station → Station) : (s.mapStations f).mode = s.mode := rfl
@[simp] theorem State.mapStations_lastChange (f : Station → Station) : (s.mapStations f).lastChange = s.lastChange := rfl
@[simp] theorem State.mapStations_commands (f : Station → Station) : (s.mapStations f).commands = s.commands := rfl
@[simp] theorem State.mapStations_controlPort (f : Station → Station) : (s.mapStations f).controlPort = s.controlPort := rfl
@[simp] theorem State.mapStations_fieldPort (f : Station → Station) : (s.mapStations f).fieldPort = s.fieldPort := rfl
@[simp] theorem State.mapStations_requests (f : Station → Station) : (s.mapStations f).requests = s.requests := rfl
@[simp] theorem State.mapStations_replies (f : Station → Station) : (s.mapStations f).replies = s.replies := rfl
@[simp] theorem State.mapStations_notices (f : Station → Station) : (s.mapStations f).notices = s.notices := rfl
@[simp] theorem State.mapStations_store (f : Station → Station) : (s.mapStations f).store = s.store := rfl
@[simp] theorem State.mapStations_saving (f : Station → Station) : (s.mapStations f).saving = s.saving := rfl
@[simp] theorem State.mapStations_storeFound (f : Station → Station) : (s.mapStations f).storeFound = s.storeFound := rfl
@[simp] theorem State.mapStations_dueCapacity (f : Station → Station) : (s.mapStations f).dueCapacity = s.dueCapacity := rfl
@[simp] theorem State.mapStations_choices (f : Station → Station) : (s.mapStations f).choices = s.choices := rfl
@[simp] theorem State.mapStations_choiceCount (f : Station → Station) : (s.mapStations f).choiceCount = s.choiceCount := rfl
@[simp] theorem State.mapStations_pending (f : Station → Station) : (s.mapStations f).pending = s.pending := rfl

/-! ## capacityDue -/

@[simp] theorem capacityDue_phase (g : StationId) : (capacityDue g s).phase = s.phase := rfl
@[simp] theorem capacityDue_straps (g : StationId) : (capacityDue g s).straps = s.straps := rfl
@[simp] theorem capacityDue_cfg (g : StationId) : (capacityDue g s).cfg = s.cfg := rfl
@[simp] theorem capacityDue_masts (g : StationId) : (capacityDue g s).masts = s.masts := rfl
@[simp] theorem capacityDue_dusts (g : StationId) : (capacityDue g s).dusts = s.dusts := rfl
@[simp] theorem capacityDue_probes (g : StationId) : (capacityDue g s).probes = s.probes := rfl
@[simp] theorem capacityDue_clock (g : StationId) : (capacityDue g s).clock = s.clock := rfl
@[simp] theorem capacityDue_ring (g : StationId) : (capacityDue g s).ring = s.ring := rfl
@[simp] theorem capacityDue_zones (g : StationId) : (capacityDue g s).zones = s.zones := rfl
@[simp] theorem capacityDue_cannons (g : StationId) : (capacityDue g s).cannons = s.cannons := rfl
@[simp] theorem capacityDue_stations (g : StationId) : (capacityDue g s).stations = s.stations := rfl
@[simp] theorem capacityDue_sources (g : StationId) : (capacityDue g s).sources = s.sources := rfl
@[simp] theorem capacityDue_machines (g : StationId) : (capacityDue g s).machines = s.machines := rfl
@[simp] theorem capacityDue_machineCounts (g : StationId) : (capacityDue g s).machineCounts = s.machineCounts := rfl
@[simp] theorem capacityDue_mode (g : StationId) : (capacityDue g s).mode = s.mode := rfl
@[simp] theorem capacityDue_lastChange (g : StationId) : (capacityDue g s).lastChange = s.lastChange := rfl
@[simp] theorem capacityDue_commands (g : StationId) : (capacityDue g s).commands = s.commands := rfl
@[simp] theorem capacityDue_controlPort (g : StationId) : (capacityDue g s).controlPort = s.controlPort := rfl
@[simp] theorem capacityDue_fieldPort (g : StationId) : (capacityDue g s).fieldPort = s.fieldPort := rfl
@[simp] theorem capacityDue_requests (g : StationId) : (capacityDue g s).requests = s.requests := rfl
@[simp] theorem capacityDue_replies (g : StationId) : (capacityDue g s).replies = s.replies := rfl
@[simp] theorem capacityDue_notices (g : StationId) : (capacityDue g s).notices = s.notices := rfl
@[simp] theorem capacityDue_store (g : StationId) : (capacityDue g s).store = s.store := rfl
@[simp] theorem capacityDue_saving (g : StationId) : (capacityDue g s).saving = s.saving := rfl
@[simp] theorem capacityDue_storeFound (g : StationId) : (capacityDue g s).storeFound = s.storeFound := rfl
@[simp] theorem capacityDue_dueCapacity (g : StationId) : (capacityDue g s).dueCapacity = s.dueCapacity ++ [g] := rfl
@[simp] theorem capacityDue_choices (g : StationId) : (capacityDue g s).choices = s.choices := rfl
@[simp] theorem capacityDue_choiceCount (g : StationId) : (capacityDue g s).choiceCount = s.choiceCount := rfl
@[simp] theorem capacityDue_pending (g : StationId) : (capacityDue g s).pending = s.pending := rfl

/-! ## raise -/

@[simp] theorem raise_phase (r : Report) : (raise r s).phase = s.phase := rfl
@[simp] theorem raise_straps (r : Report) : (raise r s).straps = s.straps := rfl
@[simp] theorem raise_cfg (r : Report) : (raise r s).cfg = s.cfg := rfl
@[simp] theorem raise_masts (r : Report) : (raise r s).masts = s.masts := rfl
@[simp] theorem raise_dusts (r : Report) : (raise r s).dusts = s.dusts := rfl
@[simp] theorem raise_probes (r : Report) : (raise r s).probes = s.probes := rfl
@[simp] theorem raise_clock (r : Report) : (raise r s).clock = s.clock := rfl
@[simp] theorem raise_ring (r : Report) : (raise r s).ring = s.ring := rfl
@[simp] theorem raise_zones (r : Report) : (raise r s).zones = s.zones := rfl
@[simp] theorem raise_cannons (r : Report) : (raise r s).cannons = s.cannons := rfl
@[simp] theorem raise_stations (r : Report) : (raise r s).stations = s.stations := rfl
@[simp] theorem raise_sources (r : Report) : (raise r s).sources = s.sources := rfl
@[simp] theorem raise_machines (r : Report) : (raise r s).machines = s.machines := rfl
@[simp] theorem raise_machineCounts (r : Report) : (raise r s).machineCounts = s.machineCounts := rfl
@[simp] theorem raise_mode (r : Report) : (raise r s).mode = s.mode := rfl
@[simp] theorem raise_lastChange (r : Report) : (raise r s).lastChange = s.lastChange := rfl
@[simp] theorem raise_commands (r : Report) : (raise r s).commands = s.commands := rfl
@[simp] theorem raise_controlPort (r : Report) : (raise r s).controlPort = s.controlPort := rfl
@[simp] theorem raise_fieldPort (r : Report) : (raise r s).fieldPort = s.fieldPort := rfl
@[simp] theorem raise_requests (r : Report) : (raise r s).requests = s.requests := rfl
@[simp] theorem raise_replies (r : Report) : (raise r s).replies = s.replies := rfl
@[simp] theorem raise_notices (r : Report) : (raise r s).notices = s.notices.place r s.stamp := rfl
@[simp] theorem raise_store (r : Report) : (raise r s).store = s.store := rfl
@[simp] theorem raise_saving (r : Report) : (raise r s).saving = s.saving := rfl
@[simp] theorem raise_storeFound (r : Report) : (raise r s).storeFound = s.storeFound := rfl
@[simp] theorem raise_dueCapacity (r : Report) : (raise r s).dueCapacity = s.dueCapacity := rfl
@[simp] theorem raise_choices (r : Report) : (raise r s).choices = s.choices := rfl
@[simp] theorem raise_choiceCount (r : Report) : (raise r s).choiceCount = s.choiceCount := rfl
@[simp] theorem raise_pending (r : Report) : (raise r s).pending = s.pending := rfl

/-! ## queueOpen -/

@[simp] theorem queueOpen_phase (c : CannonId) : (queueOpen c s).phase = s.phase := rfl
@[simp] theorem queueOpen_straps (c : CannonId) : (queueOpen c s).straps = s.straps := rfl
@[simp] theorem queueOpen_cfg (c : CannonId) : (queueOpen c s).cfg = s.cfg := rfl
@[simp] theorem queueOpen_masts (c : CannonId) : (queueOpen c s).masts = s.masts := rfl
@[simp] theorem queueOpen_dusts (c : CannonId) : (queueOpen c s).dusts = s.dusts := rfl
@[simp] theorem queueOpen_probes (c : CannonId) : (queueOpen c s).probes = s.probes := rfl
@[simp] theorem queueOpen_clock (c : CannonId) : (queueOpen c s).clock = s.clock := rfl
@[simp] theorem queueOpen_ring (c : CannonId) : (queueOpen c s).ring = s.ring := rfl
@[simp] theorem queueOpen_zones (c : CannonId) : (queueOpen c s).zones = s.zones := rfl
@[simp] theorem queueOpen_cannons (c : CannonId) : (queueOpen c s).cannons = s.cannons := rfl
@[simp] theorem queueOpen_stations (c : CannonId) : (queueOpen c s).stations = s.stations := rfl
@[simp] theorem queueOpen_sources (c : CannonId) : (queueOpen c s).sources = s.sources := rfl
@[simp] theorem queueOpen_machines (c : CannonId) : (queueOpen c s).machines = s.machines := rfl
@[simp] theorem queueOpen_machineCounts (c : CannonId) : (queueOpen c s).machineCounts = s.machineCounts := rfl
@[simp] theorem queueOpen_mode (c : CannonId) : (queueOpen c s).mode = s.mode := rfl
@[simp] theorem queueOpen_lastChange (c : CannonId) : (queueOpen c s).lastChange = s.lastChange := rfl
@[simp] theorem queueOpen_commands (c : CannonId) : (queueOpen c s).commands = s.commands ++ [{ cannon := c, verb := .openValve }] := rfl
@[simp] theorem queueOpen_controlPort (c : CannonId) : (queueOpen c s).controlPort = s.controlPort := rfl
@[simp] theorem queueOpen_fieldPort (c : CannonId) : (queueOpen c s).fieldPort = s.fieldPort := rfl
@[simp] theorem queueOpen_requests (c : CannonId) : (queueOpen c s).requests = s.requests := rfl
@[simp] theorem queueOpen_replies (c : CannonId) : (queueOpen c s).replies = s.replies := rfl
@[simp] theorem queueOpen_notices (c : CannonId) : (queueOpen c s).notices = s.notices := rfl
@[simp] theorem queueOpen_store (c : CannonId) : (queueOpen c s).store = s.store := rfl
@[simp] theorem queueOpen_saving (c : CannonId) : (queueOpen c s).saving = s.saving := rfl
@[simp] theorem queueOpen_storeFound (c : CannonId) : (queueOpen c s).storeFound = s.storeFound := rfl
@[simp] theorem queueOpen_dueCapacity (c : CannonId) : (queueOpen c s).dueCapacity = s.dueCapacity := rfl
@[simp] theorem queueOpen_choices (c : CannonId) : (queueOpen c s).choices = s.choices := rfl
@[simp] theorem queueOpen_choiceCount (c : CannonId) : (queueOpen c s).choiceCount = s.choiceCount := rfl
@[simp] theorem queueOpen_pending (c : CannonId) : (queueOpen c s).pending = s.pending := rfl

/-! ## removeOpen -/

@[simp] theorem removeOpen_phase (c : CannonId) : (removeOpen c s).phase = s.phase := rfl
@[simp] theorem removeOpen_straps (c : CannonId) : (removeOpen c s).straps = s.straps := rfl
@[simp] theorem removeOpen_cfg (c : CannonId) : (removeOpen c s).cfg = s.cfg := rfl
@[simp] theorem removeOpen_masts (c : CannonId) : (removeOpen c s).masts = s.masts := rfl
@[simp] theorem removeOpen_dusts (c : CannonId) : (removeOpen c s).dusts = s.dusts := rfl
@[simp] theorem removeOpen_probes (c : CannonId) : (removeOpen c s).probes = s.probes := rfl
@[simp] theorem removeOpen_clock (c : CannonId) : (removeOpen c s).clock = s.clock := rfl
@[simp] theorem removeOpen_ring (c : CannonId) : (removeOpen c s).ring = s.ring := rfl
@[simp] theorem removeOpen_zones (c : CannonId) : (removeOpen c s).zones = s.zones := rfl
@[simp] theorem removeOpen_cannons (c : CannonId) : (removeOpen c s).cannons = s.cannons := rfl
@[simp] theorem removeOpen_stations (c : CannonId) : (removeOpen c s).stations = s.stations := rfl
@[simp] theorem removeOpen_sources (c : CannonId) : (removeOpen c s).sources = s.sources := rfl
@[simp] theorem removeOpen_machines (c : CannonId) : (removeOpen c s).machines = s.machines := rfl
@[simp] theorem removeOpen_machineCounts (c : CannonId) : (removeOpen c s).machineCounts = s.machineCounts := rfl
@[simp] theorem removeOpen_mode (c : CannonId) : (removeOpen c s).mode = s.mode := rfl
@[simp] theorem removeOpen_lastChange (c : CannonId) : (removeOpen c s).lastChange = s.lastChange := rfl
@[simp] theorem removeOpen_commands (c : CannonId) : (removeOpen c s).commands = s.commands.filter fun q => ¬ (q.cannon = c ∧ q.verb = .openValve) := rfl
@[simp] theorem removeOpen_controlPort (c : CannonId) : (removeOpen c s).controlPort = s.controlPort := rfl
@[simp] theorem removeOpen_fieldPort (c : CannonId) : (removeOpen c s).fieldPort = s.fieldPort := rfl
@[simp] theorem removeOpen_requests (c : CannonId) : (removeOpen c s).requests = s.requests := rfl
@[simp] theorem removeOpen_replies (c : CannonId) : (removeOpen c s).replies = s.replies := rfl
@[simp] theorem removeOpen_notices (c : CannonId) : (removeOpen c s).notices = s.notices := rfl
@[simp] theorem removeOpen_store (c : CannonId) : (removeOpen c s).store = s.store := rfl
@[simp] theorem removeOpen_saving (c : CannonId) : (removeOpen c s).saving = s.saving := rfl
@[simp] theorem removeOpen_storeFound (c : CannonId) : (removeOpen c s).storeFound = s.storeFound := rfl
@[simp] theorem removeOpen_dueCapacity (c : CannonId) : (removeOpen c s).dueCapacity = s.dueCapacity := rfl
@[simp] theorem removeOpen_choices (c : CannonId) : (removeOpen c s).choices = s.choices := rfl
@[simp] theorem removeOpen_choiceCount (c : CannonId) : (removeOpen c s).choiceCount = s.choiceCount := rfl
@[simp] theorem removeOpen_pending (c : CannonId) : (removeOpen c s).pending = s.pending := rfl

/-! ## pushReply -/

@[simp] theorem pushReply_phase (r : Reply) : (pushReply r s).phase = s.phase := rfl
@[simp] theorem pushReply_straps (r : Reply) : (pushReply r s).straps = s.straps := rfl
@[simp] theorem pushReply_cfg (r : Reply) : (pushReply r s).cfg = s.cfg := rfl
@[simp] theorem pushReply_masts (r : Reply) : (pushReply r s).masts = s.masts := rfl
@[simp] theorem pushReply_dusts (r : Reply) : (pushReply r s).dusts = s.dusts := rfl
@[simp] theorem pushReply_probes (r : Reply) : (pushReply r s).probes = s.probes := rfl
@[simp] theorem pushReply_clock (r : Reply) : (pushReply r s).clock = s.clock := rfl
@[simp] theorem pushReply_ring (r : Reply) : (pushReply r s).ring = s.ring := rfl
@[simp] theorem pushReply_zones (r : Reply) : (pushReply r s).zones = s.zones := rfl
@[simp] theorem pushReply_cannons (r : Reply) : (pushReply r s).cannons = s.cannons := rfl
@[simp] theorem pushReply_stations (r : Reply) : (pushReply r s).stations = s.stations := rfl
@[simp] theorem pushReply_sources (r : Reply) : (pushReply r s).sources = s.sources := rfl
@[simp] theorem pushReply_machines (r : Reply) : (pushReply r s).machines = s.machines := rfl
@[simp] theorem pushReply_machineCounts (r : Reply) : (pushReply r s).machineCounts = s.machineCounts := rfl
@[simp] theorem pushReply_mode (r : Reply) : (pushReply r s).mode = s.mode := rfl
@[simp] theorem pushReply_lastChange (r : Reply) : (pushReply r s).lastChange = s.lastChange := rfl
@[simp] theorem pushReply_commands (r : Reply) : (pushReply r s).commands = s.commands := rfl
@[simp] theorem pushReply_controlPort (r : Reply) : (pushReply r s).controlPort = s.controlPort := rfl
@[simp] theorem pushReply_fieldPort (r : Reply) : (pushReply r s).fieldPort = s.fieldPort := rfl
@[simp] theorem pushReply_requests (r : Reply) : (pushReply r s).requests = s.requests := rfl
@[simp] theorem pushReply_replies (r : Reply) : (pushReply r s).replies = s.replies ++ [r] := rfl
@[simp] theorem pushReply_notices (r : Reply) : (pushReply r s).notices = s.notices := rfl
@[simp] theorem pushReply_store (r : Reply) : (pushReply r s).store = s.store := rfl
@[simp] theorem pushReply_saving (r : Reply) : (pushReply r s).saving = s.saving := rfl
@[simp] theorem pushReply_storeFound (r : Reply) : (pushReply r s).storeFound = s.storeFound := rfl
@[simp] theorem pushReply_dueCapacity (r : Reply) : (pushReply r s).dueCapacity = s.dueCapacity := rfl
@[simp] theorem pushReply_choices (r : Reply) : (pushReply r s).choices = s.choices := rfl
@[simp] theorem pushReply_choiceCount (r : Reply) : (pushReply r s).choiceCount = s.choiceCount := rfl
@[simp] theorem pushReply_pending (r : Reply) : (pushReply r s).pending = s.pending := rfl

/-! ## choose -/

@[simp] theorem State.choose_phase : s.choose.phase = s.phase := rfl
@[simp] theorem State.choose_straps : s.choose.straps = s.straps := rfl
@[simp] theorem State.choose_cfg : s.choose.cfg = s.cfg := rfl
@[simp] theorem State.choose_masts : s.choose.masts = s.masts := rfl
@[simp] theorem State.choose_dusts : s.choose.dusts = s.dusts := rfl
@[simp] theorem State.choose_probes : s.choose.probes = s.probes := rfl
@[simp] theorem State.choose_clock : s.choose.clock = s.clock := rfl
@[simp] theorem State.choose_ring : s.choose.ring = s.ring := rfl
@[simp] theorem State.choose_zones : s.choose.zones = s.zones := rfl
@[simp] theorem State.choose_cannons : s.choose.cannons = s.cannons := rfl
@[simp] theorem State.choose_stations : s.choose.stations = s.stations := rfl
@[simp] theorem State.choose_sources : s.choose.sources = s.sources := rfl
@[simp] theorem State.choose_machines : s.choose.machines = s.machines := rfl
@[simp] theorem State.choose_machineCounts : s.choose.machineCounts = s.machineCounts := rfl
@[simp] theorem State.choose_mode : s.choose.mode = s.mode := rfl
@[simp] theorem State.choose_lastChange : s.choose.lastChange = s.lastChange := rfl
@[simp] theorem State.choose_commands : s.choose.commands = s.commands := rfl
@[simp] theorem State.choose_controlPort : s.choose.controlPort = s.controlPort := rfl
@[simp] theorem State.choose_fieldPort : s.choose.fieldPort = s.fieldPort := rfl
@[simp] theorem State.choose_requests : s.choose.requests = s.requests := rfl
@[simp] theorem State.choose_replies : s.choose.replies = s.replies := rfl
@[simp] theorem State.choose_notices : s.choose.notices = s.notices := rfl
@[simp] theorem State.choose_store : s.choose.store = s.store := rfl
@[simp] theorem State.choose_saving : s.choose.saving = s.saving := rfl
@[simp] theorem State.choose_storeFound : s.choose.storeFound = s.storeFound := rfl
@[simp] theorem State.choose_dueCapacity : s.choose.dueCapacity = s.dueCapacity := rfl
@[simp] theorem State.choose_choices : s.choose.choices = s.choices.tail := rfl
@[simp] theorem State.choose_choiceCount : s.choose.choiceCount = s.choiceCount + 1 := rfl
@[simp] theorem State.choose_pending : s.choose.pending = s.pending := rfl

/-! ## updPort -/

@[simp] theorem State.updPort_phase (p : Port) (f : PortState → PortState) : (s.updPort p f).phase = s.phase := by cases p <;> rfl
@[simp] theorem State.updPort_straps (p : Port) (f : PortState → PortState) : (s.updPort p f).straps = s.straps := by cases p <;> rfl
@[simp] theorem State.updPort_cfg (p : Port) (f : PortState → PortState) : (s.updPort p f).cfg = s.cfg := by cases p <;> rfl
@[simp] theorem State.updPort_masts (p : Port) (f : PortState → PortState) : (s.updPort p f).masts = s.masts := by cases p <;> rfl
@[simp] theorem State.updPort_dusts (p : Port) (f : PortState → PortState) : (s.updPort p f).dusts = s.dusts := by cases p <;> rfl
@[simp] theorem State.updPort_probes (p : Port) (f : PortState → PortState) : (s.updPort p f).probes = s.probes := by cases p <;> rfl
@[simp] theorem State.updPort_clock (p : Port) (f : PortState → PortState) : (s.updPort p f).clock = s.clock := by cases p <;> rfl
@[simp] theorem State.updPort_ring (p : Port) (f : PortState → PortState) : (s.updPort p f).ring = s.ring := by cases p <;> rfl
@[simp] theorem State.updPort_zones (p : Port) (f : PortState → PortState) : (s.updPort p f).zones = s.zones := by cases p <;> rfl
@[simp] theorem State.updPort_cannons (p : Port) (f : PortState → PortState) : (s.updPort p f).cannons = s.cannons := by cases p <;> rfl
@[simp] theorem State.updPort_stations (p : Port) (f : PortState → PortState) : (s.updPort p f).stations = s.stations := by cases p <;> rfl
@[simp] theorem State.updPort_sources (p : Port) (f : PortState → PortState) : (s.updPort p f).sources = s.sources := by cases p <;> rfl
@[simp] theorem State.updPort_machines (p : Port) (f : PortState → PortState) : (s.updPort p f).machines = s.machines := by cases p <;> rfl
@[simp] theorem State.updPort_machineCounts (p : Port) (f : PortState → PortState) : (s.updPort p f).machineCounts = s.machineCounts := by cases p <;> rfl
@[simp] theorem State.updPort_mode (p : Port) (f : PortState → PortState) : (s.updPort p f).mode = s.mode := by cases p <;> rfl
@[simp] theorem State.updPort_lastChange (p : Port) (f : PortState → PortState) : (s.updPort p f).lastChange = s.lastChange := by cases p <;> rfl
@[simp] theorem State.updPort_commands (p : Port) (f : PortState → PortState) : (s.updPort p f).commands = s.commands := by cases p <;> rfl
@[simp] theorem State.updPort_requests (p : Port) (f : PortState → PortState) : (s.updPort p f).requests = s.requests := by cases p <;> rfl
@[simp] theorem State.updPort_replies (p : Port) (f : PortState → PortState) : (s.updPort p f).replies = s.replies := by cases p <;> rfl
@[simp] theorem State.updPort_notices (p : Port) (f : PortState → PortState) : (s.updPort p f).notices = s.notices := by cases p <;> rfl
@[simp] theorem State.updPort_store (p : Port) (f : PortState → PortState) : (s.updPort p f).store = s.store := by cases p <;> rfl
@[simp] theorem State.updPort_saving (p : Port) (f : PortState → PortState) : (s.updPort p f).saving = s.saving := by cases p <;> rfl
@[simp] theorem State.updPort_storeFound (p : Port) (f : PortState → PortState) : (s.updPort p f).storeFound = s.storeFound := by cases p <;> rfl
@[simp] theorem State.updPort_dueCapacity (p : Port) (f : PortState → PortState) : (s.updPort p f).dueCapacity = s.dueCapacity := by cases p <;> rfl
@[simp] theorem State.updPort_choices (p : Port) (f : PortState → PortState) : (s.updPort p f).choices = s.choices := by cases p <;> rfl
@[simp] theorem State.updPort_choiceCount (p : Port) (f : PortState → PortState) : (s.updPort p f).choiceCount = s.choiceCount := by cases p <;> rfl
@[simp] theorem State.updPort_pending (p : Port) (f : PortState → PortState) : (s.updPort p f).pending = s.pending := by cases p <;> rfl

@[simp] theorem State.port_updPort_self (p : Port) (f : PortState → PortState) : (s.updPort p f).port p = f (s.port p) := by
  cases p <;> rfl
@[simp] theorem State.port_updPort_other (p : Port) (f : PortState → PortState) :
    (s.updPort p f).port (otherPort p) = s.port (otherPort p) := by
  cases p <;> rfl
@[simp] theorem State.port_other_updPort (p : Port) (f : PortState → PortState) :
    (s.updPort (otherPort p) f).port p = s.port p := by
  cases p <;> rfl
@[simp] theorem otherPort_otherPort (p : Port) : otherPort (otherPort p) = p := by cases p <;> rfl

end Sys2Proof.Machine
end

