-- ==== Sys2Proof/Laws/Records.lean ====
section
/-! SUPPORT. The accessors of records under the record updates: the record updated, and every other record. -/

namespace Sys2Proof.Machine

/-- One entry of a table after one entry is changed. -/
theorem updAt_getElem {α : Type} {n : Nat} (v : Vector α n) (i : Fin n) (f : α → α) (j : Nat) (hj : j < n) :
    (updAt v i f)[j] = if j = i.val then f v[j] else v[j] := by
  unfold updAt
  rw [Vector.getElem_set]
  by_cases h : i.val = j
  · subst h; simp
  · rw [if_neg h, if_neg (fun e => h e.symm)]

theorem updAt_get {α : Type} {n : Nat} (v : Vector α n) (i j : Fin n) (f : α → α) :
    (updAt v i f)[j] = if j = i then f v[i] else v[j] := by
  have h := updAt_getElem v i f j.val j.isLt
  by_cases e : j = i
  · subst e; rw [if_pos rfl] at h; rw [if_pos rfl]; exact h
  · rw [if_neg (fun x => e (Fin.ext x))] at h; rw [if_neg e]; exact h

theorem updAt_get_self {α : Type} {n : Nat} (v : Vector α n) (i : Fin n) (f : α → α) : (updAt v i f)[i] = f v[i] := by
  rw [updAt_get, if_pos rfl]

theorem updAt_get_ne {α : Type} {n : Nat} (v : Vector α n) (i j : Fin n) (f : α → α) (h : j ≠ i) :
    (updAt v i f)[j] = v[j] := by
  rw [updAt_get, if_neg h]

/-- Two vectors that agree at every index of their type are equal. -/
theorem vector_ext_fin {α : Type} {n : Nat} {v w : Vector α n} (h : ∀ i : Fin n, v[i] = w[i]) : v = w :=
  Vector.ext fun i hi => h ⟨i, hi⟩

/-- An entry changed to itself leaves the table. -/
theorem updAt_id {α : Type} {n : Nat} (v : Vector α n) (i : Fin n) (f : α → α) (h : f v[i] = v[i]) : updAt v i f = v :=
  vector_ext_fin fun j => by
    by_cases e : j = i
    · subst e; rw [updAt_get_self, h]
    · rw [updAt_get_ne _ _ _ _ e]

/-- Two changes of one entry are one. -/
theorem updAt_updAt {α : Type} {n : Nat} (v : Vector α n) (i : Fin n) (f g : α → α) :
    updAt (updAt v i f) i g = updAt v i (fun x => g (f x)) :=
  vector_ext_fin fun j => by
    by_cases e : j = i
    · subst e; rw [updAt_get_self, updAt_get_self, updAt_get_self]
    · rw [updAt_get_ne _ _ _ _ e, updAt_get_ne _ _ _ _ e, updAt_get_ne _ _ _ _ e]

variable (s : State)

/-! ## updMast -/

theorem State.mast_updMast (m : MastId) (f : Mast → Mast) (n : MastId) :
    (s.updMast m f).mast n = if n = m then f (s.mast m) else s.mast n := updAt_get _ _ _ _
@[simp] theorem State.mast_updMast_self (m : MastId) (f : Mast → Mast) : (s.updMast m f).mast m = f (s.mast m) := updAt_get_self _ _ _
@[simp] theorem State.mast_updMast_ne (m : MastId) (f : Mast → Mast) (n : MastId) (h : n ≠ m) : (s.updMast m f).mast n = s.mast n := updAt_get_ne _ _ _ _ h
@[simp] theorem State.dust_updMast (m : MastId) (f : Mast → Mast) (n : DustId) : (s.updMast m f).dust n = s.dust n := rfl
@[simp] theorem State.probe_updMast (m : MastId) (f : Mast → Mast) (n : ZoneId) : (s.updMast m f).probe n = s.probe n := rfl
@[simp] theorem State.slotAt_updMast (m : MastId) (f : Mast → Mast) (n : Fin 48) : (s.updMast m f).slotAt n = s.slotAt n := rfl
@[simp] theorem State.zone_updMast (m : MastId) (f : Mast → Mast) (n : ZoneId) : (s.updMast m f).zone n = s.zone n := rfl
@[simp] theorem State.cannon_updMast (m : MastId) (f : Mast → Mast) (n : CannonId) : (s.updMast m f).cannon n = s.cannon n := rfl
@[simp] theorem State.station_updMast (m : MastId) (f : Mast → Mast) (n : StationId) : (s.updMast m f).station n = s.station n := rfl
@[simp] theorem State.source_updMast (m : MastId) (f : Mast → Mast) (n : SourceId) : (s.updMast m f).source n = s.source n := rfl
@[simp] theorem State.machine_updMast (m : MastId) (f : Mast → Mast) (n : MachineId) : (s.updMast m f).machine n = s.machine n := rfl
@[simp] theorem State.machineCount_updMast (m : MastId) (f : Mast → Mast) (n : ZoneId) : (s.updMast m f).machineCount n = s.machineCount n := rfl
@[simp] theorem State.zoneEntry_updMast (m : MastId) (f : Mast → Mast) (n : ZoneId) : (s.updMast m f).zoneEntry n = s.zoneEntry n := rfl
@[simp] theorem State.profile_updMast (m : MastId) (f : Mast → Mast) (n : ProfileId) : (s.updMast m f).profile n = s.profile n := rfl
@[simp] theorem State.cannonEntry_updMast (m : MastId) (f : Mast → Mast) (n : CannonId) : (s.updMast m f).cannonEntry n = s.cannonEntry n := rfl
@[simp] theorem State.patternEntry_updMast (m : MastId) (f : Mast → Mast) (n : PatternId) : (s.updMast m f).patternEntry n = s.patternEntry n := rfl
@[simp] theorem State.stationEntry_updMast (m : MastId) (f : Mast → Mast) (n : StationId) : (s.updMast m f).stationEntry n = s.stationEntry n := rfl
@[simp] theorem State.sourceEntry_updMast (m : MastId) (f : Mast → Mast) (n : SourceId) : (s.updMast m f).sourceEntry n = s.sourceEntry n := rfl
@[simp] theorem State.settings_updMast (m : MastId) (f : Mast → Mast) : (s.updMast m f).settings = s.settings := rfl
@[simp] theorem State.stationOf_updMast (m : MastId) (f : Mast → Mast) (n : CannonId) : (s.updMast m f).stationOf n = s.stationOf n := rfl
@[simp] theorem State.wired_updMast (m : MastId) (f : Mast → Mast) (n : CannonId) : (s.updMast m f).wired n = s.wired n := rfl
@[simp] theorem State.profileOf_updMast (m : MastId) (f : Mast → Mast) (n : ZoneId) : (s.updMast m f).profileOf n = s.profileOf n := rfl

/-! ## updDust -/

@[simp] theorem State.mast_updDust (d : DustId) (f : Dust → Dust) (n : MastId) : (s.updDust d f).mast n = s.mast n := rfl
theorem State.dust_updDust (d : DustId) (f : Dust → Dust) (n : DustId) :
    (s.updDust d f).dust n = if n = d then f (s.dust d) else s.dust n := updAt_get _ _ _ _
@[simp] theorem State.dust_updDust_self (d : DustId) (f : Dust → Dust) : (s.updDust d f).dust d = f (s.dust d) := updAt_get_self _ _ _
@[simp] theorem State.dust_updDust_ne (d : DustId) (f : Dust → Dust) (n : DustId) (h : n ≠ d) : (s.updDust d f).dust n = s.dust n := updAt_get_ne _ _ _ _ h
@[simp] theorem State.probe_updDust (d : DustId) (f : Dust → Dust) (n : ZoneId) : (s.updDust d f).probe n = s.probe n := rfl
@[simp] theorem State.slotAt_updDust (d : DustId) (f : Dust → Dust) (n : Fin 48) : (s.updDust d f).slotAt n = s.slotAt n := rfl
@[simp] theorem State.zone_updDust (d : DustId) (f : Dust → Dust) (n : ZoneId) : (s.updDust d f).zone n = s.zone n := rfl
@[simp] theorem State.cannon_updDust (d : DustId) (f : Dust → Dust) (n : CannonId) : (s.updDust d f).cannon n = s.cannon n := rfl
@[simp] theorem State.station_updDust (d : DustId) (f : Dust → Dust) (n : StationId) : (s.updDust d f).station n = s.station n := rfl
@[simp] theorem State.source_updDust (d : DustId) (f : Dust → Dust) (n : SourceId) : (s.updDust d f).source n = s.source n := rfl
@[simp] theorem State.machine_updDust (d : DustId) (f : Dust → Dust) (n : MachineId) : (s.updDust d f).machine n = s.machine n := rfl
@[simp] theorem State.machineCount_updDust (d : DustId) (f : Dust → Dust) (n : ZoneId) : (s.updDust d f).machineCount n = s.machineCount n := rfl
@[simp] theorem State.zoneEntry_updDust (d : DustId) (f : Dust → Dust) (n : ZoneId) : (s.updDust d f).zoneEntry n = s.zoneEntry n := rfl
@[simp] theorem State.profile_updDust (d : DustId) (f : Dust → Dust) (n : ProfileId) : (s.updDust d f).profile n = s.profile n := rfl
@[simp] theorem State.cannonEntry_updDust (d : DustId) (f : Dust → Dust) (n : CannonId) : (s.updDust d f).cannonEntry n = s.cannonEntry n := rfl
@[simp] theorem State.patternEntry_updDust (d : DustId) (f : Dust → Dust) (n : PatternId) : (s.updDust d f).patternEntry n = s.patternEntry n := rfl
@[simp] theorem State.stationEntry_updDust (d : DustId) (f : Dust → Dust) (n : StationId) : (s.updDust d f).stationEntry n = s.stationEntry n := rfl
@[simp] theorem State.sourceEntry_updDust (d : DustId) (f : Dust → Dust) (n : SourceId) : (s.updDust d f).sourceEntry n = s.sourceEntry n := rfl
@[simp] theorem State.settings_updDust (d : DustId) (f : Dust → Dust) : (s.updDust d f).settings = s.settings := rfl
@[simp] theorem State.stationOf_updDust (d : DustId) (f : Dust → Dust) (n : CannonId) : (s.updDust d f).stationOf n = s.stationOf n := rfl
@[simp] theorem State.wired_updDust (d : DustId) (f : Dust → Dust) (n : CannonId) : (s.updDust d f).wired n = s.wired n := rfl
@[simp] theorem State.profileOf_updDust (d : DustId) (f : Dust → Dust) (n : ZoneId) : (s.updDust d f).profileOf n = s.profileOf n := rfl

/-! ## updProbe -/

@[simp] theorem State.mast_updProbe (z : ZoneId) (f : Probe → Probe) (n : MastId) : (s.updProbe z f).mast n = s.mast n := rfl
@[simp] theorem State.dust_updProbe (z : ZoneId) (f : Probe → Probe) (n : DustId) : (s.updProbe z f).dust n = s.dust n := rfl
theorem State.probe_updProbe (z : ZoneId) (f : Probe → Probe) (n : ZoneId) :
    (s.updProbe z f).probe n = if n = z then f (s.probe z) else s.probe n := updAt_get _ _ _ _
@[simp] theorem State.probe_updProbe_self (z : ZoneId) (f : Probe → Probe) : (s.updProbe z f).probe z = f (s.probe z) := updAt_get_self _ _ _
@[simp] theorem State.probe_updProbe_ne (z : ZoneId) (f : Probe → Probe) (n : ZoneId) (h : n ≠ z) : (s.updProbe z f).probe n = s.probe n := updAt_get_ne _ _ _ _ h
@[simp] theorem State.slotAt_updProbe (z : ZoneId) (f : Probe → Probe) (n : Fin 48) : (s.updProbe z f).slotAt n = s.slotAt n := rfl
@[simp] theorem State.zone_updProbe (z : ZoneId) (f : Probe → Probe) (n : ZoneId) : (s.updProbe z f).zone n = s.zone n := rfl
@[simp] theorem State.cannon_updProbe (z : ZoneId) (f : Probe → Probe) (n : CannonId) : (s.updProbe z f).cannon n = s.cannon n := rfl
@[simp] theorem State.station_updProbe (z : ZoneId) (f : Probe → Probe) (n : StationId) : (s.updProbe z f).station n = s.station n := rfl
@[simp] theorem State.source_updProbe (z : ZoneId) (f : Probe → Probe) (n : SourceId) : (s.updProbe z f).source n = s.source n := rfl
@[simp] theorem State.machine_updProbe (z : ZoneId) (f : Probe → Probe) (n : MachineId) : (s.updProbe z f).machine n = s.machine n := rfl
@[simp] theorem State.machineCount_updProbe (z : ZoneId) (f : Probe → Probe) (n : ZoneId) : (s.updProbe z f).machineCount n = s.machineCount n := rfl
@[simp] theorem State.zoneEntry_updProbe (z : ZoneId) (f : Probe → Probe) (n : ZoneId) : (s.updProbe z f).zoneEntry n = s.zoneEntry n := rfl
@[simp] theorem State.profile_updProbe (z : ZoneId) (f : Probe → Probe) (n : ProfileId) : (s.updProbe z f).profile n = s.profile n := rfl
@[simp] theorem State.cannonEntry_updProbe (z : ZoneId) (f : Probe → Probe) (n : CannonId) : (s.updProbe z f).cannonEntry n = s.cannonEntry n := rfl
@[simp] theorem State.patternEntry_updProbe (z : ZoneId) (f : Probe → Probe) (n : PatternId) : (s.updProbe z f).patternEntry n = s.patternEntry n := rfl
@[simp] theorem State.stationEntry_updProbe (z : ZoneId) (f : Probe → Probe) (n : StationId) : (s.updProbe z f).stationEntry n = s.stationEntry n := rfl
@[simp] theorem State.sourceEntry_updProbe (z : ZoneId) (f : Probe → Probe) (n : SourceId) : (s.updProbe z f).sourceEntry n = s.sourceEntry n := rfl
@[simp] theorem State.settings_updProbe (z : ZoneId) (f : Probe → Probe) : (s.updProbe z f).settings = s.settings := rfl
@[simp] theorem State.stationOf_updProbe (z : ZoneId) (f : Probe → Probe) (n : CannonId) : (s.updProbe z f).stationOf n = s.stationOf n := rfl
@[simp] theorem State.wired_updProbe (z : ZoneId) (f : Probe → Probe) (n : CannonId) : (s.updProbe z f).wired n = s.wired n := rfl
@[simp] theorem State.profileOf_updProbe (z : ZoneId) (f : Probe → Probe) (n : ZoneId) : (s.updProbe z f).profileOf n = s.profileOf n := rfl

/-! ## updSlot -/

@[simp] theorem State.mast_updSlot (i : Fin 48) (f : ForecastSlot → ForecastSlot) (n : MastId) : (s.updSlot i f).mast n = s.mast n := rfl
@[simp] theorem State.dust_updSlot (i : Fin 48) (f : ForecastSlot → ForecastSlot) (n : DustId) : (s.updSlot i f).dust n = s.dust n := rfl
@[simp] theorem State.probe_updSlot (i : Fin 48) (f : ForecastSlot → ForecastSlot) (n : ZoneId) : (s.updSlot i f).probe n = s.probe n := rfl
theorem State.slotAt_updSlot (i : Fin 48) (f : ForecastSlot → ForecastSlot) (n : Fin 48) :
    (s.updSlot i f).slotAt n = if n = i then f (s.slotAt i) else s.slotAt n := updAt_get _ _ _ _
@[simp] theorem State.slotAt_updSlot_self (i : Fin 48) (f : ForecastSlot → ForecastSlot) : (s.updSlot i f).slotAt i = f (s.slotAt i) := updAt_get_self _ _ _
@[simp] theorem State.slotAt_updSlot_ne (i : Fin 48) (f : ForecastSlot → ForecastSlot) (n : Fin 48) (h : n ≠ i) : (s.updSlot i f).slotAt n = s.slotAt n := updAt_get_ne _ _ _ _ h
@[simp] theorem State.zone_updSlot (i : Fin 48) (f : ForecastSlot → ForecastSlot) (n : ZoneId) : (s.updSlot i f).zone n = s.zone n := rfl
@[simp] theorem State.cannon_updSlot (i : Fin 48) (f : ForecastSlot → ForecastSlot) (n : CannonId) : (s.updSlot i f).cannon n = s.cannon n := rfl
@[simp] theorem State.station_updSlot (i : Fin 48) (f : ForecastSlot → ForecastSlot) (n : StationId) : (s.updSlot i f).station n = s.station n := rfl
@[simp] theorem State.source_updSlot (i : Fin 48) (f : ForecastSlot → ForecastSlot) (n : SourceId) : (s.updSlot i f).source n = s.source n := rfl
@[simp] theorem State.machine_updSlot (i : Fin 48) (f : ForecastSlot → ForecastSlot) (n : MachineId) : (s.updSlot i f).machine n = s.machine n := rfl
@[simp] theorem State.machineCount_updSlot (i : Fin 48) (f : ForecastSlot → ForecastSlot) (n : ZoneId) : (s.updSlot i f).machineCount n = s.machineCount n := rfl
@[simp] theorem State.zoneEntry_updSlot (i : Fin 48) (f : ForecastSlot → ForecastSlot) (n : ZoneId) : (s.updSlot i f).zoneEntry n = s.zoneEntry n := rfl
@[simp] theorem State.profile_updSlot (i : Fin 48) (f : ForecastSlot → ForecastSlot) (n : ProfileId) : (s.updSlot i f).profile n = s.profile n := rfl
@[simp] theorem State.cannonEntry_updSlot (i : Fin 48) (f : ForecastSlot → ForecastSlot) (n : CannonId) : (s.updSlot i f).cannonEntry n = s.cannonEntry n := rfl
@[simp] theorem State.patternEntry_updSlot (i : Fin 48) (f : ForecastSlot → ForecastSlot) (n : PatternId) : (s.updSlot i f).patternEntry n = s.patternEntry n := rfl
@[simp] theorem State.stationEntry_updSlot (i : Fin 48) (f : ForecastSlot → ForecastSlot) (n : StationId) : (s.updSlot i f).stationEntry n = s.stationEntry n := rfl
@[simp] theorem State.sourceEntry_updSlot (i : Fin 48) (f : ForecastSlot → ForecastSlot) (n : SourceId) : (s.updSlot i f).sourceEntry n = s.sourceEntry n := rfl
@[simp] theorem State.settings_updSlot (i : Fin 48) (f : ForecastSlot → ForecastSlot) : (s.updSlot i f).settings = s.settings := rfl
@[simp] theorem State.stationOf_updSlot (i : Fin 48) (f : ForecastSlot → ForecastSlot) (n : CannonId) : (s.updSlot i f).stationOf n = s.stationOf n := rfl
@[simp] theorem State.wired_updSlot (i : Fin 48) (f : ForecastSlot → ForecastSlot) (n : CannonId) : (s.updSlot i f).wired n = s.wired n := rfl
@[simp] theorem State.profileOf_updSlot (i : Fin 48) (f : ForecastSlot → ForecastSlot) (n : ZoneId) : (s.updSlot i f).profileOf n = s.profileOf n := rfl

/-! ## updZone -/

@[simp] theorem State.mast_updZone (z : ZoneId) (f : Zone → Zone) (n : MastId) : (s.updZone z f).mast n = s.mast n := rfl
@[simp] theorem State.dust_updZone (z : ZoneId) (f : Zone → Zone) (n : DustId) : (s.updZone z f).dust n = s.dust n := rfl
@[simp] theorem State.probe_updZone (z : ZoneId) (f : Zone → Zone) (n : ZoneId) : (s.updZone z f).probe n = s.probe n := rfl
@[simp] theorem State.slotAt_updZone (z : ZoneId) (f : Zone → Zone) (n : Fin 48) : (s.updZone z f).slotAt n = s.slotAt n := rfl
theorem State.zone_updZone (z : ZoneId) (f : Zone → Zone) (n : ZoneId) :
    (s.updZone z f).zone n = if n = z then f (s.zone z) else s.zone n := updAt_get _ _ _ _
@[simp] theorem State.zone_updZone_self (z : ZoneId) (f : Zone → Zone) : (s.updZone z f).zone z = f (s.zone z) := updAt_get_self _ _ _
@[simp] theorem State.zone_updZone_ne (z : ZoneId) (f : Zone → Zone) (n : ZoneId) (h : n ≠ z) : (s.updZone z f).zone n = s.zone n := updAt_get_ne _ _ _ _ h
@[simp] theorem State.cannon_updZone (z : ZoneId) (f : Zone → Zone) (n : CannonId) : (s.updZone z f).cannon n = s.cannon n := rfl
@[simp] theorem State.station_updZone (z : ZoneId) (f : Zone → Zone) (n : StationId) : (s.updZone z f).station n = s.station n := rfl
@[simp] theorem State.source_updZone (z : ZoneId) (f : Zone → Zone) (n : SourceId) : (s.updZone z f).source n = s.source n := rfl
@[simp] theorem State.machine_updZone (z : ZoneId) (f : Zone → Zone) (n : MachineId) : (s.updZone z f).machine n = s.machine n := rfl
@[simp] theorem State.machineCount_updZone (z : ZoneId) (f : Zone → Zone) (n : ZoneId) : (s.updZone z f).machineCount n = s.machineCount n := rfl
@[simp] theorem State.zoneEntry_updZone (z : ZoneId) (f : Zone → Zone) (n : ZoneId) : (s.updZone z f).zoneEntry n = s.zoneEntry n := rfl
@[simp] theorem State.profile_updZone (z : ZoneId) (f : Zone → Zone) (n : ProfileId) : (s.updZone z f).profile n = s.profile n := rfl
@[simp] theorem State.cannonEntry_updZone (z : ZoneId) (f : Zone → Zone) (n : CannonId) : (s.updZone z f).cannonEntry n = s.cannonEntry n := rfl
@[simp] theorem State.patternEntry_updZone (z : ZoneId) (f : Zone → Zone) (n : PatternId) : (s.updZone z f).patternEntry n = s.patternEntry n := rfl
@[simp] theorem State.stationEntry_updZone (z : ZoneId) (f : Zone → Zone) (n : StationId) : (s.updZone z f).stationEntry n = s.stationEntry n := rfl
@[simp] theorem State.sourceEntry_updZone (z : ZoneId) (f : Zone → Zone) (n : SourceId) : (s.updZone z f).sourceEntry n = s.sourceEntry n := rfl
@[simp] theorem State.settings_updZone (z : ZoneId) (f : Zone → Zone) : (s.updZone z f).settings = s.settings := rfl
@[simp] theorem State.stationOf_updZone (z : ZoneId) (f : Zone → Zone) (n : CannonId) : (s.updZone z f).stationOf n = s.stationOf n := rfl
@[simp] theorem State.wired_updZone (z : ZoneId) (f : Zone → Zone) (n : CannonId) : (s.updZone z f).wired n = s.wired n := rfl
@[simp] theorem State.profileOf_updZone (z : ZoneId) (f : Zone → Zone) (n : ZoneId) : (s.updZone z f).profileOf n = s.profileOf n := rfl

/-! ## updCannon -/

@[simp] theorem State.mast_updCannon (c : CannonId) (f : Cannon → Cannon) (n : MastId) : (s.updCannon c f).mast n = s.mast n := rfl
@[simp] theorem State.dust_updCannon (c : CannonId) (f : Cannon → Cannon) (n : DustId) : (s.updCannon c f).dust n = s.dust n := rfl
@[simp] theorem State.probe_updCannon (c : CannonId) (f : Cannon → Cannon) (n : ZoneId) : (s.updCannon c f).probe n = s.probe n := rfl
@[simp] theorem State.slotAt_updCannon (c : CannonId) (f : Cannon → Cannon) (n : Fin 48) : (s.updCannon c f).slotAt n = s.slotAt n := rfl
@[simp] theorem State.zone_updCannon (c : CannonId) (f : Cannon → Cannon) (n : ZoneId) : (s.updCannon c f).zone n = s.zone n := rfl
theorem State.cannon_updCannon (c : CannonId) (f : Cannon → Cannon) (n : CannonId) :
    (s.updCannon c f).cannon n = if n = c then f (s.cannon c) else s.cannon n := updAt_get _ _ _ _
@[simp] theorem State.cannon_updCannon_self (c : CannonId) (f : Cannon → Cannon) : (s.updCannon c f).cannon c = f (s.cannon c) := updAt_get_self _ _ _
@[simp] theorem State.cannon_updCannon_ne (c : CannonId) (f : Cannon → Cannon) (n : CannonId) (h : n ≠ c) : (s.updCannon c f).cannon n = s.cannon n := updAt_get_ne _ _ _ _ h
@[simp] theorem State.station_updCannon (c : CannonId) (f : Cannon → Cannon) (n : StationId) : (s.updCannon c f).station n = s.station n := rfl
@[simp] theorem State.source_updCannon (c : CannonId) (f : Cannon → Cannon) (n : SourceId) : (s.updCannon c f).source n = s.source n := rfl
@[simp] theorem State.machine_updCannon (c : CannonId) (f : Cannon → Cannon) (n : MachineId) : (s.updCannon c f).machine n = s.machine n := rfl
@[simp] theorem State.machineCount_updCannon (c : CannonId) (f : Cannon → Cannon) (n : ZoneId) : (s.updCannon c f).machineCount n = s.machineCount n := rfl
@[simp] theorem State.zoneEntry_updCannon (c : CannonId) (f : Cannon → Cannon) (n : ZoneId) : (s.updCannon c f).zoneEntry n = s.zoneEntry n := rfl
@[simp] theorem State.profile_updCannon (c : CannonId) (f : Cannon → Cannon) (n : ProfileId) : (s.updCannon c f).profile n = s.profile n := rfl
@[simp] theorem State.cannonEntry_updCannon (c : CannonId) (f : Cannon → Cannon) (n : CannonId) : (s.updCannon c f).cannonEntry n = s.cannonEntry n := rfl
@[simp] theorem State.patternEntry_updCannon (c : CannonId) (f : Cannon → Cannon) (n : PatternId) : (s.updCannon c f).patternEntry n = s.patternEntry n := rfl
@[simp] theorem State.stationEntry_updCannon (c : CannonId) (f : Cannon → Cannon) (n : StationId) : (s.updCannon c f).stationEntry n = s.stationEntry n := rfl
@[simp] theorem State.sourceEntry_updCannon (c : CannonId) (f : Cannon → Cannon) (n : SourceId) : (s.updCannon c f).sourceEntry n = s.sourceEntry n := rfl
@[simp] theorem State.settings_updCannon (c : CannonId) (f : Cannon → Cannon) : (s.updCannon c f).settings = s.settings := rfl
theorem State.stationOf_updCannon (c : CannonId) (f : Cannon → Cannon) (n : CannonId) :
    (s.updCannon c f).stationOf n = if n = c then (f (s.cannon c)).station else s.stationOf n := by
  unfold State.stationOf; rw [State.cannon_updCannon]; split <;> rfl
@[simp] theorem State.stationOf_updCannon_self (c : CannonId) (f : Cannon → Cannon) :
    (s.updCannon c f).stationOf c = (f (s.cannon c)).station := by
  rw [State.stationOf_updCannon, if_pos rfl]
@[simp] theorem State.stationOf_updCannon_ne (c : CannonId) (f : Cannon → Cannon) (n : CannonId) (h : n ≠ c) :
    (s.updCannon c f).stationOf n = s.stationOf n := by
  rw [State.stationOf_updCannon, if_neg h]
/-- A change of a cannon that keeps its station moves no cannon. -/
theorem State.stationOf_updCannon_keep (c : CannonId) (f : Cannon → Cannon) (n : CannonId)
    (h : (f (s.cannon c)).station = (s.cannon c).station) : (s.updCannon c f).stationOf n = s.stationOf n := by
  rw [State.stationOf_updCannon]; split
  · rename_i e; rw [h, e]; rfl
  · rfl
@[simp] theorem State.wired_updCannon (c : CannonId) (f : Cannon → Cannon) (n : CannonId) : (s.updCannon c f).wired n = s.wired n := rfl
@[simp] theorem State.profileOf_updCannon (c : CannonId) (f : Cannon → Cannon) (n : ZoneId) : (s.updCannon c f).profileOf n = s.profileOf n := rfl

/-! ## updStation -/

@[simp] theorem State.mast_updStation (g : StationId) (f : Station → Station) (n : MastId) : (s.updStation g f).mast n = s.mast n := rfl
@[simp] theorem State.dust_updStation (g : StationId) (f : Station → Station) (n : DustId) : (s.updStation g f).dust n = s.dust n := rfl
@[simp] theorem State.probe_updStation (g : StationId) (f : Station → Station) (n : ZoneId) : (s.updStation g f).probe n = s.probe n := rfl
@[simp] theorem State.slotAt_updStation (g : StationId) (f : Station → Station) (n : Fin 48) : (s.updStation g f).slotAt n = s.slotAt n := rfl
@[simp] theorem State.zone_updStation (g : StationId) (f : Station → Station) (n : ZoneId) : (s.updStation g f).zone n = s.zone n := rfl
@[simp] theorem State.cannon_updStation (g : StationId) (f : Station → Station) (n : CannonId) : (s.updStation g f).cannon n = s.cannon n := rfl
theorem State.station_updStation (g : StationId) (f : Station → Station) (n : StationId) :
    (s.updStation g f).station n = if n = g then f (s.station g) else s.station n := updAt_get _ _ _ _
@[simp] theorem State.station_updStation_self (g : StationId) (f : Station → Station) : (s.updStation g f).station g = f (s.station g) := updAt_get_self _ _ _
@[simp] theorem State.station_updStation_ne (g : StationId) (f : Station → Station) (n : StationId) (h : n ≠ g) : (s.updStation g f).station n = s.station n := updAt_get_ne _ _ _ _ h
@[simp] theorem State.source_updStation (g : StationId) (f : Station → Station) (n : SourceId) : (s.updStation g f).source n = s.source n := rfl
@[simp] theorem State.machine_updStation (g : StationId) (f : Station → Station) (n : MachineId) : (s.updStation g f).machine n = s.machine n := rfl
@[simp] theorem State.machineCount_updStation (g : StationId) (f : Station → Station) (n : ZoneId) : (s.updStation g f).machineCount n = s.machineCount n := rfl
@[simp] theorem State.zoneEntry_updStation (g : StationId) (f : Station → Station) (n : ZoneId) : (s.updStation g f).zoneEntry n = s.zoneEntry n := rfl
@[simp] theorem State.profile_updStation (g : StationId) (f : Station → Station) (n : ProfileId) : (s.updStation g f).profile n = s.profile n := rfl
@[simp] theorem State.cannonEntry_updStation (g : StationId) (f : Station → Station) (n : CannonId) : (s.updStation g f).cannonEntry n = s.cannonEntry n := rfl
@[simp] theorem State.patternEntry_updStation (g : StationId) (f : Station → Station) (n : PatternId) : (s.updStation g f).patternEntry n = s.patternEntry n := rfl
@[simp] theorem State.stationEntry_updStation (g : StationId) (f : Station → Station) (n : StationId) : (s.updStation g f).stationEntry n = s.stationEntry n := rfl
@[simp] theorem State.sourceEntry_updStation (g : StationId) (f : Station → Station) (n : SourceId) : (s.updStation g f).sourceEntry n = s.sourceEntry n := rfl
@[simp] theorem State.settings_updStation (g : StationId) (f : Station → Station) : (s.updStation g f).settings = s.settings := rfl
@[simp] theorem State.stationOf_updStation (g : StationId) (f : Station → Station) (n : CannonId) : (s.updStation g f).stationOf n = s.stationOf n := rfl
@[simp] theorem State.wired_updStation (g : StationId) (f : Station → Station) (n : CannonId) : (s.updStation g f).wired n = s.wired n := rfl
@[simp] theorem State.profileOf_updStation (g : StationId) (f : Station → Station) (n : ZoneId) : (s.updStation g f).profileOf n = s.profileOf n := rfl

/-! ## updSource -/

@[simp] theorem State.mast_updSource (w : SourceId) (f : Source → Source) (n : MastId) : (s.updSource w f).mast n = s.mast n := rfl
@[simp] theorem State.dust_updSource (w : SourceId) (f : Source → Source) (n : DustId) : (s.updSource w f).dust n = s.dust n := rfl
@[simp] theorem State.probe_updSource (w : SourceId) (f : Source → Source) (n : ZoneId) : (s.updSource w f).probe n = s.probe n := rfl
@[simp] theorem State.slotAt_updSource (w : SourceId) (f : Source → Source) (n : Fin 48) : (s.updSource w f).slotAt n = s.slotAt n := rfl
@[simp] theorem State.zone_updSource (w : SourceId) (f : Source → Source) (n : ZoneId) : (s.updSource w f).zone n = s.zone n := rfl
@[simp] theorem State.cannon_updSource (w : SourceId) (f : Source → Source) (n : CannonId) : (s.updSource w f).cannon n = s.cannon n := rfl
@[simp] theorem State.station_updSource (w : SourceId) (f : Source → Source) (n : StationId) : (s.updSource w f).station n = s.station n := rfl
theorem State.source_updSource (w : SourceId) (f : Source → Source) (n : SourceId) :
    (s.updSource w f).source n = if n = w then f (s.source w) else s.source n := updAt_get _ _ _ _
@[simp] theorem State.source_updSource_self (w : SourceId) (f : Source → Source) : (s.updSource w f).source w = f (s.source w) := updAt_get_self _ _ _
@[simp] theorem State.source_updSource_ne (w : SourceId) (f : Source → Source) (n : SourceId) (h : n ≠ w) : (s.updSource w f).source n = s.source n := updAt_get_ne _ _ _ _ h
@[simp] theorem State.machine_updSource (w : SourceId) (f : Source → Source) (n : MachineId) : (s.updSource w f).machine n = s.machine n := rfl
@[simp] theorem State.machineCount_updSource (w : SourceId) (f : Source → Source) (n : ZoneId) : (s.updSource w f).machineCount n = s.machineCount n := rfl
@[simp] theorem State.zoneEntry_updSource (w : SourceId) (f : Source → Source) (n : ZoneId) : (s.updSource w f).zoneEntry n = s.zoneEntry n := rfl
@[simp] theorem State.profile_updSource (w : SourceId) (f : Source → Source) (n : ProfileId) : (s.updSource w f).profile n = s.profile n := rfl
@[simp] theorem State.cannonEntry_updSource (w : SourceId) (f : Source → Source) (n : CannonId) : (s.updSource w f).cannonEntry n = s.cannonEntry n := rfl
@[simp] theorem State.patternEntry_updSource (w : SourceId) (f : Source → Source) (n : PatternId) : (s.updSource w f).patternEntry n = s.patternEntry n := rfl
@[simp] theorem State.stationEntry_updSource (w : SourceId) (f : Source → Source) (n : StationId) : (s.updSource w f).stationEntry n = s.stationEntry n := rfl
@[simp] theorem State.sourceEntry_updSource (w : SourceId) (f : Source → Source) (n : SourceId) : (s.updSource w f).sourceEntry n = s.sourceEntry n := rfl
@[simp] theorem State.settings_updSource (w : SourceId) (f : Source → Source) : (s.updSource w f).settings = s.settings := rfl
@[simp] theorem State.stationOf_updSource (w : SourceId) (f : Source → Source) (n : CannonId) : (s.updSource w f).stationOf n = s.stationOf n := rfl
@[simp] theorem State.wired_updSource (w : SourceId) (f : Source → Source) (n : CannonId) : (s.updSource w f).wired n = s.wired n := rfl
@[simp] theorem State.profileOf_updSource (w : SourceId) (f : Source → Source) (n : ZoneId) : (s.updSource w f).profileOf n = s.profileOf n := rfl

/-! ## updMachine -/

@[simp] theorem State.mast_updMachine (m : MachineId) (f : MachineRecord → MachineRecord) (n : MastId) : (s.updMachine m f).mast n = s.mast n := rfl
@[simp] theorem State.dust_updMachine (m : MachineId) (f : MachineRecord → MachineRecord) (n : DustId) : (s.updMachine m f).dust n = s.dust n := rfl
@[simp] theorem State.probe_updMachine (m : MachineId) (f : MachineRecord → MachineRecord) (n : ZoneId) : (s.updMachine m f).probe n = s.probe n := rfl
@[simp] theorem State.slotAt_updMachine (m : MachineId) (f : MachineRecord → MachineRecord) (n : Fin 48) : (s.updMachine m f).slotAt n = s.slotAt n := rfl
@[simp] theorem State.zone_updMachine (m : MachineId) (f : MachineRecord → MachineRecord) (n : ZoneId) : (s.updMachine m f).zone n = s.zone n := rfl
@[simp] theorem State.cannon_updMachine (m : MachineId) (f : MachineRecord → MachineRecord) (n : CannonId) : (s.updMachine m f).cannon n = s.cannon n := rfl
@[simp] theorem State.station_updMachine (m : MachineId) (f : MachineRecord → MachineRecord) (n : StationId) : (s.updMachine m f).station n = s.station n := rfl
@[simp] theorem State.source_updMachine (m : MachineId) (f : MachineRecord → MachineRecord) (n : SourceId) : (s.updMachine m f).source n = s.source n := rfl
theorem State.machine_updMachine (m : MachineId) (f : MachineRecord → MachineRecord) (n : MachineId) :
    (s.updMachine m f).machine n = if n = m then f (s.machine m) else s.machine n := updAt_get _ _ _ _
@[simp] theorem State.machine_updMachine_self (m : MachineId) (f : MachineRecord → MachineRecord) : (s.updMachine m f).machine m = f (s.machine m) := updAt_get_self _ _ _
@[simp] theorem State.machine_updMachine_ne (m : MachineId) (f : MachineRecord → MachineRecord) (n : MachineId) (h : n ≠ m) : (s.updMachine m f).machine n = s.machine n := updAt_get_ne _ _ _ _ h
@[simp] theorem State.machineCount_updMachine (m : MachineId) (f : MachineRecord → MachineRecord) (n : ZoneId) : (s.updMachine m f).machineCount n = s.machineCount n := rfl
@[simp] theorem State.zoneEntry_updMachine (m : MachineId) (f : MachineRecord → MachineRecord) (n : ZoneId) : (s.updMachine m f).zoneEntry n = s.zoneEntry n := rfl
@[simp] theorem State.profile_updMachine (m : MachineId) (f : MachineRecord → MachineRecord) (n : ProfileId) : (s.updMachine m f).profile n = s.profile n := rfl
@[simp] theorem State.cannonEntry_updMachine (m : MachineId) (f : MachineRecord → MachineRecord) (n : CannonId) : (s.updMachine m f).cannonEntry n = s.cannonEntry n := rfl
@[simp] theorem State.patternEntry_updMachine (m : MachineId) (f : MachineRecord → MachineRecord) (n : PatternId) : (s.updMachine m f).patternEntry n = s.patternEntry n := rfl
@[simp] theorem State.stationEntry_updMachine (m : MachineId) (f : MachineRecord → MachineRecord) (n : StationId) : (s.updMachine m f).stationEntry n = s.stationEntry n := rfl
@[simp] theorem State.sourceEntry_updMachine (m : MachineId) (f : MachineRecord → MachineRecord) (n : SourceId) : (s.updMachine m f).sourceEntry n = s.sourceEntry n := rfl
@[simp] theorem State.settings_updMachine (m : MachineId) (f : MachineRecord → MachineRecord) : (s.updMachine m f).settings = s.settings := rfl
@[simp] theorem State.stationOf_updMachine (m : MachineId) (f : MachineRecord → MachineRecord) (n : CannonId) : (s.updMachine m f).stationOf n = s.stationOf n := rfl
@[simp] theorem State.wired_updMachine (m : MachineId) (f : MachineRecord → MachineRecord) (n : CannonId) : (s.updMachine m f).wired n = s.wired n := rfl
@[simp] theorem State.profileOf_updMachine (m : MachineId) (f : MachineRecord → MachineRecord) (n : ZoneId) : (s.updMachine m f).profileOf n = s.profileOf n := rfl

/-! ## updCount -/

@[simp] theorem State.mast_updCount (z : ZoneId) (f : Nat → Nat) (n : MastId) : (s.updCount z f).mast n = s.mast n := rfl
@[simp] theorem State.dust_updCount (z : ZoneId) (f : Nat → Nat) (n : DustId) : (s.updCount z f).dust n = s.dust n := rfl
@[simp] theorem State.probe_updCount (z : ZoneId) (f : Nat → Nat) (n : ZoneId) : (s.updCount z f).probe n = s.probe n := rfl
@[simp] theorem State.slotAt_updCount (z : ZoneId) (f : Nat → Nat) (n : Fin 48) : (s.updCount z f).slotAt n = s.slotAt n := rfl
@[simp] theorem State.zone_updCount (z : ZoneId) (f : Nat → Nat) (n : ZoneId) : (s.updCount z f).zone n = s.zone n := rfl
@[simp] theorem State.cannon_updCount (z : ZoneId) (f : Nat → Nat) (n : CannonId) : (s.updCount z f).cannon n = s.cannon n := rfl
@[simp] theorem State.station_updCount (z : ZoneId) (f : Nat → Nat) (n : StationId) : (s.updCount z f).station n = s.station n := rfl
@[simp] theorem State.source_updCount (z : ZoneId) (f : Nat → Nat) (n : SourceId) : (s.updCount z f).source n = s.source n := rfl
@[simp] theorem State.machine_updCount (z : ZoneId) (f : Nat → Nat) (n : MachineId) : (s.updCount z f).machine n = s.machine n := rfl
theorem State.machineCount_updCount (z : ZoneId) (f : Nat → Nat) (n : ZoneId) :
    (s.updCount z f).machineCount n = if n = z then f (s.machineCount z) else s.machineCount n := updAt_get _ _ _ _
@[simp] theorem State.machineCount_updCount_self (z : ZoneId) (f : Nat → Nat) : (s.updCount z f).machineCount z = f (s.machineCount z) := updAt_get_self _ _ _
@[simp] theorem State.machineCount_updCount_ne (z : ZoneId) (f : Nat → Nat) (n : ZoneId) (h : n ≠ z) : (s.updCount z f).machineCount n = s.machineCount n := updAt_get_ne _ _ _ _ h
@[simp] theorem State.zoneEntry_updCount (z : ZoneId) (f : Nat → Nat) (n : ZoneId) : (s.updCount z f).zoneEntry n = s.zoneEntry n := rfl
@[simp] theorem State.profile_updCount (z : ZoneId) (f : Nat → Nat) (n : ProfileId) : (s.updCount z f).profile n = s.profile n := rfl
@[simp] theorem State.cannonEntry_updCount (z : ZoneId) (f : Nat → Nat) (n : CannonId) : (s.updCount z f).cannonEntry n = s.cannonEntry n := rfl
@[simp] theorem State.patternEntry_updCount (z : ZoneId) (f : Nat → Nat) (n : PatternId) : (s.updCount z f).patternEntry n = s.patternEntry n := rfl
@[simp] theorem State.stationEntry_updCount (z : ZoneId) (f : Nat → Nat) (n : StationId) : (s.updCount z f).stationEntry n = s.stationEntry n := rfl
@[simp] theorem State.sourceEntry_updCount (z : ZoneId) (f : Nat → Nat) (n : SourceId) : (s.updCount z f).sourceEntry n = s.sourceEntry n := rfl
@[simp] theorem State.settings_updCount (z : ZoneId) (f : Nat → Nat) : (s.updCount z f).settings = s.settings := rfl
@[simp] theorem State.stationOf_updCount (z : ZoneId) (f : Nat → Nat) (n : CannonId) : (s.updCount z f).stationOf n = s.stationOf n := rfl
@[simp] theorem State.wired_updCount (z : ZoneId) (f : Nat → Nat) (n : CannonId) : (s.updCount z f).wired n = s.wired n := rfl
@[simp] theorem State.profileOf_updCount (z : ZoneId) (f : Nat → Nat) (n : ZoneId) : (s.updCount z f).profileOf n = s.profileOf n := rfl

/-! ## updCfg -/

@[simp] theorem State.mast_updCfg (f : Tables → Tables) (n : MastId) : (s.updCfg f).mast n = s.mast n := rfl
@[simp] theorem State.dust_updCfg (f : Tables → Tables) (n : DustId) : (s.updCfg f).dust n = s.dust n := rfl
@[simp] theorem State.probe_updCfg (f : Tables → Tables) (n : ZoneId) : (s.updCfg f).probe n = s.probe n := rfl
@[simp] theorem State.slotAt_updCfg (f : Tables → Tables) (n : Fin 48) : (s.updCfg f).slotAt n = s.slotAt n := rfl
@[simp] theorem State.zone_updCfg (f : Tables → Tables) (n : ZoneId) : (s.updCfg f).zone n = s.zone n := rfl
@[simp] theorem State.cannon_updCfg (f : Tables → Tables) (n : CannonId) : (s.updCfg f).cannon n = s.cannon n := rfl
@[simp] theorem State.station_updCfg (f : Tables → Tables) (n : StationId) : (s.updCfg f).station n = s.station n := rfl
@[simp] theorem State.source_updCfg (f : Tables → Tables) (n : SourceId) : (s.updCfg f).source n = s.source n := rfl
@[simp] theorem State.machine_updCfg (f : Tables → Tables) (n : MachineId) : (s.updCfg f).machine n = s.machine n := rfl
@[simp] theorem State.machineCount_updCfg (f : Tables → Tables) (n : ZoneId) : (s.updCfg f).machineCount n = s.machineCount n := rfl
@[simp] theorem State.stationOf_updCfg (f : Tables → Tables) (n : CannonId) : (s.updCfg f).stationOf n = s.stationOf n := rfl

end Sys2Proof.Machine
end

