-- ==== Sys2Proof/Laws/Ops.lean ====
section
/-! SUPPORT. What the shared operations over bytes, choices, notices and the command queue do, each said once. -/

namespace Sys2Proof.Machine

/-! ## Bytes -/

theorem byte_toNat {n : Nat} (h : n < 256) : (byte n).toNat = n := by
  simp only [byte, BitVec.toNat_ofNat]; omega

/-- A byte keeps its number modulo 256. -/
theorem byte_toNat_mod (n : Nat) : (byte n).toNat = n % 256 := by
  simp [byte, BitVec.toNat_ofNat]

@[simp] theorem byte_of_toNat (b : Byte) : byte b.toNat = b := by
  simp [byte]

/-- Two bytes written high byte first read back as their number. -/
theorem nat16_bytes {n : Nat} (h : n < 65536) : nat16 (byte (n / 256)) (byte n) = n := by
  simp only [nat16, byte_toNat_mod]; omega

/-- Four bytes written high byte first read back as their number. -/
theorem nat32_bytes {n : Nat} (h : n < 4294967296) :
    nat32 (byte (n / 16777216)) (byte (n / 65536)) (byte (n / 256)) (byte n) = n := by
  simp only [nat32, byte_toNat_mod]; omega

theorem nat16_lt (a b : Byte) : nat16 a b < 65536 := by
  have := a.isLt; have := b.isLt; unfold nat16; omega

theorem nat32_lt (a b c d : Byte) : nat32 a b c d < 4294967296 := by
  have := a.isLt; have := b.isLt; have := c.isLt; have := d.isLt; unfold nat32; omega

@[simp] theorem be16_length (n : Nat) : (be16 n).length = 2 := rfl
@[simp] theorem be32_length (n : Nat) : (be32 n).length = 4 := rfl

/-- A value below the bound is a member of the type. -/
theorem below_of_lt {n v : Nat} (h : v < n) : below n v = some ⟨v, h⟩ := by
  simp [below, h]

theorem below_of_not_lt {n v : Nat} (h : ¬ v < n) : below n v = none := by
  simp [below, h]

/-! ## The free choices -/

/-- A free order changes nothing but the choices made. -/
theorem shuffleAux_state {α : Type} (n : Nat) (l : List α) (s : State) :
    ∃ cs k, (shuffleAux n l s).2 = { s with choices := cs, choiceCount := k } := by
  induction n generalizing l s with
  | zero => exact ⟨s.choices, s.choiceCount, rfl⟩
  | succ n ih =>
    match l with
    | [] => exact ⟨s.choices, s.choiceCount, rfl⟩
    | [x] => exact ⟨s.choices, s.choiceCount, rfl⟩
    | x :: y :: l =>
      obtain ⟨cs, k, h⟩ := ih ((x :: y :: l).eraseIdx (s.nextChoice % (l.length + 2))) s.choose
      exact ⟨cs, k, by simpa [shuffleAux, State.choose] using h⟩

theorem shuffle_state {α : Type} (l : List α) (s : State) :
    ∃ cs k, (shuffle l s).2 = { s with choices := cs, choiceCount := k } :=
  shuffleAux_state l.length l s

/-- A free order is an order: the list it gives is a permutation of its argument. -/
theorem shuffleAux_perm {α : Type} (n : Nat) (l : List α) (s : State) : (shuffleAux n l s).1.Perm l := by
  induction n generalizing l s with
  | zero => exact .refl l
  | succ n ih =>
    match l with
    | [] => exact .refl []
    | [x] => exact .refl [x]
    | x :: y :: l =>
      have hj : s.nextChoice % (l.length + 2) < (x :: y :: l).length := Nat.mod_lt _ (by simp)
      have h := ih ((x :: y :: l).eraseIdx (s.nextChoice % (l.length + 2))) s.choose
      simp only [shuffleAux]
      exact (h.cons _).trans (List.getElem_cons_eraseIdx_perm hj)

theorem shuffle_perm {α : Type} (l : List α) (s : State) : (shuffle l s).1.Perm l := shuffleAux_perm l.length l s

/-- A list of at most one member takes no choice. -/
@[simp] theorem shuffle_nil {α : Type} (s : State) : shuffle ([] : List α) s = ([], s) := rfl
@[simp] theorem shuffle_singleton {α : Type} (x : α) (s : State) : shuffle [x] s = ([x], s) := rfl

/-! ## Notices -/

/-- The places of the queue stay 32 (R188). -/
theorem place_length (q : NoticeQueue) (r : Report) (t : Stamp) (h : q.entries.length ≤ 32) :
    (q.place r t).entries.length ≤ 32 := by
  unfold NoticeQueue.place
  split
  · simpa using h
  · split
    · simp; omega
    · exact h

/-- The lost count saturates (R188). -/
theorem place_lost (q : NoticeQueue) (r : Report) (t : Stamp) (h : q.lost ≤ 65535) : (q.place r t).lost ≤ 65535 := by
  unfold NoticeQueue.place
  split
  · exact h
  · split
    · exact h
    · exact Nat.min_le_left _ _

@[simp] theorem raiseAll_nil (s : State) : raiseAll [] s = s := rfl
@[simp] theorem raiseAll_singleton (r : Report) (s : State) : raiseAll [r] s = raise r s := rfl

/-- Notices raised in a list change the notice queue alone. -/
theorem raiseList_state (rs : List Report) (s : State) :
    ∃ q, rs.foldl (fun s r => raise r s) s = { s with notices := q } := by
  induction rs generalizing s with
  | nil => exact ⟨s.notices, rfl⟩
  | cons r rs ih =>
    obtain ⟨q, h⟩ := ih (raise r s)
    exact ⟨q, by simpa [raise] using h⟩

/-- Notices raised together change the notice queue and the choices made, and nothing else. -/
theorem raiseAll_state (rs : List Report) (s : State) :
    ∃ q cs k, raiseAll rs s = { s with notices := q, choices := cs, choiceCount := k } := by
  obtain ⟨cs, k, hs⟩ := shuffle_state rs s
  obtain ⟨q, hq⟩ := raiseList_state (shuffle rs s).1 (shuffle rs s).2
  exact ⟨q, cs, k, by rw [raiseAll, hq, hs]⟩

/-! ## The command queue -/

/-- A CLOSE queued for a cannon changes the command queue alone: it joins the tail, or is not queued a second time (R104). -/
theorem queueClose_eq (c : CannonId) (s : State) :
    queueClose c s =
      { s with commands := if s.hasCommand c then s.commands else s.commands ++ [{ cannon := c, verb := .closeValve }] } := by
  unfold queueClose; split <;> simp_all

/-- After it the cannon has a command queued. -/
theorem hasCommand_queueClose (c : CannonId) (s : State) : (queueClose c s).hasCommand c = true := by
  unfold queueClose
  split
  · assumption
  · simp [State.hasCommand]

/-! ## The node map -/

/-- A role some entry holds has a node id, and only such a role has one (R2). -/
theorem nodeOf_isSome (s : State) (r : NodeRole) : (s.nodeOf r).isSome = s.mapped r := by
  unfold State.nodeOf State.mapped
  rw [Option.isSome_map, Bool.eq_iff_iff, List.findIdx?_isSome, decide_eq_true_iff, List.any_eq_true]
  exact ⟨fun ⟨x, hx, e⟩ => of_decide_eq_true e ▸ hx, fun h => ⟨r, h, decide_eq_true rfl⟩⟩

/-! ## Each cannon in turn -/

/-- An operation that changes each cannon of a list by itself changes exactly those, whatever their order. -/
theorem foldl_updCannon (g : CannonId → Cannon → Cannon) (l : List CannonId) (hl : l.Nodup) (s : State) :
    (l.foldl (fun t c => t.updCannon c (g c)) s) =
      { s with cannons := Vector.ofFn fun c => if c ∈ l then g c (s.cannon c) else s.cannon c } := by
  induction l generalizing s with
  | nil =>
    simp only [List.foldl_nil, List.not_mem_nil, if_false]
    have : (Vector.ofFn fun c : CannonId => s.cannon c) = s.cannons := vector_ext_fin fun i => by simp [State.cannon]
    rw [this]
  | cons c l ih =>
    obtain ⟨hc, hl⟩ := List.nodup_cons.mp hl
    rw [List.foldl_cons, ih hl]
    have e : (Vector.ofFn fun i => if i ∈ l then g i ((s.updCannon c (g c)).cannon i) else (s.updCannon c (g c)).cannon i) =
        Vector.ofFn fun i => if i ∈ c :: l then g i (s.cannon i) else s.cannon i := by
      congr 1
      funext i
      rw [State.cannon_updCannon]
      by_cases h : i = c
      · subst h; simp [hc]
      · simp [h]
    exact congrArg (fun v => { s with cannons := v }) e

/-- The same over all forty-eight. -/
theorem eachCannon_updCannon (g : CannonId → Cannon → Cannon) (s : State) :
    eachCannon (fun c t => t.updCannon c (g c)) s =
      { s with cannons := Vector.ofFn fun c => g c (s.cannon c) } := by
  unfold eachCannon
  rw [foldl_updCannon g _ (List.nodup_finRange 48)]
  simp

/-- Withdrawal removes the zone's AUTO requests with their owed counts and changes nothing else (R57). -/
theorem withdraw_eq (z : ZoneId) (s : State) :
    withdraw z s =
      { s with
        cannons := Vector.ofFn fun c =>
          if (s.cannon c).request.any (·.ownedBy z) then { s.cannon c with request := none, owed := 0 }
          else s.cannon c } := by
  unfold withdraw
  rw [eachCannon_updCannon (fun _ k => if k.request.any (·.ownedBy z) then { k with request := none, owed := 0 } else k)]

end Sys2Proof.Machine
end

