-- ==== Sys2Proof/Laws/Dispatch.lean ====
section
/-! SUPPORT. What closes, grants, arbitration and capacity events can change, said once for each operation: the records of
cannons, stations and sources, the command and notice queues, and the choices made. -/

namespace Sys2Proof.Machine

/-! ## The frame of the dispatch operations -/

/-- All that a close, a grant, an arbitration or a capacity event leaves alone. -/
structure State.DispatchFrame (s t : State) : Prop where
  phase : t.phase = s.phase
  straps : t.straps = s.straps
  cfg : t.cfg = s.cfg
  masts : t.masts = s.masts
  dusts : t.dusts = s.dusts
  probes : t.probes = s.probes
  clock : t.clock = s.clock
  ring : t.ring = s.ring
  zones : t.zones = s.zones
  machines : t.machines = s.machines
  machineCounts : t.machineCounts = s.machineCounts
  mode : t.mode = s.mode
  lastChange : t.lastChange = s.lastChange
  controlPort : t.controlPort = s.controlPort
  fieldPort : t.fieldPort = s.fieldPort
  requests : t.requests = s.requests
  replies : t.replies = s.replies
  store : t.store = s.store
  saving : t.saving = s.saving
  storeFound : t.storeFound = s.storeFound
  pending : t.pending = s.pending

theorem State.DispatchFrame.refl (s : State) : s.DispatchFrame s := by constructor <;> rfl

theorem State.DispatchFrame.trans {s t u : State} (h : s.DispatchFrame t) (k : t.DispatchFrame u) : s.DispatchFrame u := by
  constructor
  · rw [k.phase, h.phase]
  · rw [k.straps, h.straps]
  · rw [k.cfg, h.cfg]
  · rw [k.masts, h.masts]
  · rw [k.dusts, h.dusts]
  · rw [k.probes, h.probes]
  · rw [k.clock, h.clock]
  · rw [k.ring, h.ring]
  · rw [k.zones, h.zones]
  · rw [k.machines, h.machines]
  · rw [k.machineCounts, h.machineCounts]
  · rw [k.mode, h.mode]
  · rw [k.lastChange, h.lastChange]
  · rw [k.controlPort, h.controlPort]
  · rw [k.fieldPort, h.fieldPort]
  · rw [k.requests, h.requests]
  · rw [k.replies, h.replies]
  · rw [k.store, h.store]
  · rw [k.saving, h.saving]
  · rw [k.storeFound, h.storeFound]
  · rw [k.pending, h.pending]

/-- A fold of operations that each keep the frame keeps it. -/
theorem frame_foldl {α : Type} (f : State → α → State) (hf : ∀ (s : State) (a : α), s.DispatchFrame (f s a)) (l : List α) (s : State) :
    s.DispatchFrame (l.foldl f s) := by
  induction l generalizing s with
  | nil => exact .refl s
  | cons a l ih => exact (hf s a).trans (ih _)

/-! ## Plain updates -/

theorem frame_updCannon (c : CannonId) (f : Cannon → Cannon) (s : State) : s.DispatchFrame (s.updCannon c f) := by
  constructor <;> rfl
theorem frame_updStation (g : StationId) (f : Station → Station) (s : State) : s.DispatchFrame (s.updStation g f) := by
  constructor <;> rfl
theorem frame_updSource (w : SourceId) (f : Source → Source) (s : State) : s.DispatchFrame (s.updSource w f) := by
  constructor <;> rfl
theorem frame_mapStations (f : Station → Station) (s : State) : s.DispatchFrame (s.mapStations f) := by
  constructor <;> rfl
theorem frame_capacityDue (g : StationId) (s : State) : s.DispatchFrame (capacityDue g s) := by constructor <;> rfl
theorem frame_raise (r : Report) (s : State) : s.DispatchFrame (raise r s) := by constructor <;> rfl
theorem frame_queueOpen (c : CannonId) (s : State) : s.DispatchFrame (queueOpen c s) := by constructor <;> rfl
theorem frame_removeOpen (c : CannonId) (s : State) : s.DispatchFrame (removeOpen c s) := by constructor <;> rfl
theorem frame_queueClose (c : CannonId) (s : State) : s.DispatchFrame (queueClose c s) := by
  rw [queueClose_eq]; constructor <;> rfl
theorem frame_takePlace (c : CannonId) (s : State) : s.DispatchFrame (takePlace c s) := frame_updStation _ _ s
theorem frame_leavePlace (c : CannonId) (s : State) : s.DispatchFrame (leavePlace c s) := frame_updStation _ _ s
theorem frame_stopWaiting (c : CannonId) (s : State) : s.DispatchFrame (stopWaiting c s) := frame_mapStations _ s
theorem frame_endClosing (c : CannonId) (s : State) : s.DispatchFrame (endClosing c s) := frame_mapStations _ s
theorem frame_endPreemption (c : CannonId) (s : State) : s.DispatchFrame (endPreemption c s) := frame_mapStations _ s
theorem frame_dropRequest (c : CannonId) (s : State) : s.DispatchFrame (dropRequest c s) :=
  (frame_updCannon c _ s).trans (frame_endPreemption c _)
theorem frame_shuffle {α : Type} (l : List α) (s : State) : s.DispatchFrame (shuffle l s).2 := by
  obtain ⟨cs, k, h⟩ := shuffle_state l s
  rw [h]; constructor <;> rfl

/-! ## Closes -/

theorem frame_takeClose (c : CannonId) (s : State) : s.DispatchFrame (takeClose c s) :=
  (((frame_updCannon c _ s).trans (frame_stopWaiting c _)).trans (frame_takePlace c _)).trans (frame_queueClose c _)

theorem frame_joinWaiting (c : CannonId) (s : State) : s.DispatchFrame (joinWaiting c s) := by
  unfold joinWaiting; split
  · exact .refl s
  · exact frame_updStation _ _ s

theorem frame_closeWithoutBurst (c : CannonId) (s : State) : s.DispatchFrame (closeWithoutBurst c s) := by
  unfold closeWithoutBurst
  split <;> first | exact .refl s | skip
  all_goals split
  all_goals first | exact frame_takeClose c s | exact frame_joinWaiting c s

theorem frame_walkWaiting (g : StationId) (s : State) : s.DispatchFrame (walkWaiting g s) := by
  refine frame_foldl _ (fun t c => ?_) _ s
  split
  · exact frame_takeClose c t
  · exact .refl t

theorem frame_confirmingClose (c : CannonId) (s : State) : s.DispatchFrame (confirmingClose c s) := by
  unfold confirmingClose; split
  · exact frame_queueClose c s
  · exact .refl s

theorem frame_dropUnsent (next : CannonState) (c : CannonId) (s : State) : s.DispatchFrame (dropUnsent next c s) := by
  unfold dropUnsent
  dsimp only
  refine State.DispatchFrame.trans ?_ (frame_capacityDue _ _)
  refine State.DispatchFrame.trans ?_ (frame_endClosing _ _)
  refine State.DispatchFrame.trans ?_ (frame_leavePlace _ _)
  refine State.DispatchFrame.trans ?_ (frame_removeOpen _ _)
  refine State.DispatchFrame.trans ?_ (frame_updCannon _ _ _)
  split
  · exact frame_updSource _ _ s
  · exact .refl s

theorem frame_startClosing (forFault : Bool) (c : CannonId) (s : State) : s.DispatchFrame (startClosing forFault c s) :=
  (frame_updCannon c _ s).trans (frame_queueClose c _)

theorem frame_earlyClose (c : CannonId) (s : State) : s.DispatchFrame (earlyClose c s) := by
  unfold earlyClose
  split <;> first | exact .refl s | exact frame_startClosing _ c s | skip
  split
  · exact frame_dropUnsent _ c s
  · exact frame_startClosing _ c s

theorem frame_closeEach (cs : List CannonId) (s : State) : s.DispatchFrame (closeEach cs s) :=
  frame_foldl _ (fun t c => frame_earlyClose c t) cs s

theorem frame_closeAnyOrder (cs : List CannonId) (s : State) : s.DispatchFrame (closeAnyOrder cs s) :=
  (frame_shuffle cs s).trans (frame_closeEach _ _)

/-! ## Grants and arbitration -/

theorem frame_grant (g : StationId) (c : CannonId) (r : CannonRequest) (w : SourceId) (s : State) :
    s.DispatchFrame (grant g c r w s) := by
  unfold grant
  dsimp only
  have h : s.DispatchFrame ((takePlace c (queueOpen c (commit w
      (plannedDraw (s.cannonEntry c).flow (s.durationOf g r))
      (s.updCannon c fun k =>
        { k.afterGrant r with
          state := .opening
          burst := some (newBurst r k.target w (plannedDraw (s.cannonEntry c).flow (s.durationOf g r))
            (s.durationOf g r)) })))).updStation g fun x => { x with pointer := nextCannon c }) :=
    ((((frame_updCannon c _ s).trans (frame_updSource w _ _)).trans (frame_queueOpen c _)).trans
      (frame_takePlace c _)).trans (frame_updStation g _ _)
  cases r
  · exact h
  · exact h
  · exact h.trans (frame_endPreemption c _)

theorem frame_owe (c : CannonId) (s : State) : s.DispatchFrame (owe c s) := frame_updCannon c _ s

theorem frame_preempt (g : StationId) (c : CannonId) (s : State) : s.DispatchFrame (preempt g c s) := by
  unfold preempt
  split
  · exact .refl s
  · split
    · exact .refl s
    · exact (frame_earlyClose _ s).trans (frame_updStation g _ _)

theorem frame_arbitrate (g : StationId) (c : CannonId) (s : State) : s.DispatchFrame (arbitrate g c s) := by
  unfold arbitrate
  split
  · exact .refl s
  · dsimp only
    split
    · exact frame_grant g c _ _ s
    · split
      · exact frame_preempt g c s
      · exact frame_owe c s
      · exact .refl s
    · exact frame_owe c s

theorem frame_arbitrateAll (g : StationId) (cs : List CannonId) (s : State) : s.DispatchFrame (arbitrateAll g cs s) :=
  frame_foldl _ (fun t c => frame_arbitrate g c t) cs s

theorem frame_arbitrateFires (g : StationId) (s : State) : s.DispatchFrame (arbitrateFires g s) := by
  unfold arbitrateFires
  split
  · exact frame_arbitrateAll g _ s
  · exact .refl s

theorem frame_arbitrateFire (c : CannonId) (s : State) : s.DispatchFrame (arbitrateFire c s) := by
  unfold arbitrateFire
  split
  · exact frame_arbitrate _ c s
  · exact .refl s

theorem frame_arbitrateSlot (g : StationId) (s : State) : s.DispatchFrame (arbitrateSlot g s) := frame_arbitrateAll g _ s

theorem frame_loseSlot (g : StationId) (s : State) : s.DispatchFrame (loseSlot g s) :=
  frame_foldl _ (fun t c => frame_owe c t) _ s

theorem frame_capacityEvent (g : StationId) (s : State) : s.DispatchFrame (capacityEvent g s) :=
  (frame_walkWaiting g s).trans (frame_arbitrateFires g _)

theorem frame_dueOrder (s : State) : s.DispatchFrame (dueOrder s).2 := by
  unfold dueOrder
  dsimp only
  split
  · exact frame_shuffle _ s
  · exact .refl s

/-- The capacity events of a step keep the frame. -/
theorem frame_settle (s : State) : s.DispatchFrame (settle s) := by
  unfold settle
  refine State.DispatchFrame.trans ?_ (frame_foldl _ (fun t g => frame_capacityEvent g t) _ _)
  exact (frame_dueOrder s).trans (by constructor <;> rfl)

/-- A station takes over a cannon by moving it from one close waiting list to another at most (R64, R89). -/
theorem frame_takeOver (g : StationId) (c : CannonId) (s : State) : s.DispatchFrame (takeOver g c s) := by
  unfold takeOver
  split
  · dsimp only
    split
    · exact ((frame_stopWaiting c s).trans (frame_updCannon c _ _)).trans (frame_joinWaiting c _)
    · exact (frame_stopWaiting c s).trans (frame_updCannon c _ _)
  · exact .refl s

theorem frame_slotStart (g : StationId) (s : State) : s.DispatchFrame (slotStart g s) := by
  have h : s.DispatchFrame (walkWaiting g (eachCannon (takeOver g) (s.updStation g fun x =>
      { x with slot := x.slot + 1, slotTimer := some (s.stationEntry g).slotLength }))) :=
    ((frame_updStation g _ s).trans (frame_foldl _ (fun t c => frame_takeOver g c t) _ _)).trans (frame_walkWaiting g _)
  unfold slotStart
  dsimp only
  split
  · split
    · exact h.trans (frame_arbitrateSlot g _)
    · exact h.trans (frame_loseSlot g _)
  · split
    · exact h.trans (frame_arbitrateFires g _)
    · exact h
  · split
    · exact h.trans (frame_arbitrateFires g _)
    · exact h
  · exact h

theorem frame_becomeStuck (c : CannonId) (s : State) : s.DispatchFrame (becomeStuck c s) := by
  unfold becomeStuck
  dsimp only
  refine State.DispatchFrame.trans ?_ (frame_foldl _ (fun t f => frame_arbitrateFire f t) _ _)
  exact ((frame_updCannon c _ s).trans (frame_raise _ _)).trans (frame_endClosing c _)

/-! ## Targets -/

theorem frame_retarget (c : CannonId) (s : State) : s.DispatchFrame (retarget c s) := frame_updCannon c _ s

theorem frame_deriveAgain (cs : List CannonId) (s : State) : s.DispatchFrame (deriveAgain cs s) :=
  (frame_foldl _ (fun t c => frame_retarget c t) cs s).trans (frame_closeAnyOrder _ _)

/-- The confirming CLOSEs of the field link's return change the command queue and the choices at most (R114, R176). -/
theorem frame_confirmAnyOrder (s : State) : s.DispatchFrame (confirmAnyOrder s) :=
  (frame_shuffle _ s).trans (frame_foldl _ (fun t c => frame_confirmingClose c t) _ _)

/-! ## The end of a step -/

/-- With no capacity event due, settling changes nothing (R90). -/
theorem settle_of_nothing_due (s : State) (h : s.dueCapacity = []) : settle s = s := by
  unfold settle dueOrder
  rw [h]
  have e : ({ s with dueCapacity := [] } : State) = s := by rw [← h]
  simpa using e

/-- No capacity event is left due when the capacity events of a step have been taken, if none of them brings another. -/
theorem settle_eq_foldl (s : State) :
    settle s = (dueOrder s).1.foldl (fun s g => capacityEvent g s) { (dueOrder s).2 with dueCapacity := [] } := rfl

/-- A port of which no source waits, or whose transmitter is busy, transmits nothing (R158). -/
theorem transmit_of_nothing_waits (p : Port) (s : State)
    (h : s.idlePort p → ¬ s.forwardWaits p ∧ ¬ s.insertionWaits p) : transmit p s = s := by
  unfold transmit
  split
  · rename_i hi
    obtain ⟨hf, hw⟩ := h hi
    simp only [Bool.not_eq_true] at hf hw
    simp [decideIdle, hf, hw]
  · rfl

/-- At rest the end of a step changes nothing (R158). -/
theorem transmitBoth_of_noneWaits (s : State) (h : s.NoneWaits) : transmitBoth s = s := by
  unfold transmitBoth
  rw [transmit_of_nothing_waits .field s (h .field (by simp)), transmit_of_nothing_waits .control s (h .control (by simp))]

/-- A step of a part that operates, whose own effect leaves no capacity event due. -/
theorem stepOf_of_settled (f : State → State) (s : State) (ho : s.operating = true) (hd : (f s).dueCapacity = []) :
    stepOf f s = transmitBoth (f s) := by
  unfold stepOf
  rw [if_pos ho, settle_of_nothing_due _ hd]

/-- A part that does not operate does nothing (R169). -/
theorem stepOf_of_not_operating (f : State → State) (s : State) (ho : s.operating = false) : stepOf f s = s := by
  unfold stepOf
  rw [if_neg (by simp [ho])]

/-! ## Free choices and capacity events as statements write them out -/

@[simp] theorem chosen_zero (s : State) : s.chosen 0 = s := rfl

theorem chosen_succ (s : State) (n : Nat) : s.choose.chosen n = s.chosen (n + 1) := by
  simp [State.choose, State.chosen, Nat.add_comm, Nat.add_left_comm]

@[simp] theorem chosen_cannon (s : State) (n : Nat) (c : CannonId) : (s.chosen n).cannon c = s.cannon c := rfl
@[simp] theorem chosen_station (s : State) (n : Nat) (g : StationId) : (s.chosen n).station g = s.station g := rfl
@[simp] theorem chosen_commands (s : State) (n : Nat) : (s.chosen n).commands = s.commands := rfl

theorem shuffleAux_chosen {α : Type} (n : Nat) (l : List α) (s : State) (h : l.length ≤ n) :
    (shuffleAux n l s).2 = s.chosen (l.length - 1) := by
  induction n generalizing l s with
  | zero =>
    rw [List.length_eq_zero_iff.1 (Nat.le_zero.1 h)]
    rfl
  | succ n ih =>
    match l with
    | [] => rfl
    | [x] => rfl
    | x :: y :: l =>
      simp only [shuffleAux]
      have hl : ∀ j, j < l.length + 2 → ((x :: y :: l).eraseIdx j).length = l.length + 1 := fun j hj => by
        rw [List.length_eraseIdx_of_lt (by simp only [List.length_cons]; omega), List.length_cons, List.length_cons, Nat.add_sub_cancel]
      have hj := hl (s.nextChoice % (l.length + 2)) (Nat.mod_lt _ (by omega))
      rw [ih _ _ (by rw [hj]; simp only [List.length_cons] at h; omega), hj, Nat.add_sub_cancel, chosen_succ]
      rfl

/-- A free order of a list takes one choice less than its length. -/
theorem shuffle_chosen {α : Type} (l : List α) (s : State) : (shuffle l s).2 = s.chosen (l.length - 1) :=
  shuffleAux_chosen l.length l s (Nat.le_refl _)

@[simp] theorem afterCapacities_nil (t u : State) : t.AfterCapacities u [] ↔ u = t := Iff.rfl

@[simp] theorem afterCapacities_cons (t u : State) (g : StationId) (gs : List StationId) :
    t.AfterCapacities u (g :: gs) ↔ ∃ v, t.AfterCapacity v g ∧ v.AfterCapacities u gs := Iff.rfl

end Sys2Proof.Machine
end

