-- ==== Sys2Proof/Laws/Cannons.lean ====
section
/-! SUPPORT. What closes and grants do to the cannon they are about, by its state, and re-banding to the zones; each
said once. -/

namespace Sys2Proof.Machine

variable (s : State) (c : CannonId)

/-! ## Early closes (R112) -/

theorem earlyClose_unsent (h : (s.cannon c).state = .opening) (hq : s.openQueued c = true) :
    earlyClose c s = dropUnsent .idle c s := by
  simp [earlyClose, h, hq]

theorem earlyClose_sent (h : (s.cannon c).state = .opening) (hq : s.openQueued c = false) :
    earlyClose c s = startClosing false c s := by
  simp [earlyClose, h, hq]

theorem earlyClose_spraying (h : (s.cannon c).state = .spraying) : earlyClose c s = startClosing false c s := by
  simp [earlyClose, h]

/-- An early close reaches a cannon in flight alone. -/
theorem earlyClose_of_not_inFlight (h : (s.cannon c).inFlight = false) : earlyClose c s = s := by
  have : (s.cannon c).state ≠ .opening ∧ (s.cannon c).state ≠ .spraying := by
    simpa [Cannon.inFlight] using h
  unfold earlyClose
  split <;> simp_all

/-- A close of a sent OPEN or a spraying valve is CLOSING with its CLOSE queued. -/
theorem startClosing_cannon (forFault : Bool) :
    (startClosing forFault c s).cannon c =
      { s.cannon c with
        state := .closing, burstTimer := none, ackTimer := none
        faultPending := (s.cannon c).faultPending || forFault } := by
  unfold startClosing
  rw [queueClose_eq]
  exact updAt_get_self _ _ _

theorem startClosing_cannon_ne (forFault : Bool) (d : CannonId) (h : d ≠ c) :
    (startClosing forFault c s).cannon d = s.cannon d := by
  unfold startClosing
  rw [queueClose_eq]
  exact updAt_get_ne _ _ _ _ h

/-- A cannon whose unsent OPEN is removed has neither burst nor timers (R110, R112). -/
theorem dropUnsent_cannon (next : CannonState) :
    (dropUnsent next c s).cannon c =
      { s.cannon c with state := next, burst := none, burstTimer := none, ackTimer := none, faultPending := false } := by
  unfold dropUnsent
  dsimp only
  split <;> exact updAt_get_self _ _ _

theorem dropUnsent_cannon_ne (next : CannonState) (d : CannonId) (h : d ≠ c) :
    (dropUnsent next c s).cannon d = s.cannon d := by
  unfold dropUnsent
  dsimp only
  split <;> exact updAt_get_ne _ _ _ _ h

/-- An early close changes no other cannon. -/
theorem earlyClose_cannon_ne (d : CannonId) (h : d ≠ c) : (earlyClose c s).cannon d = s.cannon d := by
  unfold earlyClose
  split <;> first | rfl | exact startClosing_cannon_ne s c _ d h | skip
  split
  · exact dropUnsent_cannon_ne s c _ d h
  · exact startClosing_cannon_ne s c _ d h

/-- An early close leaves its cannon out of flight. -/
theorem earlyClose_inFlight : ((earlyClose c s).cannon c).inFlight = false := by
  by_cases h : (s.cannon c).inFlight = true
  · have h' : (s.cannon c).state = .opening ∨ (s.cannon c).state = .spraying := by
      simpa [Cannon.inFlight] using h
    rcases h' with h' | h'
    · by_cases hq : s.openQueued c = true
      · rw [earlyClose_unsent s c h' hq, dropUnsent_cannon]; rfl
      · rw [earlyClose_sent s c h' (by simpa using hq), startClosing_cannon]; rfl
    · rw [earlyClose_spraying s c h', startClosing_cannon]; rfl
  · rw [earlyClose_of_not_inFlight s c (by simpa using h)]; simpa using h

/-- After the early closes of a list its cannons are out of flight, and the others are as they were. -/
theorem closeEach_cannon (cs : List CannonId) (s : State) (d : CannonId) :
    (d ∈ cs → ((closeEach cs s).cannon d).inFlight = false) ∧
    (d ∉ cs → (closeEach cs s).cannon d = s.cannon d) := by
  induction cs generalizing s with
  | nil => exact ⟨fun h => absurd h List.not_mem_nil, fun _ => rfl⟩
  | cons c cs ih =>
    have hstep : closeEach (c :: cs) s = closeEach cs (earlyClose c s) := rfl
    rw [hstep]
    obtain ⟨h1, h2⟩ := ih (earlyClose c s)
    refine ⟨fun h => ?_, fun h => ?_⟩
    · by_cases hd : d ∈ cs
      · exact h1 hd
      · have : d = c := by simpa [hd] using h
        subst this
        rw [h2 hd]
        exact earlyClose_inFlight s d
    · obtain ⟨hne, hd⟩ := not_or.mp (fun e => h (List.mem_cons.mpr e))
      rw [h2 hd, earlyClose_cannon_ne s c d hne]

/-! ## Closes without a burst (R89) -/

/-- An admitted close is CLOSING, with the fault-pending mark from FAULT. -/
theorem takeClose_cannon :
    (takeClose c s).cannon c =
      { s.cannon c with state := .closing, faultPending := decide ((s.cannon c).state = .fault) } := by
  unfold takeClose
  rw [queueClose_eq]
  exact updAt_get_self _ _ _

theorem takeClose_cannon_ne (d : CannonId) (h : d ≠ c) : (takeClose c s).cannon d = s.cannon d := by
  unfold takeClose
  rw [queueClose_eq]
  exact updAt_get_ne _ _ _ _ h

theorem joinWaiting_cannons : (joinWaiting c s).cannons = s.cannons := by
  unfold joinWaiting; split <;> rfl

/-- A close without a burst is admitted or waits, for a cannon in UNKNOWN, IDLE or FAULT, and is nothing for another. -/
theorem closeWithoutBurst_cases :
    closeWithoutBurst c s = s ∨ closeWithoutBurst c s = joinWaiting c s ∨
    (s.canClose c = true ∧ closeWithoutBurst c s = takeClose c s) := by
  unfold closeWithoutBurst
  split <;> first | exact .inl rfl | skip
  all_goals
    split
    · rename_i h; exact .inr (.inr ⟨h, rfl⟩)
    · exact .inr (.inl rfl)

/-! ## A station taking over a cannon (R64) -/

/-- What it does to the cannon is its station, and that for a cannon that holds no place. -/
theorem takeOver_cannon (g : StationId) (d : CannonId) :
    (takeOver g c s).cannon d =
      if d = c ∧ (s.cannonEntry c).station = g ∧ (s.cannon c).state.holdsPlace = false then
        { s.cannon d with station := g }
      else s.cannon d := by
  have moved : ∀ t : State, t.cannons = ((stopWaiting c s).updCannon c fun k => { k with station := g }).cannons →
      t.cannon d = if d = c then { s.cannon c with station := g } else s.cannon d := fun t ht =>
    (congrArg (fun v => v[d]) ht).trans (State.cannon_updCannon (stopWaiting c s) c _ d)
  unfold takeOver
  split
  · rename_i h
    have e : (if s.closeWaiting c = true then joinWaiting c ((stopWaiting c s).updCannon c fun k => { k with station := g })
        else (stopWaiting c s).updCannon c fun k => { k with station := g }).cannon d =
        if d = c then { s.cannon c with station := g } else s.cannon d := by
      split
      · exact moved _ (joinWaiting_cannons _ c)
      · exact moved _ rfl
    refine e.trans ?_
    by_cases hd : d = c
    · subst hd; simp [h.1, h.2.2]
    · simp [hd]
  · rename_i h
    split
    · rename_i h'
      obtain ⟨rfl, h1, h3⟩ := h'
      have h2 : (s.cannon d).station = g := by
        by_contra hne
        exact h ⟨h1, hne, by simp [h3]⟩
      rw [← h2]
    · rfl

/-! ## Re-banding (R52) -/

/-- Re-banding gives each zone of the list its next band and leaves the others. -/
theorem foldl_band (zs : List ZoneId) (hz : zs.Nodup) (band : ZoneId → Band) (s : State) (y : ZoneId) :
    (zs.foldl (fun t z => t.updZone z fun x => { x with band := band z }) s).zone y =
      if y ∈ zs then { s.zone y with band := band y } else s.zone y := by
  induction zs generalizing s with
  | nil => simp
  | cons z zs ih =>
    obtain ⟨hz1, hz2⟩ := List.nodup_cons.mp hz
    rw [List.foldl_cons, ih hz2, State.zone_updZone]
    by_cases h : y = z
    · subst h; simp [hz1]
    · simp [h]

end Sys2Proof.Machine
end

