-- ==== Sys2Proof/Laws/Layout.lean ====
section
/-! SUPPORT. What `laid` writes: the fields of a record one after another, and a field of each width against the bytes the
machine writes. -/

namespace Sys2Proof.Machine

@[simp] theorem laid_nil : laid [] = [] := rfl

theorem laid_append (a b : List (Nat × Option Nat)) : laid (a ++ b) = laid a ++ laid b := List.flatMap_append

theorem laid_cons (f : Nat × Option Nat) (l : List (Nat × Option Nat)) : laid (f :: l) = laid [f] ++ laid l :=
  laid_append [f] l

/-- A record has as many bytes as its fields are wide. -/
theorem laid_length (l : List (Nat × Option Nat)) : (laid l).length = (l.map (·.1)).sum := by
  simp [laid, List.length_flatMap]

theorem laid_one (n : Option Nat) : laid [(1, n)] = opt1 n := by
  simp [laid, opt1, byte, List.range_succ]

theorem laid_two (n : Option Nat) : laid [(2, n)] = opt2 n := by
  simp [laid, opt2, be16, byte, List.range_succ]

theorem laid_four (n : Option Nat) : laid [(4, n)] = opt4 n := by
  simp [laid, opt4, be32, byte, List.range_succ]

end Sys2Proof.Machine
end

