-- ==== Sys2Proof/Laws/Management.lean ====
section
/-! SUPPORT. What taking a request, replying to it and writing entries do, each said once. -/

namespace Sys2Proof.Machine

/-! ## Taking a request (R179, R180) -/

/-- With no request waiting nothing is taken. -/
theorem takeRequest_empty (row : Instr) (work : MgmtRequest → State → Answer) (s : State) (h : s.requests = []) :
    takeRequest row work s = s := by
  simp [takeRequest, h]

/-- A request is left waiting while the reply queue is full, or where another row carries it out (R179; log entry 3). -/
theorem takeRequest_waits (row : Instr) (work : MgmtRequest → State → Answer) (s : State) (q : MgmtRequest)
    (rest : List MgmtRequest) (hq : s.requests = q :: rest) (h : ¬ (s.replyLoad < 4 ∧ answers row q)) :
    takeRequest row work s = s := by
  simp only [takeRequest, hq, if_neg h]

/-- A request that is taken leaves the queue and is judged. -/
theorem takeRequest_takes (row : Instr) (work : MgmtRequest → State → Answer) (s : State) (q : MgmtRequest)
    (rest : List MgmtRequest) (hq : s.requests = q :: rest) (hl : s.replyLoad < 4) (ha : answers row q = true) :
    takeRequest row work s = conclude q (judge work q { s with requests := rest }) := by
  simp only [takeRequest, hq, if_pos (show s.replyLoad < 4 ∧ answers row q = true from ⟨hl, ha⟩)]

/-- A request refused under R180 changes nothing but the reply it gets. -/
theorem judge_refused (work : MgmtRequest → State → Answer) (q : MgmtRequest) (s : State) (why : Status)
    (h : s.refusal q = some why) : judge work q s = answered (s, why, refusalBody q why s) := by
  simp only [judge, h]

/-- A request that passes R180 and that a row covers is carried out. -/
theorem judge_passed (work : MgmtRequest → State → Answer) (q : MgmtRequest) (s : State) (row : Instr)
    (h : s.refusal q = none) (hr : rowOf q.payload = some row) : judge work q s = work q s := by
  simp only [judge, h, hr]

/-- The checks of R180 do not look at the requests that wait behind. -/
@[simp] theorem refusal_requests (s : State) (q : MgmtRequest) (rest : List MgmtRequest) :
    State.refusal { s with requests := rest } q = s.refusal q := rfl

/-- A running part with no SAVE refuses only by source and by length (R180). -/
theorem refusal_none (s : State) (q : MgmtRequest) (hp : s.phase = .running) (hs : s.permits q.source = true)
    (hl : lengthAgrees q = true) (hv : (s.saving.isSome && excludedBySave q.code) = false) : s.refusal q = none := by
  simp [State.refusal, hp, hs, hl, hv]

/-! ## Replies (R181) -/

/-- The reply to a request that holds its code and tag. -/
theorem replyTo_of_cons (source code tag : Byte) (body : List Byte) (status : Status) (reply : List Byte) (s : State) :
    replyTo { source := source, payload := code :: tag :: body } status reply s =
      { s with
        replies := s.replies ++ [{ dest := source, code := code, tag := tag, status := status, body := reply }] } := rfl

/-- A byte echoed changes the choices made alone. -/
theorem echoByte_state (i : Nat) (payload : List Byte) (s : State) :
    ∃ cs k, (echoByte i payload s).2 = { s with choices := cs, choiceCount := k } := by
  unfold echoByte
  split
  · exact ⟨s.choices, s.choiceCount, rfl⟩
  · exact ⟨s.choices.tail, s.choiceCount + 1, rfl⟩

/-- A reply changes the reply queue and the choices made, and nothing else. -/
theorem replyTo_state (q : MgmtRequest) (status : Status) (body : List Byte) (s : State) :
    ∃ r cs k, replyTo q status body s = { s with replies := s.replies ++ [r], choices := cs, choiceCount := k } := by
  obtain ⟨cs, k, h⟩ := echoByte_state 0 q.payload s
  obtain ⟨cs', k', h'⟩ := echoByte_state 1 q.payload (echoByte 0 q.payload s).2
  have e : replyTo q status body s =
      pushReply
        { dest := q.source, code := (echoByte 0 q.payload s).1, tag := (echoByte 1 q.payload (echoByte 0 q.payload s).2).1,
          status := status, body := body } (echoByte 1 q.payload (echoByte 0 q.payload s).2).2 := rfl
  rw [e, h', h]
  exact ⟨_, cs', k', rfl⟩

/-! ## Writing entries (R184) -/

/-- A WRITE-ENTRIES of one entry that is taken. -/
theorem writeLoop_one_taken (size e done : Nat) (one : Nat → List Byte → State → Taken) (bytes : List Byte) (s t : State)
    (h : one e (bytes.take size) s = .ok t) :
    writeLoop size one 1 e bytes done s = { state := settle t, written := done + 1, refused := none } := by
  simp only [writeLoop, h]

/-- A WRITE-ENTRIES whose next entry is refused stops there. -/
theorem writeLoop_refused (size n e done : Nat) (one : Nat → List Byte → State → Taken) (bytes : List Byte) (s : State)
    (why : Status) (h : one e (bytes.take size) s = .error why) :
    writeLoop size one (n + 1) e bytes done s = { state := s, written := done, refused := some (e, why) } := by
  simp only [writeLoop, h]

/-- What holds before a request and is kept by each entry written, and by the capacity events it brings, holds after it. -/
theorem writeLoop_induction (P : State → Prop) (size : Nat) (one : Nat → List Byte → State → Taken)
    (hone : ∀ e l s t, P s → one e l s = .ok t → P (settle t)) (n e : Nat) (bytes : List Byte) (done : Nat) (s : State)
    (hs : P s) : P (writeLoop size one n e bytes done s).state := by
  induction n generalizing e bytes done s with
  | zero => exact hs
  | succ n ih =>
    unfold writeLoop
    split
    · exact hs
    · rename_i t h
      exact ih _ _ _ _ (hone _ _ _ _ hs h)

/-- An entry number inside the table reaches its entry. -/
theorem atEntry_of_lt {n : Nat} (e : Nat) (f : Fin n → Taken) (h : e < n) : atEntry e f = f ⟨e, h⟩ := by
  simp [atEntry, below_of_lt h]

/-- An entry number past the end is refused BAD-INDEX. -/
theorem atEntry_of_not_lt {n : Nat} (e : Nat) (f : Fin n → Taken) (h : ¬ e < n) : atEntry e f = .error .badIndex := by
  simp [atEntry, below_of_not_lt h]

end Sys2Proof.Machine
end

