-- ==== Sys2Proof/Laws/Tables.lean ====
section
/-! SUPPORT. The default configuration passes the checks of every table. -/

namespace Sys2Proof.Machine

/-- A vector of one value satisfies what the value satisfies. -/
theorem all_replicate {α : Type} (n : Nat) (x : α) (p : α → Bool) (h : p x = true) :
    (Vector.replicate n x).all p = true := by
  rw [Vector.all_eq_true]; intro i hi; simpa using h

/-- The empty node map holds no role twice. -/
theorem nodeMapUnique_none : nodeMapUnique (Vector.replicate 239 .none) = true := by
  simp [nodeMapUnique, Vector.toList_replicate]

/-- The default settings are in range, whatever the straps. -/
theorem settings_default_ok : ∀ straps : BitVec 4, (Settings.default straps).ok = true := by decide +kernel

/-- The default configuration is in range (R187). -/
theorem tables_default_ok (straps : BitVec 4) : (Tables.default straps).ok = true := by
  simp only [Tables.ok, Tables.default, nodeMapUnique_none, settings_default_ok, Bool.and_true, Bool.true_and]
  rw [all_replicate 32 _ _ (by decide), all_replicate 4 _ _ (by decide), all_replicate 48 _ _ (by decide),
    all_replicate 768 _ _ (by decide), all_replicate 8 _ _ (by decide), all_replicate 4 _ _ (by decide),
    all_replicate 4 _ _ (by decide)]
  rfl

end Sys2Proof.Machine
end

