-- ==== Sys2Proof/WellFormed.lean ====
section
/-! DEFINITION. Which commands are well formed. Every record, cannon, zone, station and source number is bounded by
its type, so the only operand with a check of its own is the run of bytes of a completed frame. -/

namespace Sys2Proof

/-- A frame completes after an idle gap that ends a run of bytes, so the run holds at least one (R151). -/
def Instr.wf : Instr → Bool
  | .frameCompletion _ bytes => !bytes.isEmpty
  | .powerOn | .pinResetAsserted | .resetRelease _ | .storeLoadEnd | .endOfSending _ | .secondEvent
  | .mastStalenessExpiry _ | .dustStalenessExpiry _ | .probeStalenessExpiry _ | .evaluationTimerExpiry _
  | .pumpStalenessExpiry _ | .slotStart _ | .holdTimerExpiry _ | .acknowledgementTimerExpiry _
  | .burstTimerExpiry _ | .qualityStalenessExpiry _ | .machineStalenessExpiry _ | .livenessTimerExpiry _
  | .saveCompletion | .identify | .readEntries | .readState | .writeNodeMap | .writeZone | .writeProfile
  | .writeCannon | .writeCoverage | .writePattern | .writeStation | .writeSource | .writeSubstitution
  | .writeSettings | .loadForecast | .start | .watch | .halt | .resume | .stop | .setCannonMode | .clearFault
  | .clearFlags | .clearMachine | .save | .restart | .powerFail => true

end Sys2Proof
end

