-- ==== Sys2Proof/Tests/Slice0.lean ====
section
/-! SUPPORT. Tests: the well-formedness check, the manual's worked examples, and for each statement with hypotheses a state
and operands that meet them. -/

namespace Sys2Proof.Machine.Tests

-- One theorem at a time: each evaluation in the kernel holds a thread, and many at once pass the memory limit.
set_option Elab.async false

/-! ## Well-formedness -/

/-- A run of bytes that ends at an idle gap holds at least one byte (R151). -/
theorem test_wf_refuses_empty_run : Instr.wf (.frameCompletion .control []) = false := by decide
theorem test_wf_takes_one_byte : Instr.wf (.frameCompletion .field [0]) = true := by decide
/-- No word spells a command. -/
theorem test_no_word_spells_a_command : decodeTableWord 16 0x1234 = none := by decide

/-! ## The manual's worked examples -/

/-- The published check values of the two codes over the digits 1 to 9: 29B1 (R152) and CBF43926 (R185). -/
theorem test_crc16_check_value : crc16 [49, 50, 51, 52, 53, 54, 55, 56, 57] = 0x29B1#16 := by decide +kernel
theorem test_crc32_check_value : crc32 [49, 50, 51, 52, 53, 54, 55, 56, 57] = 0xCBF43926#32 := by decide +kernel

/-- Frames 1 to 3 of section 1.3's example. -/
theorem test_mast_frames_one_to_three :
    let m := (((((Mast.initial.speed 80 2 20).direction 247).speed 120 2 20).direction 252).speed 96 2 20).direction 261
    m = { acc := 1334, gust := 118, sector := 0, pendingSector := some 12, count := 1, fresh := true, timer := some 20 } := by
  decide +kernel

/-- Frames 4 to 7: a bad direction and a bad speed count for nothing. -/
theorem test_mast_frames_four_to_seven :
    let m : Mast :=
      { acc := 1334, gust := 118, sector := 0, pendingSector := some 12, count := 1, fresh := true, timer := some 20 }
    let n := (((m.speed 150 2 20).speed 110 2 20).direction 258).speed 130 2 20
    (n.direction 250).direction 244 =
      { acc := 1465, gust := 146, sector := 11, pendingSector := none, count := 0, fresh := true, timer := some 20 } := by
  decide +kernel

/-- The edges of sectors 0, 1 and 15 (R14). -/
theorem test_sector_edges :
    candidateSector 349 = 0 ∧ candidateSector 11 = 0 ∧ candidateSector 12 = 1 ∧ candidateSector 348 = 15 := by
  decide +kernel

/-- Section 1.4's example: 800, 720, 640. -/
theorem test_dust_three_samples :
    (((Dust.initial.sample 200 300).sample 120 300).sample 100 300).acc = 640 := by decide +kernel

/-- Section 2.4's example: epoch 19,534, and hours 19,532 and 19,539. -/
theorem test_hours_after : hoursAfter 19534 19532 = 1572862 ∧ hoursAfter 19534 19539 = 5 := by decide +kernel

/-- Section 2.2's example: ten seconds from 813, 86,390 end at 814, 0. -/
theorem test_midnight : nextSecond 813 86399 = (814, 0) ∧ nextSecond 65535 86399 = (0, 0) := by decide +kernel

/-- Section 3.11's terms: winds 126 and 145, erosion 137, surface 64. -/
theorem test_risk_terms :
    effectiveWind 112 168 = 126 ∧ effectiveWind 130 190 = 145 ∧ erosion 135 70 = 137 ∧ surface 137 42 80 = 64 := by
  decide +kernel

/-- Section 3.12's six decisions. -/
theorem test_banding_over_a_morning :
    let p : Profile :=
      { tw := 80, ta := 150, ts := 400, hysteresis := 30, dutyWatch := 4, dutyAct := 8, dutySevere := 12 }
    p.decideBand 125 .act = .act ∧ p.decideBand 115 .act = .watch ∧ p.decideBand 148 .watch = .watch ∧
    p.decideBand 412 .watch = .severe ∧ p.decideBand 300 .severe = .act ∧ p.decideBand 40 .act = .calm := by
  decide +kernel

/-- Section 4.9's sweep: OPEN 4 points to azimuth 0 and the aim goes on to row 1; OPEN 8 ends at the first point. -/
theorem test_sweep :
    let p : Pattern := { azStart := 300, azStep := 20, cols := 4, elStart := 10, elStep := 5, rows := 2 }
    p.azimuth 3 = 0 ∧ p.elevation 1 = 15 ∧ p.advance 3 0 = (0, 1) ∧ p.advance 3 1 = (0, 0) ∧ p.advance 0 0 = (1, 0) := by
  decide +kernel

/-- Section 7.9's turbidity run: 60, 48, 130, 110, 40, 40 with limits 50 and 120. -/
theorem test_turbidity_run :
    let j := fun (g : Grade) (v : Nat) => g.judge v 50 120
    j .ok 60 = .marginal ∧ j .marginal 48 = .marginal ∧ j .marginal 130 = .reject ∧ j .reject 110 = .reject ∧
    j .reject 40 = .marginal ∧ j .marginal 40 = .ok := by
  decide +kernel

/-! ## A yard for the premises below -/

/-- Supervisor 0 at node 1, mast 0 at 10, the valves of cannons 3 to 9 at 20 to 26, machine 0 at 30, the quality analyser and
the level sensor of source 0 at 40 and 41, dust monitor 0 at 42, the moisture probe of zone 0 at 43, the pump of station 0 at
44. -/
def nodes : Vector NodeRole 239 :=
  [(0, NodeRole.supervisor 0), (9, .mast 0), (19, .valve 3), (20, .valve 4), (21, .valve 5), (22, .valve 6), (23, .valve 7),
   (24, .valve 8), (25, .valve 9), (29, .machine 0), (39, .quality 0), (40, .level 0), (41, .dust 0), (42, .moisture 0),
   (43, .pump 0)].foldl (fun v p => updAt v (Fin.ofNat 239 p.1) fun _ => p.2) (Vector.replicate 239 .none)

/-- Cannons 3 and 10 are AUTOMATIC and cannon 4 is in BYPASS; cannons 5, 6, 8 and 9 have the substitutes 3, 4, 9 and 10; zones
0 and 1 are enabled. -/
def tables : Tables :=
  { Tables.default 0 with
    nodeMap := nodes
    cannons := [3, 10].foldl (fun v c => updAt v c fun e => { e with mode := .automatic })
      (updAt (Tables.default 0).cannons 4 fun e => { e with mode := .bypass })
    windows := updAt (updAt (Tables.default 0).windows 0 fun _ => { base := 5, limit := 6, target := 3 }) 1 fun _ =>
      { base := 8, limit := 9, target := 9 }
    zones := updAt (updAt (Tables.default 0).zones 0 fun e => { e with enabled := true }) 1 fun e =>
      { e with enabled := true } }

/-- A part that runs at rest in RUN, both links UP. -/
def yard : State :=
  let s := State.afterRelease 0 (Store.written tables)
  { s with
    phase := .running, cfg := tables, mode := .run
    controlPort := { s.controlPort with up := true, liveness := some 5 }
    fieldPort := { s.fieldPort with up := true, liveness := some 5 }
    cannons := updAt (updAt (updAt s.cannons 3 fun k => { k with state := .idle, openMark := false }) 4 fun k =>
      { k with state := .bypassClosed }) 10 fun k => { k with state := .unknown } }

/-- The yard with one request waiting. -/
def asked (s : State) (payload : List Byte) : State := { s with requests := [{ source := 1, payload := payload }] }

/-- The yard with both transmitters busy. -/
def sending (s : State) : State :=
  { s with
    controlPort := { s.controlPort with sending := some [1] }
    fieldPort := { s.fieldPort with sending := some [1] } }

/-- A frame with its check. -/
def frame (dest src kind : Byte) (payload : List Byte) : Frame := buildFrame dest src kind payload

/-- Cannon 3 in state `k` with a burst. -/
def burst : Burst :=
  { cls := .auto, grantClass := .auto, priority := 2, credited := some 0, efficiency := 50, source := 0, planned := 250,
    duration := 15, azimuth := 0, elevation := 0, openSent := true, counting := false, openSeconds := 0 }

def flying (k : CannonState) (s : State) : State :=
  s.updCannon 3 fun x =>
    { x with
      state := k, burst := some burst, openMark := true
      ackTimer := if k = .spraying then none else some 3, burstTimer := if k = .spraying then some 15 else none }

/-! ## Premises: steps and resets -/

theorem test_premise_step :
    { yard with pending := [.secondEvent] }.pending = Instr.secondEvent :: [] ∧ yard.pending = [] := by decide

theorem test_premise_release : { yard with phase := .held }.phase = .held := by decide

theorem test_premise_pin_reset :
    yard.phase ≠ .unpowered ∧ { yard with phase := .unpowered }.phase = .unpowered ∧
    (startSave 1 2 yard).StoreHeld ∧ (startSave 1 2 yard).saving.isSome := by decide +kernel

theorem test_premise_load_end :
    State.reset.phase = .loading ∧ State.reset.Rested ∧ State.reset.store.fault = some .check := by decide +kernel

/-- A load that finds a valid store. -/
theorem test_premise_load_end_valid :
    (State.afterRelease 0 (Store.written (Tables.default 0))).phase = .loading ∧
    (State.afterRelease 0 (Store.written (Tables.default 0))).Rested ∧
    (State.afterRelease 0 (Store.written (Tables.default 0))).store.fault = none := by
  refine ⟨rfl, by decide +kernel, ?_⟩
  simp [State.afterRelease, Store.fault, Store.written, tables_default_ok]

theorem test_premise_save :
    (asked yard [11, 7]).Takes 1 [11, 7] [] ∧ (asked yard [11, 7]).saving = none := by decide +kernel

theorem test_premise_save_completion :
    (startSave 1 2 yard).operating ∧ (startSave 1 2 yard).Rested ∧
    (startSave 1 2 { yard with cfg := Tables.default 0 }).saving =
      some { source := 1, tag := 2, content := Tables.default 0 } ∧ (Tables.default 0).ok = true :=
  ⟨by decide +kernel, by decide +kernel, rfl, tables_default_ok 0⟩

/-! ## Premises: frames -/

/-- Runs of 5 bytes and of a length byte past 64; a wrong check byte; a destination of 240 and a source of 0. -/
theorem test_premise_damaged_frame :
    yard.operating ∧ yard.Rested ∧ FailsCheck [1, 2, 3, 0, 0] .length ∧ FailsCheck [1, 2, 3, 65, 0, 0] .length ∧
    FailsCheck [1, 2, 3, 0, 0, 0] .check ∧ FailsCheck (frame 240 2 16 []) .header ∧
    FailsCheck (frame 1 0 16 []) .header := by decide +kernel

theorem test_premise_manage :
    yard.operating ∧ yard.Rested ∧ frameFault (frame 224 1 64 [1, 7]) = none ∧
    frameDest (frame 224 1 64 [1, 7]) = yard.ownId ∧ frameKind (frame 224 1 64 [1, 7]) = 64 ∧
    yard.requests.length < 4 ∧ frameKind (frame 224 1 65 []) ≠ 64 ∧ yard.fieldPort.up ∧
    4 ≤ { yard with requests := List.replicate 4 { source := 1, payload := [1, 7] } }.requests.length := by decide +kernel

/-- The forward buffer with three frames is the last that takes one. -/
def crowded (n : Nat) : State :=
  let s := sending yard
  { s with
    controlPort := { s.controlPort with buffer := List.replicate n [1] }
    fieldPort := { s.fieldPort with buffer := List.replicate n [1] } }

theorem test_premise_forwarded :
    (crowded 3).operating ∧ (crowded 3).Rested ∧ (crowded 3).Passes .control (frame 2 1 64 []) ∧
    (crowded 3).Passes .field (frame 2 99 65 []) ∧ (crowded 4).Rested ∧ 4 ≤ (crowded 4).fieldPort.buffer.length ∧
    4 ≤ (crowded 4).controlPort.buffer.length ∧ (crowded 4).fieldPort.up := by
  and_intros <;> decide +kernel

/-- Frames that the control port neither reads nor admits: a COMMAND to a mast's node, a TIME frame of no SUPERVISOR, one cut
short, and one of second 86,400. -/
theorem test_premise_unadmitted :
    (∀ f ∈ [frame 10 1 48 [1, 0, 60, 2, 0, 0, 90, 30], frame 2 99 32 [3, 45, 0, 1, 81, 127],
        frame 2 1 32 [3, 45, 0, 1, 81], frame 2 1 32 [3, 45, 0, 1, 81, 128]], (crowded 3).Passes .control f) ∧
    (∀ c, yard.roleOf 10 ≠ .valve c) ∧ (∀ i, yard.roleOf 99 ≠ .supervisor i) ∧ yard.roleOf 1 = .supervisor 0 ∧
    nat32 0 1 81 128 = 86400 := by
  and_intros <;> decide +kernel

/-- Frames that the field port does not read: a kind of the control port; a SAMPLE, a STATUS and a MACHINE frame of another role;
and a SAMPLE of seven bytes, a STATUS of a valve with code 3, one of a pump of two bytes, and a MACHINE frame of zone 32. -/
theorem test_premise_undelivered :
    (∀ f ∈ [frame 2 10 32 [], frame 2 1 16 [0, 0, 0, 0, 0, 80], frame 2 10 17 [0, 0, 0, 0, 0], frame 2 20 18 [1, 2, 31],
        frame 2 10 16 [0, 0, 0, 0, 0, 80, 1], frame 2 20 17 [3, 0, 0, 0, 0], frame 2 44 17 [1, 1], frame 2 30 18 [1, 2, 32]],
      (crowded 3).Passes .field f) ∧
    (∀ x : CannonId, NodeRole.mast 0 ≠ .valve x) ∧ yard.roleOf 10 = .mast 0 ∧ yard.roleOf 20 = .valve 3 ∧
    yard.roleOf 44 = .pump 0 ∧ yard.roleOf 30 = .machine 0 ∧ yard.roleOf 1 = .supervisor 0 := by
  and_intros <;> decide +kernel

/-- One whose role disagrees and one whose payload does. -/
theorem test_premise_undelivered_status :
    (crowded 3).Undelivered (frame 2 10 17 [0, 0, 0, 0, 0]) ∧ (crowded 3).Undelivered (frame 2 20 17 [3, 0, 0, 0, 0]) := by
  and_intros <;> decide +kernel

/-- A COMMAND for a cannon in BYPASS, and one for a cannon whose substitute is in BYPASS. -/
theorem test_premise_forwarded_command :
    (crowded 3).Commanded (frame 21 1 48 []) 4 [] ∧ (yard.cannonEntry 4).mode = .bypass ∧
    (crowded 3).Commanded (frame 23 1 48 [9]) 6 [9] ∧ (yard.cannonEntry 6).mode = .outOfService ∧
    yard.windowNumber 6 = some 4 ∧ yard.nodeOf (.valve 4) = some 21 := by
  and_intros <;> decide +kernel

/-- A SAMPLE frame of one record from a node. -/
def sample (node : Byte) (body : List Byte) : Frame := frame 2 node 16 body

/-- A BAD record, an unused channel, a direction of 360 and one of 359, a speed, a concentration and a moisture. -/
theorem test_premise_sample_record :
    yard.Hears (sample 10 [0, 2, 0, 0, 0, 80]) 16 (.mast 0) [0, 2, 0, 0, 0, 80] ∧
    sampleUsed (.mast 0) 2 5 = false ∧ int32 0 0 1 104 = 360 ∧ sampleUsed (.mast 0) 1 360 = false ∧
    yard.Hears (sample 10 [1, 1, 0, 0, 1, 103]) 16 (.mast 0) [1, 1, 0, 0, 1, 103] ∧ int32 0 0 1 103 = 359 ∧
    (2 * 359 + 22) / 45 % 16 = (0 : Sector).val ∧
    yard.Hears (sample 10 [0, 0, 0, 0, 0, 80]) 16 (.mast 0) [0, 0, 0, 0, 0, 80] ∧
    yard.Hears (sample 42 [0, 0, 255, 255, 255, 255]) 16 (.dust 0) [0, 0, 255, 255, 255, 255] ∧
    yard.Hears (sample 43 [0, 1, 0, 0, 1, 45]) 16 (.moisture 0) [0, 1, 0, 0, 1, 45] := by
  and_intros <;> decide +kernel

/-- The dust monitor with both transmitters busy, before, between and after two records. -/
def dusted (n : Nat) : State :=
  let s : State := { yard with
    controlPort := { yard.controlPort with sending := some [] }, fieldPort := { yard.fieldPort with sending := some [] } }
  let put := fun acc : Nat => { s with
    dusts := updAt s.dusts 0 fun _ => { acc := acc, fresh := true, timer := some 300 } }
  match n with
  | 0 => s
  | 1 => put 800
  | _ => put 720

/-- A SAMPLE of two records, and each of them in a frame of its own. -/
theorem test_premise_several_records :
    yard.Hears (sample 42 [0, 0, 0, 0, 0, 200, 0, 0, 0, 0, 0, 120]) 16 (.dust 0) [0, 0, 0, 0, 0, 200, 0, 0, 0, 0, 0, 120] ∧
    (dusted 0).Hears (sample 42 [0, 0, 0, 0, 0, 200]) 16 (.dust 0) [0, 0, 0, 0, 0, 200] ∧
    (dusted 1).Hears (sample 42 [0, 0, 0, 0, 0, 120]) 16 (.dust 0) [0, 0, 0, 0, 0, 120] := by
  and_intros <;> decide +kernel

set_option maxRecDepth 100000 in
/-- The two frames of one record each lead from state to state. -/
theorem test_premise_several_records_links :
    exec (.frameCompletion .field (sample 42 [0, 0, 0, 0, 0, 200])) (dusted 0) =
      .next ((dusted 1).relayed .field (sample 42 [0, 0, 0, 0, 0, 200])) ∧
    exec (.frameCompletion .field (sample 42 [0, 0, 0, 0, 0, 120])) (dusted 1) =
      .next ((dusted 2).relayed .field (sample 42 [0, 0, 0, 0, 0, 120])) := ⟨rfl, rfl⟩

/-- Mast 0 agrees with sector 5 for the second time and stands in sector 0, where cannon 3 holds zone 2 and no coverage. -/
def veering (s : State) : State :=
  { s with
    masts := updAt s.masts 0 fun m => { m with pendingSector := some 5, count := 2 }
    cannons := updAt s.cannons 3 fun k => { k with target := { k.target with zone := some 2 } } }

/-- Directions of sector 0, of another, and of the pending sector, at its second and third sample. -/
theorem test_premise_direction :
    (∀ d ∈ [(0 : Byte), 90, 112], (veering yard).Hears (sample 10 [1, 0, 0, 0, 0, d]) 16 (.mast 0) [1, 0, 0, 0, 0, d]) ∧
    ((veering yard).mast 0).sector = 0 ∧ (2 * 112 + 22) / 45 % 16 = (5 : Sector).val ∧
    (2 * 90 + 22) / 45 % 16 = (4 : Sector).val ∧ ((veering yard).mast 0).pendingSector = some 5 ∧
    3 ≤ ((veering yard).mast 0).count + 1 := by
  and_intros <;> decide +kernel

/-- No burst loses its target, a spraying one does, and one whose OPEN is queued does. -/
theorem test_premise_derivation :
    (∀ c, ¬ (veering yard).Untargets c) ∧ (veering (flying .spraying yard)).Untargets 3 ∧
    (veering (flying .spraying yard)).WaitingHeld ∧
    (let s := veering { sending (flying .opening yard) with commands := [{ cannon := 3, verb := .openValve }] }
     s.Untargets 3 ∧ s.openQueued 3 ∧ s.WaitingHeld ∧ (s.cannon 3).holds .fire = false) := by
  and_intros <;> decide +kernel

theorem test_premise_quality_records :
    yard.Hears (sample 40 [0, 0, 0, 0, 0, 51, 1, 1, 0, 0, 15, 160]) 16 (.quality 0)
      [0, 0, 0, 0, 0, 51, 1, 1, 0, 0, 15, 160] := by decide +kernel

/-- Source 0 has a floor of 1,000 litres, and cannon 3 sprays from it. -/
def floored : State :=
  flying .spraying
    { yard with
      cfg := { yard.cfg with sources := updAt yard.cfg.sources 0 fun e => { e with floor := 1000 } }
      sources := updAt yard.sources 0 fun w => { w with estimate := some 1000 } }

/-- A level at the floor and one below it. -/
theorem test_premise_level_record :
    floored.Hears (sample 41 [0, 1, 0, 0, 0, 1]) 16 (.level 0) [0, 1, 0, 0, 0, 1] ∧ (floored.sourceEntry 0).floor = 1000 ∧
    floored.Hears (sample 41 [0, 0, 255, 255, 255, 255]) 16 (.level 0) [0, 0, 255, 255, 255, 255] ∧
    1000 * min 4000000 (int32 255 255 255 255).toNat < (floored.sourceEntry 0).floor ∧
    (floored.sourceEntry 0).metered ∧ floored.WaitingHeld ∧ (floored.cannon 3).burst = some burst ∧ burst.source = 0 ∧
    (floored.cannon 3).state = .spraying := by
  and_intros <;> decide +kernel

theorem test_premise_time_frame :
    yard.Passes .control (frame 2 1 32 [3, 45, 0, 1, 81, 127]) ∧ nat32 0 1 81 127 = 86399 ∧
    framePayload (frame 2 1 32 [3, 45, 0, 1, 81, 127]) = [3, 45, 0, 1, 81, 127] ∧ yard.roleOf 1 = .supervisor 0 := by
  decide +kernel

theorem test_premise_machine_frame :
    yard.Hears (frame 2 30 18 [1, 2, 31]) 18 (.machine 0) [1, 2, 31] ∧
    readMachine [1, 2, 31] = some (.reclaimer, .reclaiming, some 31) ∧
    readMachine [3, 0, 255] = some (.other, .travel, none) := by decide +kernel

/-- Machine 0 arrives in zone 0, whose policy is no, while cannon 3 sprays for it, and one with its OPEN queued. -/
theorem test_premise_exclusion_start :
    let s := flying .spraying yard
    let t := { sending (flying .opening yard) with commands := [{ cannon := 3, verb := .openValve }] }
    s.Hears (frame 2 30 18 [1, 2, 0]) 18 (.machine 0) [1, 2, 0] ∧
    t.Hears (frame 2 30 18 [1, 2, 0]) 18 (.machine 0) [1, 2, 0] ∧
    readMachine [1, 2, 0] = some (.reclaimer, .reclaiming, some 0) ∧ s.machineCount 0 = 0 ∧ (s.zoneEntry 0).policy = false ∧
    (s.cannon 3).flying (fun b => decide (b.credited = some 0 ∧ b.cls ≠ .fire)) = true ∧ s.WaitingHeld ∧ t.WaitingHeld ∧
    t.openQueued 3 := by
  and_intros <;> decide +kernel

/-- The frame of a valve's STATUS with no litres, and the state in which it is heard. -/
abbrev Reports (s : State) (node code : Byte) (c : CannonId) : Prop :=
  s.Hears (frame 2 node 17 [code, 0, 0, 0, 0]) 17 (.valve c) [code, 0, 0, 0, 0]

/-- Cannon 3 in the states that hold a burst, at a station where a capacity event finds nothing to do. -/
theorem test_premise_valve_status_in_flight :
    (∀ k ∈ [CannonState.opening, .spraying, .closing, .stuck], ∀ code ∈ [(0 : Byte), 1, 2],
      Reports (flying k yard) 20 code 3 ∧ ((flying k yard).cannon 3).state = k) ∧
    ((flying .opening yard).cannon 3).burst = some burst ∧ yard.Quiet 0 ∧ (flying .opening yard).openQueued 3 = false := by
  and_intros <;> decide +kernel

/-- Cannon 3 in the states without a burst. -/
def standing (k : CannonState) : State := yard.updCannon 3 fun x => { x with state := k }

theorem test_premise_valve_status_elsewhere :
    (∀ k ∈ [CannonState.unknown, .idle, .fault], ∀ code ∈ [(0 : Byte), 1, 2],
      Reports (standing k) 20 code 3 ∧ ((standing k).cannon 3).state = k) ∧
    (∀ code ∈ [(0 : Byte), 1, 2], Reports yard 21 code 4 ∧ Reports yard 22 code 5) ∧
    (yard.cannon 4).state = .bypassClosed ∧ (yard.cannon 5).state = .retired := by
  and_intros <;> decide +kernel

/-- An OPEN still queued, and a BYPASS-OPEN cannon's first source. -/
theorem test_premise_valve_status_queued_and_bypass :
    let s := { flying .opening yard with commands := [{ cannon := 3, verb := .openValve }] }
    let t := yard.updCannon 4 fun x => { x with state := .bypassOpen }
    { s with fieldPort := { s.fieldPort with sending := some [1] } }.openQueued 3 ∧
    Reports { s with fieldPort := { s.fieldPort with sending := some [1] } } 20 2 3 ∧ Reports t 21 0 4 ∧
    (t.cannon 4).state = .bypassOpen ∧ (t.stationEntry (t.stationOf 4)).prefs = [0] ∧ t.Quiet 0 := by
  and_intros <;> decide +kernel

/-- A COMMAND frame with a payload, at a state that takes it. -/
abbrev Orders (s : State) (node : Byte) (c : CannonId) (body : List Byte) : Prop :=
  s.Commanded (frame node 1 48 body) c body

/-- One command for each reason of a cannon named: an unmapped source; no window, a substitute OUT-OF-SERVICE, and one that no
VALVE entry holds. -/
theorem test_premise_refused_command :
    yard.Passes .control (frame 20 99 48 []) ∧ yard.isSupervisor 99 = false ∧ yard.roleOf 20 = .valve 3 ∧
    Orders yard 24 7 [] ∧ (yard.cannonEntry 7).mode = .outOfService ∧ yard.windowNumber 7 = none ∧
    Orders yard 25 8 [] ∧ yard.windowNumber 8 = some 9 ∧ (yard.cannonEntry 9).mode = .outOfService ∧
    Orders yard 26 9 [] ∧ yard.windowNumber 9 = some 10 ∧ (yard.cannonEntry 10).mode ≠ .outOfService ∧
    yard.wired 10 = false := by
  and_intros <;> decide +kernel

/-- One for each reason of a cannon judged, on the cannon itself and on a substitute: a payload cut short, a verb of 3, OFF, a
silent field link, FAULT, and a burst whose source has no estimate. -/
theorem test_premise_refused_on_judged_cannon :
    yard.Judges 3 3 none ∧ yard.Judges 5 3 (some 3) ∧ Orders yard 20 3 [1, 0, 60] ∧
    Orders yard 22 5 [3, 0, 60, 2, 0, 0, 90, 30] ∧ Orders { yard with mode := .off } 20 3 [1, 0, 60, 2, 0, 0, 90, 30] ∧
    Orders { yard with fieldPort := { yard.fieldPort with up := false } } 20 3 [1, 0, 60, 2, 0, 0, 90, 30] ∧
    Orders (standing .fault) 20 3 [1, 0, 60, 2, 0, 0, 90, 30] ∧ ((standing .fault).cannon 3).state = .fault ∧
    Orders (flying .spraying yard) 22 5 [1, 0, 60, 2, 0, 0, 90, 30] ∧ ((flying .spraying yard).cannon 3).inFlight ∧
    (yard.source 0).estimate = none ∧ (yard.sourceEntry 0).metered := by
  and_intros <;> decide +kernel

/-- Every field past its limit; the station's pump stands, or runs. -/
theorem test_premise_manual_open :
    Orders yard 20 3 [1, 3, 133, 4, 0, 1, 104, 61] ∧ Orders yard 22 5 [1, 3, 133, 4, 1, 1, 104, 61] ∧ yard.mode ≠ .off ∧
    yard.fieldPort.up ∧ (yard.cannon 3).inFlight = false ∧ (yard.cannon 3).state = .idle ∧ yard.Able 0 3 ∧
    (yard.station 0).pump ≠ .running ∧
    Orders (yard.updStation 0 fun g => { g with pump := .running }) 20 3 [1, 3, 133, 4, 1, 1, 104, 61] := by
  and_intros <;> decide +kernel

/-- A burst in SPRAYING from a source with water for a longer one: in RUN it is converted, in HALT closed as well. -/
def watered (s : State) : State :=
  { flying .spraying s with sources := updAt s.sources 0 fun w => { w with estimate := some 900000, committed := 250 } }

theorem test_premise_conversion :
    Orders (watered yard) 20 3 [1, 3, 132, 2, 0, 0, 90, 30] ∧ ((watered yard).cannon 3).burst = some burst ∧
    (yard.cannonEntry 3).flow * 900 / 60 = 15000 ∧ (watered yard).machineCount 0 = 0 ∧
    (let w := (watered yard).source 0
     w.quality = .ok ∧ w.estimate = some 900000 ∧ w.committed - burst.planned + 15000 ≤ 900000) ∧
    ((watered yard).sourceEntry 0).allowance = 0 ∧ ((watered yard).sourceEntry 0).floor = 0 ∧
    ((watered yard).sourceEntry 0).fireReserve = 0 ∧
    Orders (watered { yard with mode := .halt }) 20 3 [1, 3, 132, 2, 0, 0, 90, 30] := by
  and_intros <;> decide +kernel

/-- A CLOSE in every kind of state, and one that finds the OPEN queued. -/
theorem test_premise_manual_close :
    (∀ k ∈ [CannonState.unknown, .idle, .fault], Orders (standing k) 20 3 [2, 0, 0, 0, 0, 0, 0, 0]) ∧
    (∀ k ∈ [CannonState.opening, .spraying, .closing, .stuck],
      Orders (flying k yard) 22 5 [2, 0, 0, 0, 0, 0, 0, 0]) ∧
    (let s := { sending (flying .opening yard) with commands := [{ cannon := 3, verb := .openValve }] }
     Orders s 20 3 [2, 0, 0, 0, 0, 0, 0, 0] ∧ s.openQueued 3 ∧ s.Quiet 0 ∧ s.WaitingHeld) := by
  and_intros <;> decide +kernel

/-! ## Premises: sending -/

/-- A command queued for cannon 3, both transmitters busy. -/
def commanded (v : Verb) (s : State) : State := { sending s with commands := [{ cannon := 3, verb := v }] }

theorem test_premise_end_of_sending :
    (crowded 1).Rested ∧ (crowded 1).forwardWaits .field ∧ (crowded 1).insertionWaits .field = false ∧
    (commanded .closeValve yard).Rested ∧ (commanded .closeValve yard).insertionWaits .field ∧
    (commanded .closeValve yard).forwardWaits .field = false ∧ (commanded .closeValve yard).wired 3 ∧
    { crowded 1 with commands := [{ cannon := 3, verb := .closeValve }] }.insertionWaits .field ∧
    { crowded 1 with commands := [{ cannon := 3, verb := .closeValve }] }.Rested ∧ (sending yard).Rested := by
  decide +kernel

theorem test_premise_sent_command :
    (commanded .closeValve yard).Rested ∧ (commanded .closeValve yard).nodeOf (.valve 3) = some 20 ∧
    (commanded .closeValve yard).fieldPort.turn = .forward ∧
    (commanded .openValve (flying .opening yard)).Rested ∧
    ((commanded .openValve (flying .opening yard)).cannon 3).burst = some burst := by decide +kernel

/-- The queue holds the notices that the first `n` cannons stick. -/
def noticed (n : Nat) : State :=
  let t : Stamp := { day := 0, second := 0, timeSet := false }
  let l := (List.finRange 48).map fun c => { report := Report.cannonStuck c, stamp := t : NoticeEntry }
  { sending yard with notices := { entries := l.take n, marker := none, lost := 0 } }

theorem test_premise_notices :
    (noticed 31).NoticesDiffer ∧ (noticed 31).notices.entries.length < 32 ∧ (noticed 32).NoticesDiffer ∧
    32 ≤ (noticed 32).notices.entries.length ∧ (noticed 2).notices.entries[1]?.map (·.report) = some (.cannonStuck 1) ∧
    (∀ e ∈ (noticed 32).notices.entries, e.report.kind = (Report.cannonStuck 47).kind →
      e.report.subject ≠ (Report.cannonStuck 47).subject) := by decide +kernel

theorem test_premise_replies_and_notices :
    (noticed 2).Rested ∧ (noticed 2).controlPort.sending.isSome ∧ (noticed 2).controlPort.turn = .forward ∧
    (noticed 2).replies = [] ∧ (noticed 2).controlPort.up ∧ (noticed 2).noticeDest = some 1 ∧
    (pushReply { dest := 1, code := 1, tag := 7, status := .done, body := [] } (noticed 2)).Rested ∧
    { noticed 2 with notices := { (noticed 2).notices with marker := some yard.stamp, lost := 1 } }.Rested := by
  decide +kernel

/-! ## Premises: timers -/

/-- The yard with the timer of every record that a statement speaks of running. -/
def timed : State :=
  { yard with
    masts := updAt yard.masts 0 fun m => { m with fresh := true, timer := some 1 }
    dusts := updAt yard.dusts 0 fun d => { d with fresh := true, timer := some 1 }
    probes := updAt yard.probes 0 fun p => { p with fresh := true, timer := some 1 }
    zones := updAt yard.zones 0 fun z => { z with timer := some { remaining := 1, period := 30 } }
    cannons := updAt yard.cannons 3 fun k => { k with holdTimer := some 1 }
    stations := updAt yard.stations 0 fun g => { g with slotTimer := some 1, pumpTimer := some 1, pump := .running }
    sources := updAt yard.sources 0 fun w => { w with timer := some 1 }
    machines := updAt yard.machines 0 fun m => { m with presence := .present, zone := some 0, timer := some 1 }
    machineCounts := updAt yard.machineCounts 0 fun _ => 1 }

theorem test_premise_timers :
    timed.operating ∧ timed.Rested ∧ (timed.mast 0).timer.isSome ∧ (timed.machine 0).timer.isSome ∧
    (timed.source 0).timer.isSome ∧ (timed.dust 0).timer.isSome ∧ (timed.probe 0).timer.isSome ∧
    (timed.cannon 3).holdTimer.isSome ∧ timed.controlPort.liveness.isSome ∧ timed.fieldPort.liveness.isSome ∧
    (timed.station 0).slotTimer.isSome := by decide +kernel

theorem test_premise_skipped_evaluation :
    { timed with mode := .watch }.Rested ∧ (({ timed with mode := .watch } : State).zoneEntry 0).watch = false := by
  decide +kernel

theorem test_premise_evaluation :
    (timed.zone 0).timer = some { remaining := 1, period := 30 } ∧ timed.mode ≠ .watch ∧
    (timed.mast (timed.zoneEntry 0).primary).fresh ∧ timed.ClockFits := by decide +kernel

/-- Zone 0 names fallback mast 1, and the slot of the hour is valid. -/
def windy (primary fallback slot : Bool) : State :=
  { timed with
    masts := updAt (updAt timed.masts 0 fun m => { m with fresh := primary }) 1 fun m => { m with fresh := fallback }
    cfg := { timed.cfg with zones := updAt timed.cfg.zones 0 fun e => { e with fallback := some 1 } }
    clock := { timed.clock with timeSet := true }
    ring := updAt timed.ring 0 fun x => { x with valid := slot, mean := 90, gust := 120, sector := 15 } }

/-- The three winds of R45 and none of them. -/
theorem test_premise_winds :
    (windy true false false).Rested ∧ (windy false false false).ClockFits ∧ (windy true true true).WindIs 0 0 0 0 false ∧
    (windy false false true).slotAhead 0 = some 0 ∧ ((windy false true true).mast 1).fresh ∧
    ((windy false true true).mast 0).fresh = false ∧ ((windy false true true).zoneEntry 0).fallback = some 1 ∧
    (windy false false false).slotAhead 0 = none := by
  refine ⟨by decide +kernel, by decide +kernel, .inl (by decide +kernel), ?_⟩
  and_intros <;> decide +kernel

theorem test_premise_wind_of_fallback : (windy false true true).WindIs 0 0 0 0 false :=
  .inr (.inl ⟨by decide +kernel, 1, by decide +kernel, by decide +kernel⟩)

theorem test_premise_wind_of_slot : (windy false false true).WindIs 0 90 120 15 true :=
  .inr (.inr ⟨by decide +kernel, fun f h => by
    have hf : some (1 : MastId) = some f := h
    rw [← Option.some.inj hf]
    decide +kernel, 0, by decide +kernel, by decide +kernel⟩)

theorem test_premise_no_wind : (windy false false false).NoWind 0 :=
  ⟨by decide +kernel, fun f h => by
    have hf : some (1 : MastId) = some f := h
    rw [← Option.some.inj hf]
    decide +kernel, by decide +kernel⟩

theorem test_premise_stale_pump : timed.WaitingHeld ∧ (timed.station 0).pumpTimer.isSome := by decide +kernel

/-- Cannon 3 in OPENING, its OPEN sent or still queued, at station 0 with its pump timer running; cannon 10 waits to close. -/
def awaiting (queued : Bool) : State :=
  let s := sending (flying .opening { timed with stations := updAt timed.stations 0 fun g => { g with waiting := [10] } })
  { s with commands := if queued then [{ cannon := 3, verb := .openValve }] else [] }

theorem test_premise_stale_pump_closes :
    (∀ b ∈ [true, false], (awaiting b).operating ∧ (awaiting b).Rested ∧ (awaiting b).WaitingHeld ∧
      ((awaiting b).station 0).pumpTimer.isSome ∧ ((awaiting b).cannon 3).state = .opening ∧
      (awaiting b).openQueued 3 = b ∧ ((awaiting b).endedEarly [3]).WaitingHeld) ∧
    (awaiting true).stationOf 3 = 0 ∧ 10 ∈ ((awaiting true).station 0).waiting := by
  and_intros <;> decide +kernel

/-- RUNNING, STOPPED and TRIPPED at that station, its pump STOPPED before and cannon 5 on a FIRE request: it is not quiet. -/
theorem test_premise_pump_status_stirs :
    let s := ((awaiting true).updStation 0 fun g => { g with pump := .stopped }).updCannon 5 fun k =>
      { k with state := .idle, request := some (.fire 3 60 0 30) }
    (∀ code ∈ [(0 : Byte), 1, 2], s.Hears (frame 2 44 17 [code, 1, 44]) 17 (.pump 0) [code, 1, 44]) ∧ ¬ s.Quiet 0 ∧
    s.WaitingHeld ∧ (s.updStation 0 fun g => { g with pump := .running }).WaitingHeld ∧
    (s.endedEarly [3]).WaitingHeld ∧ (s.station 0).pump ≠ .running := by
  and_intros <;> decide +kernel

/-- A pump's STATUS of each code and of none, at a station that is available and at one that is not. -/
theorem test_premise_pump_status :
    (∀ s ∈ [yard, timed, flying .spraying yard], ∀ code ∈ [(0 : Byte), 1, 2, 3],
      s.Hears (frame 2 44 17 [code, 1, 44]) 17 (.pump 0) [code, 1, 44]) ∧
    yard.Quiet 0 ∧ yard.WaitingHeld ∧ (timed.station 0).pump = .running := by
  and_intros <;> decide +kernel

theorem test_premise_slot_start :
    (∀ m ∈ [DispatchMode.off, .run, .watch, .halt], { timed with mode := m }.Rested) ∧ (timed.station 0).waiting = [] ∧
    (∀ c, timed.closeWaiting c = false) ∧ timed.WaitingHeld ∧ timed.fieldPort.up ∧ (timed.station 0).pump = .running ∧
    { timed with fieldPort := { timed.fieldPort with up := false } }.Rested := by
  and_intros <;> decide +kernel

/-- Cannon 10 is close-waiting at station 0 and written to station 1, whose slot begins. -/
def moving : State :=
  { yard with
    mode := .off
    stations := updAt (updAt yard.stations 0 fun g => { g with waiting := [10] }) 1 fun g => { g with slotTimer := some 1 }
    cfg := { yard.cfg with cannons := updAt yard.cfg.cannons 10 fun e => { e with station := 1 } } }

theorem test_premise_slot_start_takes_over :
    moving.Rested ∧ moving.WaitingHeld ∧ (moving.station 1).slotTimer.isSome ∧ (moving.cannonEntry 10).station = 1 ∧
    moving.stationOf 10 = 0 ∧ moving.closeWaiting 10 ∧ (moving.cannon 10).state.holdsPlace = false := by
  and_intros <;> decide +kernel

/-- In every mode cannon 10 waits for a close at station 0, whose slot begins: served, with the link DOWN, and with cannon 3 on
a request. -/
theorem test_premise_slot_start_walks :
    let waits : State := { timed with stations := updAt timed.stations 0 fun g => { g with waiting := [10] } }
    (∀ m ∈ [DispatchMode.off, .run, .watch, .halt], { waits with mode := m }.Rested) ∧ waits.WaitingHeld ∧
    (waits.station 0).slotTimer.isSome ∧ waits.fieldPort.up ∧ (waits.station 0).pump = .running ∧
    { waits with fieldPort := { waits.fieldPort with up := false } }.Rested ∧
    (waits.updCannon 3 fun k => { k with request := some (.fire 3 60 0 30) }).WaitingHeld := by
  and_intros <;> decide +kernel

/-- The new station holds from its slot start on, and the cannon waits there (R64). -/
theorem test_written_station_holds_from_slot_start :
    let t := slotStart 1 moving
    t.stationOf 10 = 1 ∧ (t.station 0).waiting = [] ∧ (t.station 1).waiting = [10] ∧ (slotStart 0 moving).stationOf 10 = 0 := by
  decide +kernel

/-- What makes a cannon with a request of a class a candidate. -/
theorem candidate_of_auto {s : State} {g : StationId} {k : Nat} {c : CannonId} {p : Nat} {z : ZoneId} (h : s.Able g c)
    (hr : (s.cannon c).request = some (.auto p z)) (hm : (s.cannonEntry c).slotMask.getLsbD k) (hz : s.machineCount z = 0) :
    s.Candidate g k c := ⟨h, .inl ⟨p, z, hr, hm, .inl hz⟩⟩

/-- No cannon is a candidate without a request. -/
theorem request_of_candidate {s : State} {g : StationId} {k : Nat} {c : CannonId} (h : s.Candidate g k c) :
    (s.cannon c).request.isSome := by
  obtain ⟨_, ⟨p, z, hr, _⟩ | ⟨p, d, a, e, hr, _⟩ | hf⟩ := h
  · simp [hr]
  · simp [hr]
  · cases hr : (s.cannon c).request with
    | none => simp [Cannon.holds, hr] at hf
    | some r => rfl

/-- Slot 0 of station 0 begins with cannon 3 on an AUTO request. -/
def begun : State :=
  let s := timed.updCannon 3 fun k => { k with request := some (.auto 3 1) }
  { s with
    stations := updAt s.stations 0 fun g => { g with slot := 0, slotTimer := some 30 }
    cannons := Vector.ofFn fun c =>
      if (s.cannonEntry c).station = 0 ∧ (s.cannon c).state.holdsPlace = false then { s.cannon c with station := 0 }
      else s.cannon c }

/-- The walk of its candidates is that cannon alone. -/
theorem test_premise_slot_walk : begun.WalkOf 0 (begun.Candidate 0 0) [3] := by
  refine ⟨fun c => ⟨fun h => ?_, fun h => ?_⟩, List.pairwise_singleton _ _⟩
  · rw [List.mem_singleton.1 h]
    exact candidate_of_auto (p := 3) (z := 1) (by decide +kernel) (by decide +kernel) (by decide +kernel) (by decide +kernel)
  · replace h := request_of_candidate h
    revert c
    decide +kernel

/-- Cannon 3 on a FIRE request: the walk of HALT and WATCH is that cannon alone. -/
theorem test_premise_fire_walk :
    let s := begun.updCannon 3 fun k => { k with request := some (.fire 3 60 0 30) }
    ∀ c, c ∈ [(3 : CannonId)] ↔ s.Able 0 c ∧ (s.cannon c).holds .fire := by decide +kernel

/-- The field link DOWN, and a frame that brings it back. -/
theorem test_premise_field_return :
    { moving with fieldPort := { moving.fieldPort with up := false } }.Rested ∧ moving.WaitingHeld ∧
    frameFault (frame 224 1 33 []) = none ∧ frameDest (frame 224 1 33 []) = yard.ownId ∧ (∀ g, yard.Quiet g) ∧
    (yard.cannonEntry 10).mode = .automatic ∧ (yard.cannon 10).state = .unknown ∧ (moving.cannon 3).state = .idle := by
  and_intros <;> decide +kernel

/-- The link is DOWN, cannon 10 waits at station 0, UNKNOWN, and cannon 3 holds a FIRE request there: neither is quiet. -/
theorem test_premise_field_return_stirs :
    let s : State := { awaiting false with fieldPort := { (awaiting false).fieldPort with up := false } }
    let t := s.updCannon 3 fun k => { k with state := .idle, burst := none, request := some (.fire 3 60 0 30) }
    t.operating ∧ t.Rested ∧ t.WaitingHeld ∧ t.fieldPort.up = false ∧ ¬ t.Quiet 0 ∧ (t.cannon 3).openMark = true ∧
    (t.cannon 10).state = .unknown ∧ frameFault (frame 224 1 33 []) = none := by
  and_intros <;> decide +kernel

theorem test_premise_valve_timers :
    (flying .opening yard).Rested ∧ ((flying .opening yard).cannon 3).ackTimer.isSome ∧
    (flying .opening yard).hasCommand 3 = false ∧ (flying .closing yard).Rested ∧
    ((flying .closing yard).cannon 3).ackTimer.isSome ∧ (flying .closing yard).preemptors 3 = [] ∧
    (flying .stuck yard).Rested ∧ ((flying .stuck yard).cannon 3).ackTimer.isSome ∧
    (flying .spraying yard).Rested ∧ ((flying .spraying yard).cannon 3).burstTimer.isSome := by decide +kernel

/-- Cannon 3 is CLOSING for the FIRE request of cannon 10, which is arbitrated as soon as cannon 3 is STUCK. -/
def preempted : State :=
  let s := (flying .closing timed).updCannon 10 fun k => { k with state := .idle, request := some (.fire 3 60 0 30) }
  { s with
    cfg := { s.cfg with nodeMap := updAt s.cfg.nodeMap 26 fun _ => .valve 10 }
    stations := updAt s.stations 0 fun g => { g with preempt := [(10, 3)] } }

theorem test_premise_preempted_stuck :
    preempted.operating ∧ preempted.Rested ∧ (preempted.cannon 3).ackTimer.isSome ∧ (preempted.cannon 3).state = .closing ∧
    preempted.preemptors 3 = [10] ∧ preempted.FireServed 10 := by
  and_intros <;> decide +kernel

/-! ## Premises: requests -/

/-- A request in the load; one from an unmapped source; one cut short; one that a running SAVE excludes. -/
theorem test_premise_request_checks :
    Instr.identify ∈ managementRows ∧ (asked { yard with phase := .loading } [1, 7]).Rested ∧
    answers .identify { source := 1, payload := [1, 7] } ∧ yard.replyLoad < 4 ∧ yard.permits 99 = false ∧
    yard.permits 1 ∧ lengthAgrees { source := 1, payload := [1, 7, 0] } = false ∧ Instr.restart ∈ managementRows ∧
    (asked (startSave 1 2 yard) [12, 7]).Rested ∧ (asked (startSave 1 2 yard) [12, 7]).replyLoad < 4 ∧
    lengthAgrees { source := 1, payload := [12, 7] } ∧ answers .restart { source := 1, payload := [12, 7] } := by
  decide +kernel

/-- A source that is no SUPERVISOR where the node map holds one, and one where it holds none; the lengths of R194 and their
neighbours; LOAD-FORECAST of nine records and a code of 13. -/
theorem test_premise_permission_and_lengths :
    yard.Barred 99 ∧ ¬ yard.Barred 1 ∧ ¬ { yard with cfg := Tables.default 0 }.Barred 99 ∧
    bodyAgrees 1 [] = true ∧ bodyAgrees 12 [0] = false ∧ bodyAgrees 2 [1, 0, 1, 1] = true ∧ bodyAgrees 3 [1, 0, 1, 1, 6] = false ∧
    bodyAgrees 3 [1, 0, 1, 1, 6, 3] = true ∧ bodyAgrees 3 [11, 0, 1, 1, 6] = true ∧
    bodyAgrees 4 ([0, 0, 0, 0, 9] ++ List.replicate 63 0) = false ∧ bodyAgrees 13 [] = false ∧
    (asked yard [13, 7]).Rested ∧ answers .identify { source := 1, payload := [13, 7] } = true := by
  and_intros <;> decide +kernel

/-- READ-STATE of the clock. -/
theorem test_premise_read_clock :
    (asked yard [5, 7, 4, 0, 1]).Takes 1 [5, 7, 4, 0, 1] [] ∧ (asked yard [5, 7, 4, 0, 1]).ClockFits := by decide +kernel

/-- The last entry of COVERAGE, the first and last node, a record of each end of a kind. -/
theorem test_premise_reads :
    (asked yard [1, 7]).Takes 1 [1, 7] [] ∧ (asked yard [2, 7, 5, 2, 255, 2]).Takes 1 [2, 7, 5, 2, 255, 2] [] ∧
    inTable 5 (nat16 2 255) ∧ inTable 1 1 ∧ inTable 1 239 ∧ (asked yard [5, 7, 13, 0, 1]).Takes 1 [5, 7, 13, 0, 1] [] ∧
    0 < kindSize 13 ∧ 47 < kindSize 7 ∧ (asked yard [5, 7, 6, 30, 5]).Takes 1 [5, 7, 6, 30, 5] [] ∧ 30 < kindSize 6 := by
  and_intros <;> decide +kernel

/-- Tables 0 and 11, counts of 0, and entries and records just past an end; kinds 0 and 14. -/
theorem test_premise_read_refusals :
    (∀ p ∈ [([2, 7, 0, 0, 0, 1] : List Byte), [2, 7, 11, 0, 0, 1], [2, 7, 2, 0, 0, 0],
        [2, 7, 2, 0, 32, 1], [2, 7, 1, 0, 0, 1], [2, 7, 1, 0, 240, 1], [5, 7, 0, 0, 1], [5, 7, 14, 0, 1], [5, 7, 6, 0, 0], [5, 7, 6, 32, 1]],
      (asked yard p).Takes 1 p []) ∧
    inTable 2 32 = false ∧ inTable 1 0 = false ∧ inTable 1 240 = false ∧ kindSize 6 = 32 := by
  and_intros <;> decide +kernel

/-- A WRITE-ENTRIES of one entry. -/
def write (table : Byte) (entry : Nat) (bytes : List Byte) : List Byte :=
  [3, 7, table] ++ be16 entry ++ [1] ++ bytes

theorem test_premise_plain_writes :
    SourceEntry.default.ok = true ∧ (Settings.default 15).ok = true ∧
    (asked yard (write 8 3 SourceEntry.default.bytes)).Takes 1 (write 8 3 SourceEntry.default.bytes) [] ∧
    (asked yard (write 9 1 Window.default.bytes)).Takes 1 (write 9 1 Window.default.bytes) [] ∧
    (asked yard (write 10 0 (Settings.default 15).bytes)).Takes 1 (write 10 0 (Settings.default 15).bytes) [] := by
  decide +kernel

/-- Tables 0 and 11, a count of 0, and entry 4 of the four sources. -/
theorem test_premise_write_refusals :
    (∀ p ∈ [([3, 7, 0, 0, 0, 1] : List Byte), [3, 7, 11, 0, 0, 1], [3, 7, 8, 0, 0, 0],
        write 8 4 SourceEntry.default.bytes], (asked yard p).Takes 1 p []) ∧
    SourceEntry.default.bytes.length = entrySize 8 ∧ inTable 8 4 = false ∧ writeRows[7]? = some .writeSource := by
  and_intros <;> decide +kernel

/-- In each table an entry that one field takes out of its range: a role code of 10 and a mast 8; a fallback mast 8; Tw at Ta; a
slot 20; an efficiency of 101; no columns; a source named twice, and a place past the length at 0; marginal at reject; a slot
above 47; an own id of 240. -/
theorem test_premise_out_of_range :
    let settings := ({ Settings.default 0 with ownId := 240 } : Settings).bytes
    (∀ x ∈ [((1 : Nat), ([10, 0] : List Byte)), (1, [1, 8]), (2, [0, 0, 8, 255, 0, 100, 0, 80, 3, 232, 0, 0, 0, 0, 0]),
        (3, [0, 200, 0, 200, 1, 144, 20, 4, 8, 12]), (4, [2, 0, 3, 232, 16, 0, 0, 0, 1, 44]), (5, [255, 101, 0, 2, 88]),
        (6, [0, 0, 1, 0, 30, 0, 1]), (7, [30, 2, 23, 112, 2, 0, 0, 255, 255]), (7, [30, 2, 23, 112, 1, 0, 0, 255, 255]),
        (8, [2, 1, 0, 0, 0, 0, 0, 0, 0, 0, 0, 0, 0, 0, 0, 100, 0, 100, 0, 0, 7, 208, 0, 0, 15, 160]), (9, [0, 48, 0]),
        (10, settings)],
      entryInRange x.1 x.2 = false ∧ x.2.length = entryWidths.getD (x.1 - 1) 0) ∧
    (asked { yard with mode := .off } (write 1 20 [10, 0])).Takes 1 (write 1 20 [10, 0]) [] ∧
    (asked yard (write 7 0 [30, 2, 23, 112, 2, 0, 0, 255, 255])).Takes 1 (write 7 0 [30, 2, 23, 112, 2, 0, 0, 255, 255]) [] ∧
    (asked yard (write 10 0 settings)).Takes 1 (write 10 0 settings) [] ∧
    (asked { yard with mode := .off } (write 1 2 [0, 9])).Takes 1 (write 1 2 [0, 9]) [] := by
  and_intros <;> decide +kernel

/-- Entries of every default in range, and a code of no role read as nothing (R3). -/
theorem test_ranges_and_roles :
    entryInRange 1 [9, 1] = true ∧ entryInRange 1 [9, 2] = false ∧ entryInRange 2 ZoneEntry.default.bytes = true ∧
    entryInRange 7 [30, 2, 23, 112, 2, 0, 3, 255, 255] = true ∧ entryInRange 10 (Settings.default 0).bytes = true ∧
    readNodeRole [10, 0] = none ∧ readNodeRole [48, 0] = none ∧ readNodeRole [0, 9] = some .none := by
  and_intros <;> decide +kernel

/-- The source entries of a chain: entry 3 written, and none written. -/
def chained (i : Nat) : State :=
  let s := sending yard
  if i = 0 then s
  else
    { s with
      cfg := { s.cfg with sources := updAt s.cfg.sources 3 fun _ => { SourceEntry.default with allowance := 9 } } }

/-- A chain of one written entry, after which entry 4 lies past the table; an entry of bytes 255 is refused BAD-VALUE. -/
theorem test_premise_write_chain :
    (sending yard).saving = none ∧ (sending yard).phase = .running ∧ (sending yard).Rested ∧
    ((sending yard).port .control).sending.isSome ∧ ((sending yard).port .field).sending.isSome ∧
    (sending yard).replyLoad < 4 ∧ (sending yard).permits 1 ∧ inTable 8 3 ∧ inTable 8 4 = false ∧
    entrySize 8 = 26 ∧ writeRows[7]? = some .writeSource := by
  and_intros <;> decide +kernel

/-- The two single writes of that chain: the first is done, the second refused. -/
theorem test_premise_write_chain_links :
    exec .writeSource ((chained 0).writing 1 7 8 3 [{ SourceEntry.default with allowance := 9 }.bytes]) =
      .next ((chained 1).wrote 1 7 .done 1 65535 0) ∧
    exec .writeSource ((chained 1).writing 1 7 8 3 [List.replicate 26 255]) =
      .next ((chained 1).wrote 1 7 .partialDone 0 3 6) := ⟨rfl, rfl⟩

/-- In OFF: the role the entry holds, a role another entry holds, the entry of a spraying valve, and a free one. -/
theorem test_premise_node_map_write :
    nodeMapUnique yard.cfg.nodeMap = true ∧
    (asked yard (write 1 20 [6, 3])).Takes 1 (write 1 20 [6, 3]) [] ∧ NodeRole.bytes (.valve 3) = [6, 3] ∧
    (asked { yard with mode := .off } (write 1 20 [6, 3])).Takes 1 (write 1 20 [6, 3]) [] ∧
    yard.cfg.nodeMap[19] = .valve 3 ∧ yard.mapped (.valve 4) ∧ (flying .spraying yard).nodeInUse (.valve 3) ∧
    (asked { flying .spraying yard with mode := .halt } (write 1 20 [0, 0])).Takes 1 (write 1 20 [0, 0]) [] ∧
    yard.nodeInUse (.valve 3) = false ∧ yard.mapped (.valve 47) = false := by decide +kernel

theorem test_premise_node_map_write_conflict_and_free :
    (asked { yard with mode := .off } (write 1 20 [6, 4])).Takes 1 (write 1 20 [6, 4]) [] ∧
    (asked { yard with mode := .off } (write 1 20 [6, 47])).Takes 1 (write 1 20 [6, 47]) [] := by decide +kernel

/-- In HALT the mapping of cannon 10, which is UNKNOWN; and in OFF the removal of a quality analyser, which changes a quality. -/
theorem test_premise_node_map_write_closes_and_grades :
    (asked { yard with mode := .halt } (write 1 20 [6, 10])).Takes 1 (write 1 20 [6, 10]) [] ∧
    NodeRole.bytes (.valve 10) = [6, 10] ∧ yard.mapped (.valve 10) = false ∧ yard.nodeInUse yard.cfg.nodeMap[19] = false ∧
    (yard.cannonEntry 10).mode = .automatic ∧ (yard.cannon 10).state = .unknown ∧
    (asked { yard with mode := .off } (write 1 40 [0, 0])).Takes 1 (write 1 40 [0, 0]) [] ∧
    yard.cfg.nodeMap[39] = .quality 0 ∧ yard.nodeInUse (.quality 0) = false ∧
    (let s := yard.updSource 0 fun x => { x with quality := .marginal }
     (asked { s with mode := .off } (write 1 40 [0, 0])).Rested ∧ (s.source 0).derived false ≠ (s.source 0).quality) := by
  and_intros <;> decide +kernel

/-- Zone 0 with a new profile in WATCH, its risk at the top of the range; and with its policy taken back while machine 0 works in
it and cannon 3 sprays for it. -/
theorem test_premise_zone_write_bands_and_excludes :
    let banded := { yard.zoneEntry 0 with profile := 3, watch := true }
    let risky : State := { yard.updZone 0 fun x => { x with risk := 1000 } with mode := .watch }
    let policed := { yard.zoneEntry 0 with policy := true }
    let working : State :=
      { flying .spraying yard with
        machineCounts := updAt yard.machineCounts 0 fun _ => 1
        cfg := { yard.cfg with zones := updAt yard.cfg.zones 0 fun _ => policed } }
    let closed := { policed with policy := false }
    banded.ok = true ∧ (asked risky (write 2 0 banded.bytes)).Takes 1 (write 2 0 banded.bytes) [] ∧
    banded.profile ≠ (risky.zoneEntry 0).profile ∧ (risky.zone 0).band = .calm ∧
    closed.ok = true ∧ (asked working (write 2 0 closed.bytes)).Takes 1 (write 2 0 closed.bytes) [] ∧
    working.machineCount 0 ≠ 0 ∧ (working.zoneEntry 0).policy = true ∧
    (working.cannon 3).flying (fun b => decide (b.credited = some 0 ∧ b.cls ≠ .fire)) = true ∧ working.WaitingHeld ∧
    (working.cannon 3).state = .spraying := by
  and_intros <;> decide +kernel

theorem test_premise_zone_write :
    (asked yard (write 2 31 ZoneEntry.default.bytes)).Takes 1 (write 2 31 ZoneEntry.default.bytes) [] ∧
    ZoneEntry.default.ok = true ∧ yard.machineCount 0 = 0 ∧ (yard.zoneEntry 0).enabled = true ∧
    (yard.zoneEntry 31).enabled = false ∧ { ZoneEntry.default with enabled := true }.ok = true := by decide +kernel

theorem test_premise_profile_write :
    (asked yard (write 3 3 Profile.default.bytes)).Takes 1 (write 3 3 Profile.default.bytes) [] ∧
    Profile.default.ok = true := by decide +kernel

/-- Zones 0 and 31 use profile 0; in WATCH a fall of its thresholds takes watched zone 0 to SEVERE. -/
theorem test_premise_profile_write_wakes :
    let e := { Profile.default with hysteresis := 5 }
    let s : State :=
      { yard with
        mode := .watch
        zones := updAt yard.zones 0 fun x => { x with risk := 900 }
        cfg := { yard.cfg with zones := updAt yard.cfg.zones 0 fun z => { z with watch := true } } }
    e.ok = true ∧ (asked s (write 3 0 e.bytes)).Takes 1 (write 3 0 e.bytes) [] ∧ (s.zoneEntry 0).watch = true ∧
    e.decideBand 900 (s.zone 0).band = .severe ∧ (s.zone 0).band = .calm ∧ (s.zoneEntry 0).profile = 0 := by
  and_intros <;> decide +kernel

theorem test_premise_cannon_write :
    (asked yard (write 4 47 CannonEntry.default.bytes)).Takes 1 (write 4 47 CannonEntry.default.bytes) [] ∧
    CannonEntry.default.ok = true ∧ ((flying .stuck yard).cannon 3).state.holdsPlace ∧
    (asked (flying .stuck yard) (write 4 3 CannonEntry.default.bytes)).Takes 1
      (write 4 3 CannonEntry.default.bytes) [] ∧ CannonEntry.default ≠ yard.cannonEntry 3 ∧
    (let e := { CannonEntry.default with refMast := 7, station := 3 }
     e.ok = true ∧ (asked yard (write 4 47 e.bytes)).Takes 1 (write 4 47 e.bytes) []) := by
  and_intros <;> decide +kernel

/-- An entry with only its mode and reference mast changed. -/
def moded (c : CannonId) (m : CannonMode) : CannonEntry := { yard.cannonEntry c with mode := m, refMast := 5 }

/-- Each mode from each state it may be left in. -/
theorem test_premise_cannon_mode_write :
    (∀ x ∈ [((3 : CannonId), CannonMode.bypass), (3, .outOfService), (4, .automatic), (4, .outOfService), (5, .automatic),
        (5, .bypass)],
      (asked yard (write 4 x.1.val (moded x.1 x.2).bytes)).Takes 1 (write 4 x.1.val (moded x.1 x.2).bytes) [] ∧
      (moded x.1 x.2).ok = true ∧ (yard.cannonEntry x.1).mode ≠ x.2 ∧ (yard.cannon x.1).state.holdsPlace = false ∧
      (yard.cannon x.1).state ≠ .bypassOpen) ∧
    (yard.cannon 4).state = .bypassClosed ∧ (yard.cannon 5).state = .retired ∧ yard.wired 5 := by
  and_intros <;> decide +kernel

theorem test_premise_coverage_and_pattern :
    (asked yard (write 5 767 Coverage.default.bytes)).Takes 1 (write 5 767 Coverage.default.bytes) [] ∧
    Coverage.default.ok = true ∧
    (asked yard (write 6 7 Pattern.default.bytes)).Takes 1 (write 6 7 Pattern.default.bytes) [] ∧
    Pattern.default.ok = true := by decide +kernel

/-- A limit of 1 below two places in use, and the entry in force. -/
def crampedEntry : StationEntry := { StationEntry.default with limit := 1 }

theorem test_premise_station_write :
    (asked yard (write 7 0 crampedEntry.bytes)).Takes 1 (write 7 0 crampedEntry.bytes) [] ∧ crampedEntry.ok = true ∧
    crampedEntry ≠ yard.stationEntry 0 ∧ crampedEntry.limit ≤ (yard.stationEntry 0).limit ∧
    (asked (yard.updStation 0 fun g => { g with inUse := 2 }) (write 7 0 crampedEntry.bytes)).Takes 1
      (write 7 0 crampedEntry.bytes) [] := by decide +kernel

/-- A rise of the limit by one, at a station where cannon 10 waits to close. -/
theorem test_premise_station_write_rise :
    let e := { StationEntry.default with limit := 3 }
    let s := timed.updStation 0 fun g => { g with waiting := [10] }
    e.ok = true ∧ (yard.stationEntry 0).limit < e.limit ∧ s.WaitingHeld ∧
    (asked yard (write 7 0 e.bytes)).Takes 1 (write 7 0 e.bytes) [] ∧
    (asked s (write 7 0 e.bytes)).Takes 1 (write 7 0 e.bytes) [] ∧ (s.station 0).pump = .running ∧ s.fieldPort.up := by
  and_intros <;> decide +kernel

/-- The two ends of the window of 48 hours: epoch 19,534, hours 19,534 and 19,581. -/
def forecastYard : State :=
  asked { yard with clock := { yard.clock with timeSet := true, day := 813, second := 80000 } }
    ([4, 7] ++ be32 19581 ++ [2, 0, 100, 0, 200, 15, 20, 100, 0, 100, 0, 200, 15, 20, 100])

theorem test_premise_load_forecast :
    forecastYard.Takes 1 ([4, 7] ++ be32 19581 ++ [2, 0, 100, 0, 200, 15, 20, 100, 0, 100, 0, 200, 15, 20, 100]) [] ∧
    forecastYard.ClockFits ∧ forecastYard.epoch = some 19534 ∧
    ForecastRecord.ok { mean := 100, gust := 200, sector := 15, rain := 20, evap := 100 } = true ∧
    (19581 + 1572864 - 19534) % 1572864 < 48 ∧ ¬ (19582 + 1572864 - 19534) % 1572864 < 48 := by decide +kernel

/-- The start hour past the last, a mean of 601, and a body of no record, of nine, and cut short. -/
theorem test_premise_load_forecast_refusals :
    (∀ p ∈ [([4, 7, 0, 24, 0, 0, 1, 0, 100, 0, 200, 15, 20, 100] : List Byte),
        [4, 7, 0, 0, 76, 78, 1, 2, 89, 0, 200, 15, 20, 100], [4, 7, 0, 0, 76, 78, 0], [4, 7, 0, 0, 76, 78, 9], [4, 7, 0, 0]], (asked yard p).Takes 1 p []) ∧
    nat32 0 24 0 0 = 1572864 := by
  and_intros <;> decide +kernel

/-- The five verbs, each in a mode that allows it and in one that does not. -/
theorem test_premise_verbs :
    (∀ x ∈
      [({ yard with mode := .off }, ([6, 7, 1] : List Byte)), (yard, [6, 7, 1]), (yard, [6, 7, 2]),
       ({ yard with mode := .halt }, [6, 7, 2]), ({ yard with mode := .watch }, [6, 7, 3]),
       ({ yard with mode := .off }, [6, 7, 3]), ({ yard with mode := .halt }, [6, 7, 4]), (yard, [6, 7, 4]),
       (yard, [6, 7, 5]), ({ yard with mode := .off }, [6, 7, 5])],
      (asked x.1 x.2).Takes 1 x.2 []) ∧ (yard.cannonEntry 3).mode = .automatic ∧ yard.wired 3 ∧
    (yard.cannon 3).state ∈ [CannonState.unknown, .idle, .fault] := by decide +kernel

/-- Verbs 0 and 6. -/
theorem test_premise_unknown_verbs : (∀ p ∈ [([6, 7, 0] : List Byte), [6, 7, 6]], (asked yard p).Takes 1 p []) := by
  decide +kernel

/-- STOP with cannon 3 spraying, and with its OPEN queued. -/
theorem test_premise_stop :
    (asked (flying .spraying yard) [6, 7, 5]).Takes 1 [6, 7, 5] [] ∧ (flying .spraying yard).WaitingHeld ∧
    (let t := { sending (flying .opening yard) with commands := [{ cannon := 3, verb := .openValve }] }
     (asked t [6, 7, 5]).Takes 1 [6, 7, 5] [] ∧ t.WaitingHeld ∧ t.openQueued 3) := by
  and_intros <;> decide +kernel

/-- A FIRE burst in flight and another's. -/
theorem test_premise_watch_and_halt :
    (asked (flying .spraying yard) [6, 7, 2]).Takes 1 [6, 7, 2] [] ∧ yard.WaitingHeld ∧ (flying .spraying yard).WaitingHeld ∧
    ((flying .spraying yard).cannon 3).burst = some burst ∧ burst.cls ≠ .fire ∧
    (asked ((flying .spraying yard).updCannon 3 fun k => { k with burst := some { burst with cls := .fire } })
      [6, 7, 3]).Takes 1 [6, 7, 3] [] := by
  and_intros <;> decide +kernel

/-- Cannon 48 and mode 3 lie just past the ends; cannon 3 is AUTOMATIC and IDLE, or STUCK. -/
theorem test_premise_set_cannon_mode :
    (∀ p ∈ [([7, 7, 48, 0] : List Byte), [7, 7, 47, 3], [7, 7, 3, 0], [7, 7, 3, 1]], (asked yard p).Takes 1 p []) ∧
    (yard.cannonEntry 3).mode = .automatic ∧ (yard.cannon 3).state = .idle ∧
    (asked (flying .stuck yard) [7, 7, 3, 2]).Takes 1 [7, 7, 3, 2] [] ∧
    ((flying .stuck yard).cannon 3).state = .stuck := by decide +kernel

/-- Cannon 5 enters AUTOMATIC from RETIRED with its valve mapped, cannon 4 from BYPASS-CLOSED with its open mark set. -/
theorem test_premise_set_cannon_mode_enters :
    (∀ p ∈ [([7, 7, 5, 0] : List Byte), [7, 7, 4, 0], [7, 7, 5, 1]], (asked yard p).Takes 1 p []) ∧
    (yard.cannon 5).state = .retired ∧ yard.wired 5 ∧ yard.mode ≠ .off ∧ yard.Admits 5 ∧
    (yard.cannon 4).openMark = true ∧ (yard.cannon 4).state = .bypassClosed ∧ yard.hasCommand 4 = false := by
  and_intros <;> decide +kernel

theorem test_premise_clears :
    (∀ x ∈
      [(flying .fault yard, ([8, 7, 3] : List Byte)), (flying .closing yard, [8, 7, 3]), (yard, [8, 7, 3]),
       (yard, [8, 7, 48]), (yard, [9, 7, 0, 15]), (yard, [9, 7, 1, 16]), (yard, [9, 7, 2, 0]), (timed, [10, 7, 0]),
       (yard, [10, 7, 8])],
      (asked x.1 x.2).Takes 1 x.2 []) ∧ ((flying .fault yard).cannon 3).state = .fault := by decide +kernel

theorem test_premise_restart : (asked yard [12, 7]).Takes 1 [12, 7] [] ∧ (asked yard [12, 7]).saving = none := by
  decide +kernel

/-! ## Premises: computations -/

/-- A monitor at twice its alert level, one at it, and a zone that names it. -/
def dusty (acc : Nat) : State :=
  { yard with
    dusts := updAt yard.dusts 0 fun _ => { acc := acc, fresh := true, timer := some 1 }
    cfg := { yard.cfg with zones := updAt yard.cfg.zones 0 fun e => { e with dust := some 0 } } }

theorem test_premise_risk_terms :
    ((dusty 1200).dust 0).fresh ∧ (dusty 1200).settings.alertLevels[0] = 150 ∧
    2 * (dusty 1200).settings.alertLevels[0] ≤ ((dusty 1200).dust 0).acc / 4 ∧
    (dusty 600).settings.alertLevels[0] = ((dusty 600).dust 0).acc / 4 ∧
    ((dusty 599).dust 0).acc / 4 < (dusty 599).settings.alertLevels[0] ∧ (yard.dust 0).fresh = false ∧
    (dusty 1200).profileOf 0 = Profile.default ∧ (dusty 1200).dustBonus ((dusty 1200).zoneEntry 0) = 250 := by
  decide +kernel

/-- Cannon 3 with an AUTO request; water in source 0, or none. -/
def wanting (litres : Nat) : State :=
  { yard with
    cannons := updAt yard.cannons 3 fun k => { k with request := some (.auto 3 0) }
    sources := updAt yard.sources 0 fun w => { w with estimate := some litres } }

theorem test_premise_grant :
    (wanting 375).stationOf 3 = 0 ∧ ((wanting 375).cannon 3).request = some (.auto 3 0) ∧
    (wanting 375).arbiterCount 0 < ((wanting 375).stationEntry 0).limit ∧
    (wanting 375).arbiterFlow 0 + ((wanting 375).cannonEntry 3).flow ≤ ((wanting 375).stationEntry 0).maxFlow ∧
    ((wanting 375).cannonEntry 3).flow * (wanting 375).durationOf 0 (.auto 3 0) / 60 = 366 ∧
    chooseSource 0 .auto 3 366 (wanting 366) = some 0 ∧ chooseSource 0 .auto 3 366 (wanting 365) = none := by
  decide +kernel

/-- Cannon 3 holds a FIRE request at a station whose one place cannon 5 fills with a lesser burst. -/
def burning : State :=
  let s := wanting 5000
  { s with
    cannons := updAt (updAt s.cannons 3 fun k => { k with request := some (.fire 3 60 0 30) }) 5 fun k =>
      { k with state := .spraying, burst := some burst, burstTimer := some 15 }
    stations := updAt s.stations 0 fun g => { g with inUse := 2, inUseFlow := 2000 } }

theorem test_premise_fire_denied :
    burning.stationOf 3 = 0 ∧ (burning.cannon 3).request = some (.fire 3 60 0 30) ∧
    burning.arbiterCount 0 = (burning.stationEntry 0).limit ∧ chooseSource 0 .fire 3 1000 burning = some 0 ∧
    (burning.cannonEntry 3).flow * burning.durationOf 0 (.fire 3 60 0 30) / 60 = 1000 ∧
    (∀ h, (burning.station h).preempt = []) ∧ (burning.cannonEntry 3).flow ≤ (burning.stationEntry 0).maxFlow ∧
    burning.stationOf 5 = 0 ∧ (burning.cannon 5).burst = some burst ∧ burst.cls ≠ .fire ∧
    (∀ v, (burning.cannon v).burst.isSome → v = 5) := by
  and_intros <;> decide +kernel

/-- An acknowledgement time of 11, and settings in range. -/
theorem test_premise_timer_settings :
    ¬ u8 ({ Settings.default 0 with ackTime := 11 } : Settings).bytes 36 ≤ 10 ∧
    (readSettings (Settings.default 0).bytes).isSome ∧ Store.blank.fault ≠ none ∧
    ((flying .closing yard).cannon 3).state = .closing ∧ ((flying .stuck yard).cannon 3).state = .stuck := by
  decide +kernel

/-- The pin is released on a part held in reset; a request and a second come while the load runs; the load then finds the
store invalid. -/
theorem test_premise_loading_settings :
    let held : State := { State.reset with phase := .held, pending := [.resetRelease 5] }
    let load : State := { State.reset with pending := [.secondEvent] }
    let asks : State := { asked State.reset [1, 7] with pending := [.identify] }
    let phaseAfter := fun (s : State) => match step s with
      | .next t => some t.phase
      | _ => none
    held.phase ≠ .loading ∧ phaseAfter held = some .loading ∧
    load.phase = .loading ∧ phaseAfter load = some .loading ∧ load.settings.ackTime = 3 ∧
    asks.phase = .loading ∧ phaseAfter asks = some .loading ∧ load.store.fault ≠ none := by
  and_intros <;> decide +kernel

theorem test_premise_round_trip :
    ZoneEntry.default.ok ∧ Profile.default.ok ∧ CannonEntry.default.ok ∧ Coverage.default.ok ∧ Pattern.default.ok ∧
    StationEntry.default.ok ∧ SourceEntry.default.ok ∧ (Settings.default 15).ok := by decide +kernel

/-! ## Premises: the laws -/

/-- A second passes: the step that the witnesses of the laws take. -/
theorem test_premise_step_answers (s : State) : ∃ t, step { s with pending := [.secondEvent] } = .next t := ⟨_, rfl⟩

/-- A busy yard meets every law that does not ask for a configuration in range. -/
theorem test_premise_laws :
    (sending timed).Rested ∧ (sending timed).QueuesFit ∧ (sending timed).NoticesDiffer ∧ (sending timed).StoreHeld ∧
    (sending timed).ClockFits ∧ (sending timed).OwedHeld ∧ (sending timed).CountsHeld := by decide +kernel

theorem test_premise_places : timed.CannonsAgree ∧ timed.WaitingHeld ∧ timed.PlacesHeld ∧ timed.CommandsHeld := by
  refine ⟨?_, ?_, ?_, ?_⟩ <;> decide +kernel

theorem test_premise_dispatch_laws :
    timed.CommitmentsHeld ∧ timed.ClosesBetween ∧ timed.ExclusionHeld ∧ timed.ModeHeld := by
  refine ⟨?_, ?_, ?_, ?_⟩ <;> decide +kernel

theorem test_premise_configuration_laws :
    { yard with cfg := Tables.default 0 }.cfg.ok = true ∧ { yard with cfg := Tables.default 0 }.BandsHeld ∧
    { yard with cfg := Tables.default 0 }.AimsFit :=
  ⟨tables_default_ok 0, by decide +kernel, by decide +kernel⟩

end Sys2Proof.Machine.Tests
end

section
namespace Sys2Proof.Machine

/-! ## Frames that are heard and pass -/

/-- At the control port liveness restarts the timer and brings the link UP, and nothing more (R160). -/
theorem linkAlive_control (s : State) : linkAlive .control s = s.heard .control := rfl

/-- A well-formed frame at the control port that is not the part's own and finds its place is heard, snooped and passed on
(R153, R155, R160). -/
theorem completeFrame_control_of_passes (s : State) (f : Frame) (h : s.Passes .control f) :
    completeFrame .control f s = passOn .control f (snoop .control f (s.heard .control)) := by
  obtain ⟨hwf, hdest, hroom⟩ := h
  have hroom' : ¬ 4 ≤ ((s.heard .control).port (otherPort .control)).buffer.length := Nat.not_le.mpr hroom
  simp only [completeFrame, hwf, wellFormedFrame, if_neg hdest, linkAlive_control]
  exact if_neg hroom'

/-- A TIME frame of a SUPERVISOR in the form of R7 reaches the clock (R6, R7, R25). -/
theorem snoop_time (s : State) (f : Frame) (i : Fin 2) (a b c d e g : Byte) (hk : frameKind f = 32)
    (hb : framePayload f = [a, b, c, d, e, g]) (ht : nat32 c d e g ≤ 86399)
    (hr : s.roleOf (frameSource f) = .supervisor i) :
    snoop .control f s = timeFrame (nat16 a b) (nat32 c d e g) s := by
  have htime : readTime (framePayload f) = some (nat16 a b, nat32 c d e g) := by simp [hb, readTime, ht]
  simp only [snoop, hk, kindTime, if_true, hr, htime]

/-- A frame that is no COMMAND is forwarded (R155). -/
theorem passOn_of_not_command (s : State) (p : Port) (f : Frame) (h : frameKind f ≠ kindCommand) :
    passOn p f s = s.relayed p f := by
  have hk : decide (frameKind f = kindCommand) = false := decide_eq_false h
  cases p <;> simp [passOn, hk, forward, State.relayed]

/-- What a TIME frame sets, written out (R25, R26, R134). -/
theorem timeFrame_eq (day second : Nat) (s : State) :
    timeFrame day second s =
      { s with
        clock := { s.clock with timeSet := true, day := day, second := second }
        sources := if s.clock.timeSet ∧ day ≠ s.clock.day then s.sources.map fun w => { w with dayDraw := 0 }
          else s.sources } := by
  unfold timeFrame dayChange
  split <;> rfl

/-- Settles O13: the frame is heard, sets the clock and is forwarded, and no capacity event falls due. -/
theorem timeFrameSetsClock : Obligations.TimeFrameSetsClock := by
  intro s f i a b c d e g ho hrest hpass hk hb ht hr
  have hdone : completeFrame .control f s =
      (timeFrame (nat16 a b) (nat32 c d e g) (s.heard .control)).relayed .control f := by
    rw [completeFrame_control_of_passes s f hpass, snoop_time (s.heard .control) f i a b c d e g hk hb ht hr,
      passOn_of_not_command _ _ _ (by rw [hk]; decide)]
  have hdue : (completeFrame .control f s).dueCapacity = [] := by rw [hdone, timeFrame_eq]; exact hrest.1
  have hstep : exec (.frameCompletion .control f) s = .next (stepOf (completeFrame .control f) s) := rfl
  rw [hstep, stepOf_of_settled _ s ho hdue, hdone, timeFrame_eq]
  rfl

/-! ## The second event -/

/-- Where the clock's wrap lies: the yard day's last second while SET (R24). -/
theorem clock_wraps_iff (k : Clock) : k.wraps = true ↔ k.timeSet = true ∧ 86400 ≤ k.second + 1 := by
  simp [Clock.wraps]

/-- The state after the second event, the day draws cleared at the wrap (R24, R26). -/
theorem secondEvent_eq (s : State) :
    secondEvent s =
      { tickTimers s with
        clock := s.clock.advance
        sources := (tickTimers s).sources.map fun w => { w with dayDraw := if s.clock.wraps then 0 else w.dayDraw } } := by
  unfold secondEvent dayChange
  split <;> simp

/-- Every record of a mapped table is mapped. -/
theorem vector_map_get {α : Type} {n : Nat} (v : Vector α n) (f : α → α) (i : Fin n) : (v.map f)[i] = f v[i] := by simp

/-- A second makes nothing wait and starts no sending (R158). -/
theorem noneWaits_secondEvent (s : State) (h : s.NoneWaits) : (secondEvent s).NoneWaits := by
  rw [secondEvent_eq]
  rintro p hp
  cases p <;> exact h _ hp

/-- At rest a second is the second event alone, since it brings neither a capacity event nor a sending (R24). -/
theorem exec_secondEvent (s : State) (ho : s.operating) (h : s.Rested) : exec .secondEvent s = .next (secondEvent s) := by
  have hdue : (secondEvent s).dueCapacity = [] := by rw [secondEvent_eq]; exact h.1
  have hstep : exec .secondEvent s = .next (stepOf secondEvent s) := rfl
  rw [hstep, stepOf_of_settled _ s ho hdue, transmitBoth_of_noneWaits _ (noneWaits_secondEvent s (h.2 ho))]

/-- The uptime count advances at every second (R24). -/
theorem advance_uptime (k : Clock) : (k.advance.upDay, k.advance.upSecond) = nextSecond k.upDay k.upSecond := rfl

/-- The yard clock advances while SET (R24). -/
theorem advance_yard (k : Clock) :
    (k.advance.day, k.advance.second) = if k.timeSet = false then (k.day, k.second) else nextSecond k.day k.second := by
  cases h : k.timeSet <;> simp [Clock.advance, h]

/-- A source after a second (R24, R26). -/
theorem source_secondEvent (s : State) (w : SourceId) :
    (secondEvent s).source w =
      { s.source w with
        timer := tick (s.source w).timer
        dayDraw := if s.clock.wraps then 0 else (s.source w).dayDraw } := by
  rw [secondEvent_eq]
  simp only [State.source, tickTimers, vector_map_get]

/-- Settles O22: the records after a second are those of `tickTimers`, mapped one by one, and the clock's is
`Clock.advance`. -/
theorem secondEventAdvancesTime : Obligations.SecondEventAdvancesTime := by
  intro s ho hrest
  have hports : ∀ p, (secondEvent s).port p = { s.port p with liveness := (s.port p).liveness.map (· - 1) } := by
    rw [secondEvent_eq]; intro p; cases p <;> rfl
  have hsource := source_secondEvent s
  simp only [clock_wraps_iff] at hsource
  refine ⟨secondEvent s, exec_secondEvent s ho hrest, ?_⟩
  rw [secondEvent_eq] at hsource hports ⊢
  exact ⟨advance_uptime s.clock, rfl, advance_yard s.clock,
    fun _ => vector_map_get _ _ _, fun _ => vector_map_get _ _ _, fun _ => vector_map_get _ _ _,
    fun _ => vector_map_get _ _ _, fun _ => vector_map_get _ _ _, fun _ => vector_map_get _ _ _,
    hsource, fun _ => vector_map_get _ _ _, hports, rfl⟩

end Sys2Proof.Machine
end

section
namespace Sys2Proof.Machine

/-! ## The bytes of a notice (R196) -/

/-- Two numbers that agree modulo 256 are one byte. -/
theorem byte_congr {m n : Nat} (h : m % 256 = n % 256) : byte m = byte n :=
  BitVec.eq_of_toNat_eq (by rw [byte_toNat_mod, byte_toNat_mod, h])

/-- A source's kind stands in the two high bits of the value of SOURCE-LOW, above its estimate (R196). -/
theorem be32_kind_estimate (k e : Nat) :
    be32 (k * 2 ^ 30 + e) = [byte (k * 64 + e / 16777216), byte (e / 65536), byte (e / 256), byte e] := by
  have h0 : (k * 2 ^ 30 + e) / 16777216 = k * 64 + e / 16777216 := by omega
  have h1 : byte ((k * 2 ^ 30 + e) / 65536) = byte (e / 65536) := byte_congr (by omega)
  have h2 : byte ((k * 2 ^ 30 + e) / 256) = byte (e / 256) := byte_congr (by omega)
  have h3 : byte (k * 2 ^ 30 + e) = byte e := byte_congr (by omega)
  simp only [be32, h0, h1, h2, h3]

/-- A number that may be none, as a byte with 255 for none. -/
theorem opt1_map_val {n : Nat} (x : Option (Fin n)) : opt1 (x.map (·.val)) = [(x.map fun i => byte i.val).getD 255] := by
  cases x <;> rfl

/-- The flag of FIRE stands above the verb's code in the value of COMMAND-REFUSED (R196). -/
theorem byte_verb_fire (verb : Option Verb) (fire : Bool) :
    byte ((verb.map Verb.code).getD 0 + if fire then 128 else 0) =
      (match verb with | none => 0 | some .openValve => 1 | some .closeValve => 2) ||| (if fire then 128 else 0) := by
  rcases verb with _ | _ | _ <;> cases fire <;> decide

/-- The kind, subject and value of a notice are the bytes of the table of R196. -/
theorem report_bytes (r : Report) : [byte r.kind, byte r.subject] ++ r.value = r.laidOut := by
  cases r with
  | sourceLow w kind estimate =>
    simp only [Report.value, be32_kind_estimate]
    rfl
  | machineStale m zone kind activity =>
    simp only [Report.value, opt1_map_val]
    rfl
  | commandRefused c reason verb fire addressed substitute =>
    simp only [Report.value, opt1_map_val, byte_verb_fire]
    rfl
  | zoneBlind z entering => cases entering <;> rfl
  | cannonFault c cause => cases cause <;> rfl
  | sourceQuality w q stale kind => cases stale <;> rfl
  | portError p flag all => cases p <;> cases flag <;> rfl
  | dispatchMode new previous cause => cases cause <;> rfl
  | storeInvalid cause => cases cause <;> rfl
  | _ => rfl

/-! ## The places of the notice queue (R188) -/

theorem coalesces_iff (a b : Report) : a.coalesces b = true ↔ a.kind = b.kind ∧ a.subject = b.subject := by
  simp [Report.coalesces]

/-- Where no two entries coalesce, the one that a notice coalesces with is the only one updated. -/
theorem map_coalescing_eq_set (l : List NoticeEntry) (r : Report) (new : NoticeEntry) (i : Nat) (e : NoticeEntry)
    (hl : l.Pairwise fun a b => ¬ a.report.coalesces b.report) (hi : l[i]? = some e) (he : e.report.coalesces r) :
    (l.map fun x => if x.report.coalesces r then new else x) = l.set i new := by
  obtain ⟨hlt, rfl⟩ := List.getElem?_eq_some_iff.mp hi
  rw [coalesces_iff] at he
  rw [List.pairwise_iff_getElem] at hl
  simp only [coalesces_iff] at hl ⊢
  refine List.ext_getElem (by simp) fun j hj _ => ?_
  rw [List.length_map] at hj
  rw [List.getElem_map, List.getElem_set]
  rcases Nat.lt_trichotomy i j with hij | rfl | hij
  · rw [if_neg (Nat.ne_of_lt hij), if_neg]
    exact fun h => hl i j hlt hj hij ⟨he.1.trans h.1.symm, he.2.trans h.2.symm⟩
  · rw [if_pos he, if_pos rfl]
  · rw [if_neg (Nat.ne_of_gt hij), if_neg]
    exact fun h => hl j i hj hlt hij ⟨h.1.trans he.1.symm, h.2.trans he.2.symm⟩

/-- A notice that coalesces with an entry takes its place (R188). -/
theorem place_coalesced (q : NoticeQueue) (r : Report) (t : Stamp) (i : Nat) (e : NoticeEntry)
    (hq : q.entries.Pairwise fun a b => ¬ a.report.coalesces b.report) (hi : q.entries[i]? = some e)
    (he : e.report.coalesces r) :
    q.place r t = { q with entries := q.entries.set i { report := r, stamp := t } } := by
  have hany : q.entries.any (fun x => x.report.coalesces r) = true :=
    List.any_eq_true.mpr ⟨e, List.mem_of_getElem? hi, he⟩
  rw [NoticeQueue.place, if_pos hany, map_coalescing_eq_set q.entries r _ i e hq hi he]

/-- A notice that coalesces with none finds no entry to update. -/
theorem any_coalesces_eq_false (l : List NoticeEntry) (r : Report)
    (h : ∀ e ∈ l, e.report.kind = r.kind → e.report.subject ≠ r.subject) :
    ¬ l.any (fun e => e.report.coalesces r) = true := by
  simp only [List.any_eq_true, coalesces_iff, not_exists, not_and]
  exact h

/-- A notice that coalesces with none joins the tail while there is room (R188). -/
theorem place_joins (q : NoticeQueue) (r : Report) (t : Stamp)
    (h : ∀ e ∈ q.entries, e.report.kind = r.kind → e.report.subject ≠ r.subject) (hlen : q.entries.length < 32) :
    q.place r t = { q with entries := q.entries ++ [{ report := r, stamp := t }] } := by
  rw [NoticeQueue.place, if_neg (any_coalesces_eq_false _ r h), if_pos hlen]

/-- A notice that coalesces with none is counted as lost where the queue is full (R188). -/
theorem place_overflows (q : NoticeQueue) (r : Report) (t : Stamp)
    (h : ∀ e ∈ q.entries, e.report.kind = r.kind → e.report.subject ≠ r.subject) (hlen : 32 ≤ q.entries.length) :
    q.place r t = { q with marker := some (q.marker.getD t), lost := min 65535 (q.lost + 1) } := by
  rw [NoticeQueue.place, if_neg (any_coalesces_eq_false _ r h), if_neg (Nat.not_lt.mpr hlen)]

/-! ## The insertion source of the control port (R158, R159) -/

/-- The decision is for the insertion source where it waits and the forward source does not, or sent last (R158). -/
theorem decideNext_insertion (p : Port) (s : State) (hw : s.insertionWaits p = true)
    (ht : (s.port p).turn = .forward ∨ (s.port p).buffer = []) : decideNext p s = sendFrom p .insertion s := by
  unfold decideNext
  rw [hw]
  cases hf : s.forwardWaits p with
  | false => rfl
  | true =>
    have hturn : (s.port p).turn = .forward :=
      ht.resolve_right fun hb => by simp [State.forwardWaits, hb] at hf
    rw [hturn]
    rfl

/-- The state in which the transmitter of port `p` has ended its frame, before its arbiter decides (R158). -/
def State.lineFree (s : State) (p : Port) : State := s.updPort p fun x => { x with sending := none }

/-- The end of a frame's sending is the decision of the freed port (R158). -/
theorem exec_endOfSending (p : Port) (s : State) (ho : s.operating) (hs : (s.port p).sending.isSome) :
    exec (.endOfSending p) s = .next (decideNext p (s.lineFree p)) := by
  have hstep : exec (.endOfSending p) s =
      .next (if s.operating && !s.idlePort p then endSending p s else s) := rfl
  have hidle : (s.operating && !s.idlePort p) = true := by
    rw [ho, State.idlePort, Option.isNone_eq_false_iff.mpr hs]; rfl
  rw [hstep, if_pos hidle]
  rfl

/-- The end of a sending at the control port, where a reply or a notice waits and has its turn (R158, R159). -/
theorem exec_endOfSending_control (s : State) (ho : s.operating) (hs : s.controlPort.sending.isSome)
    (ht : s.controlPort.turn = .forward ∨ s.controlPort.buffer = []) (hw : s.insertionWaits .control = true) :
    exec (.endOfSending .control) s = .next (sendReplyOrNotice (s.lineFree .control)) := by
  rw [exec_endOfSending .control s ho hs]
  exact congrArg _ (decideNext_insertion .control (s.lineFree .control) hw ht)

/-- A reply waits (R159). -/
theorem insertionWaits_of_reply (s : State) (r : Reply) (rest : List Reply) (h : s.replies = r :: rest) :
    s.insertionWaits .control = true := by simp [State.insertionWaits, h]

/-- A notice is ready: the link is UP, a SUPERVISOR is mapped, and an entry or the marker waits (R159, R189). -/
theorem insertionWaits_of_notice (s : State) (dest : Byte) (hup : s.controlPort.up) (hd : s.noticeDest = some dest)
    (h : s.notices.entries ≠ [] ∨ s.notices.marker.isSome) : s.insertionWaits .control = true := by
  have hready : s.noticeReady = true := by simpa [State.noticeReady, hd] using h
  simp [State.insertionWaits, hup, hready]

/-- A reply goes before any notice (R159, R181). -/
theorem sendReplyOrNotice_reply (s : State) (r : Reply) (rest : List Reply) (h : s.replies = r :: rest) :
    sendReplyOrNotice s = startSending .control (s.replyFrame r) .insertion { s with replies := rest } := by
  simp only [sendReplyOrNotice, h]

/-- With no reply waiting the notice is sent (R159, R189). -/
theorem sendReplyOrNotice_notice (s : State) (dest : Byte) (h : s.replies = []) (hd : s.noticeDest = some dest) :
    sendReplyOrNotice s = sendNotice dest s := by
  simp only [sendReplyOrNotice, h, hd]

/-- The payload of OVERFLOW: its flags hold 2 and the time-set flag (R196). -/
theorem overflow_payload (lost : Nat) (k : Stamp) :
    noticePayload 19 0 ([0, 0] ++ be16 lost) k true =
      [19, 0, 0, 0] ++ be16 lost ++ be16 k.day ++ be32 k.second ++ [if k.timeSet then 3 else 2] := by
  obtain ⟨day, second, timeSet⟩ := k
  cases timeSet <;> rfl

/-- The payload of an entry's notice (R196). -/
theorem notice_payload (r : Report) (k : Stamp) :
    noticePayload r.kind r.subject r.value k false =
      r.laidOut ++ be16 k.day ++ be32 k.second ++ [if k.timeSet then 1 else 0] := by
  rw [← report_bytes]
  obtain ⟨day, second, timeSet⟩ := k
  cases timeSet <;> rfl

/-- The OVERFLOW notice clears the marker and the lost count (R189). -/
theorem sendNotice_overflow (dest : Byte) (s : State) (k : Stamp) (h : s.notices.marker = some k) :
    sendNotice dest s =
      startSending .control
        (buildFrame dest s.ownId 66
          ([19, 0, 0, 0] ++ be16 s.notices.lost ++ be16 k.day ++ be32 k.second ++ [if k.timeSet then 3 else 2]))
        .insertion { s with notices := { s.notices with marker := none, lost := 0 } } := by
  simp only [sendNotice, h, State.overflowFrame, overflow_payload, kindNotice]

/-- With no marker set the entry at the head is sent (R189). -/
theorem sendNotice_entry (dest : Byte) (s : State) (e : NoticeEntry) (rest : List NoticeEntry)
    (hk : s.notices.marker = none) (he : s.notices.entries = e :: rest) :
    sendNotice dest s =
      startSending .control
        (buildFrame dest s.ownId 66
          (e.report.laidOut ++ be16 e.stamp.day ++ be32 e.stamp.second ++ [if e.stamp.timeSet then 1 else 0]))
        .insertion { s with notices := { s.notices with entries := rest } } := by
  simp only [sendNotice, hk, he, State.noticeFrame, notice_payload, kindNotice]

/-- Settles O20: the stamp and the notice's bytes by their definitions, the queue by whether an entry coalesces, and the
control port's choice by what waits. -/
theorem repliesAndNoticesAreSent : Obligations.RepliesAndNoticesAreSent := by
  refine ⟨fun _ => rfl, report_bytes, fun s r hdiff => ⟨?_, fun hnone => ⟨?_, ?_⟩⟩, ?_⟩
  · intro i e hi hkind hsubject
    exact congrArg (fun q => { s with notices := q })
      (place_coalesced s.notices r s.stamp i e hdiff hi ((coalesces_iff _ _).mpr ⟨hkind, hsubject⟩))
  · exact fun hlen => congrArg (fun q => { s with notices := q }) (place_joins s.notices r s.stamp hnone hlen)
  · exact fun hlen => congrArg (fun q => { s with notices := q }) (place_overflows s.notices r s.stamp hnone hlen)
  intro s ho _ hs ht
  refine ⟨fun r rest hr => ?_, fun dest hr hup hd => ⟨fun k hk => ?_, fun e rest hk he => ?_⟩⟩
  · have hw := insertionWaits_of_reply s r rest hr
    rw [exec_endOfSending_control s ho hs ht hw, sendReplyOrNotice_reply (s.lineFree .control) r rest hr]
    rfl
  · have hw := insertionWaits_of_notice s dest hup hd (.inr (Option.isSome_iff_exists.mpr ⟨k, hk⟩))
    rw [exec_endOfSending_control s ho hs ht hw, sendReplyOrNotice_notice (s.lineFree .control) dest hr hd,
      sendNotice_overflow dest (s.lineFree .control) k hk]
    rfl
  · have hw := insertionWaits_of_notice s dest hup hd (.inl (by rw [he]; exact List.cons_ne_nil e rest))
    rw [exec_endOfSending_control s ho hs ht hw, sendReplyOrNotice_notice (s.lineFree .control) dest hr hd,
      sendNotice_entry dest (s.lineFree .control) e rest hk he]
    rfl

end Sys2Proof.Machine
end

section
namespace Sys2Proof.Machine

/-! ## Who may manage the part (R180) -/

/-- A SUPERVISOR entry stands in the node map (R180). -/
theorem anySupervisor_iff (s : State) :
    s.anySupervisor = true ↔ ∃ (i : Fin 239) (n : Fin 2), s.cfg.nodeMap[i] = .supervisor n := by
  have hrole : ∀ r : NodeRole, r ∈ s.cfg.nodeMap.toList ↔ ∃ i : Fin 239, s.cfg.nodeMap[i] = r := fun r => by
    rw [Vector.mem_toList_iff, Vector.mem_iff_getElem]
    exact ⟨fun ⟨i, hi, h⟩ => ⟨⟨i, hi⟩, h⟩, fun ⟨i, h⟩ => ⟨i.val, i.isLt, h⟩⟩
  simp only [State.anySupervisor, State.mapped, Bool.or_eq_true, decide_eq_true_iff, hrole, Fin.exists_fin_two,
    exists_or]

/-- The role of a node is that of its entry, numbered from 1 (R2). -/
theorem roleOf_eq_iff (s : State) (node : Byte) (r : NodeRole) (hr : r ≠ .none) :
    s.roleOf node = r ↔ ∃ i : Fin 239, i.val + 1 = node.toNat ∧ s.cfg.nodeMap[i] = r := by
  unfold State.roleOf
  by_cases h : 1 ≤ node.toNat ∧ node.toNat ≤ 239
  · rw [dif_pos h]
    refine ⟨fun he => ⟨⟨node.toNat - 1, by omega⟩, by simp only; omega, he⟩, ?_⟩
    rintro ⟨i, hi, rfl⟩
    simp only [← hi, Nat.add_sub_cancel]
    rfl
  · rw [dif_neg h]
    exact ⟨fun he => absurd he.symm hr, fun ⟨i, hi, _⟩ => absurd ⟨by omega, by omega⟩ h⟩

/-- A node is a SUPERVISOR by its own entry in the node map (R2, R180). -/
theorem isSupervisor_iff (s : State) (node : Byte) :
    s.isSupervisor node = true ↔
      ∃ (i : Fin 239) (n : Fin 2), i.val + 1 = node.toNat ∧ s.cfg.nodeMap[i] = .supervisor n := by
  have h0 := roleOf_eq_iff s node (.supervisor 0) (by decide)
  have h1 := roleOf_eq_iff s node (.supervisor 1) (by decide)
  simp only [State.isSupervisor, decide_eq_true_iff, h0, h1, Fin.exists_fin_two, exists_or]

/-- A source may manage the part unless it is barred (R180). -/
theorem permits_iff (s : State) (node : Byte) : s.permits node = true ↔ ¬ s.Barred node := by
  have hbarred : s.Barred node ↔ s.anySupervisor = true ∧ ¬ s.isSupervisor node = true := by
    rw [anySupervisor_iff, isSupervisor_iff]
    simp only [not_exists, not_and]
  rw [hbarred, State.permits]
  cases s.anySupervisor <;> cases s.isSupervisor node <;> decide

/-! ## The length of a request (R32, R180, R194, R195) -/

/-- The ten tables are those with entries (R183). -/
theorem tableSize_eq_zero_iff : ∀ table : Nat, tableSize table = 0 ↔ table = 0 ∨ 10 < table
  | 0 | 1 | 2 | 3 | 4 | 5 | 6 | 7 | 8 | 9 | 10 => by decide
  | n + 11 => by simp [tableSize]

/-- The entry sizes of the ten tables, listed (R195). -/
theorem entrySize_eq_entryWidths : ∀ table : Nat, entrySize (table + 1) = entryWidths.getD table 0
  | 0 | 1 | 2 | 3 | 4 | 5 | 6 | 7 | 8 | 9 => rfl
  | _ + 10 => rfl

/-- The length of a WRITE-ENTRIES agrees with its table and count (R194, R195). -/
theorem writeLength_iff (n table count : Nat) :
    (4 ≤ n ∧ (tableSize table = 0 ∨ n = 4 + count * entrySize table)) ↔
      4 ≤ n ∧ (table = 0 ∨ 10 < table ∨ n = 4 + count * entryWidths.getD (table - 1) 0) := by
  rw [tableSize_eq_zero_iff, or_assoc]
  cases table with
  | zero => simp
  | succ table => rw [entrySize_eq_entryWidths, Nat.add_sub_cancel]

/-- The lengths that the check of R180 accepts are those of R194. -/
theorem lengthAgrees_eq (source code tag : Byte) (body : List Byte) :
    lengthAgrees { source := source, payload := code :: tag :: body } = bodyAgrees code body := by
  have hcode : MgmtRequest.code { source := source, payload := code :: tag :: body } = code.toNat := rfl
  have hbody : MgmtRequest.body { source := source, payload := code :: tag :: body } = body := rfl
  simp only [lengthAgrees, bodyAgrees, hcode, hbody, List.length_cons, Nat.le_add_left, decide_true, Bool.true_and]
  generalize code.toNat = k
  match k with
  | 3 => exact decide_eq_decide.mpr (writeLength_iff _ _ _)
  | 4 => exact decide_eq_decide.mpr (by simp only [u8]; omega)
  | 0 | 1 | 2 | 5 | 6 | 7 | 8 | 9 | 10 | 11 | 12 => rfl
  | _ + 13 => rfl

/-! ## A request that fails a check of R180 -/

/-- Each request row takes the request at the head of the queue with its own work (R179). -/
theorem exec_managementRow (row : Instr) (h : row ∈ managementRows) :
    ∃ work, ∀ s, exec row s = .next (stepOf (takeRequest row work) s) := by
  simp only [managementRows, List.mem_cons, List.not_mem_nil, or_false] at h
  rcases h with rfl | rfl | rfl | rfl | rfl | rfl | rfl | rfl | rfl | rfl | rfl | rfl | rfl | rfl | rfl | rfl | rfl | rfl |
    rfl | rfl | rfl | rfl | rfl | rfl | rfl <;> exact ⟨_, fun _ => rfl⟩

/-- A step that takes the head request and refuses it under R180 replies, and does nothing else (R179, R180). -/
theorem exec_refused (row : Instr) (s : State) (source code tag : Byte) (body : List Byte) (rest : List MgmtRequest)
    (why : Status) (hrow : row ∈ managementRows) (ho : s.operating) (hd : s.dueCapacity = []) (hl : s.replyLoad < 4)
    (hq : s.requests = { source := source, payload := code :: tag :: body } :: rest)
    (ha : answers row { source := source, payload := code :: tag :: body })
    (hwhy : s.refusal { source := source, payload := code :: tag :: body } = some why) :
    exec row s = .next (transmitBoth (s.replied rest source code tag why
      (refusalBody { source := source, payload := code :: tag :: body } why s))) := by
  obtain ⟨work, hexec⟩ := exec_managementRow row hrow
  have hdone : takeRequest row work s = s.replied rest source code tag why
      (refusalBody { source := source, payload := code :: tag :: body } why s) := by
    rw [takeRequest_takes row work s _ rest hq hl ha, judge_refused work _ _ why (by rw [refusal_requests]; exact hwhy)]
    rfl
  rw [hexec, stepOf_of_settled _ s ho (by rw [hdone]; exact hd), hdone]

/-- A refusal under R180 has an empty body but where LOAD-FORECAST's length is at fault (R180, R194). -/
theorem refusalBody_eq_nil (q : MgmtRequest) (why : Status) (s : State) (h : q.code = 4 → why ≠ .badRequest) :
    refusalBody q why s = [] := by
  rw [refusalBody, if_neg]
  exact fun ⟨hc, hw⟩ => h hc hw

/-- The first check of R180 that a request fails, by the order of the rule's list. -/
theorem refusal_cases (s : State) (source code tag : Byte) (body : List Byte) (why : Status)
    (h : (s.phase = .loading ∧ why = .busy) ∨
      (s.phase = .running ∧ s.Barred source ∧ why = .notPermitted) ∨
      (s.phase = .running ∧ ¬ s.Barred source ∧ bodyAgrees code body = false ∧ why = .badRequest) ∨
      (s.phase = .running ∧ ¬ s.Barred source ∧ bodyAgrees code body = true ∧
        s.saving.isSome ∧ (code = 3 ∨ code = 7 ∨ code = 11 ∨ code = 12) ∧ why = .busy)) :
    s.refusal { source := source, payload := code :: tag :: body } = some why := by
  rw [State.refusal, lengthAgrees_eq]
  rcases h with ⟨hp, rfl⟩ | ⟨hp, hb, rfl⟩ | ⟨hp, hb, hl, rfl⟩ | ⟨hp, hb, hl, hs, hc, rfl⟩
  · rw [if_pos hp]
  · have hperm : s.permits source = false := by
      rw [← Bool.not_eq_true, permits_iff]; exact not_not_intro hb
    simp [hp, hperm]
  · simp [hp, (permits_iff s source).mpr hb, hl]
  · have hex : excludedBySave (MgmtRequest.code { source := source, payload := code :: tag :: body }) = true := by
      rcases hc with rfl | rfl | rfl | rfl <;> rfl
    simp [hp, (permits_iff s source).mpr hb, hl, hs, hex]

/-- Settles O30: the head request is taken and refused by its first failed check; who may manage the part and which
lengths agree are read off the node map and the tables of R194. -/
theorem requestChecksComeFirst : Obligations.RequestChecksComeFirst := by
  refine ⟨?_, permits_iff, lengthAgrees_eq⟩
  intro s row source code tag body rest why hrow ho hrest hl hq ha hwhy
  have hrefused := refusal_cases s source code tag body why
    (hwhy.imp_right (Or.imp_right (Or.imp_left fun ⟨hp, hb, hlen, _, hw⟩ => ⟨hp, hb, hlen, hw⟩)))
  have hbody : refusalBody { source := source, payload := code :: tag :: body } why s = [] := by
    refine refusalBody_eq_nil _ _ _ fun hcode => ?_
    have hcode' : code = 4 := BitVec.eq_of_toNat_eq hcode
    rcases hwhy with ⟨-, rfl⟩ | ⟨-, -, rfl⟩ | ⟨-, -, -, hne, -⟩ | ⟨-, -, -, -, -, rfl⟩
    · decide
    · decide
    · exact absurd hcode' hne
    · decide
  rw [exec_refused row s source code tag body rest why hrow ho hrest.1 hl hq ha hrefused, hbody]

end Sys2Proof.Machine
end

section
namespace Sys2Proof.Machine

/-! ## The records after reset (R39, R41, R65, R78, R85, R122, R138, R142) -/

/-- Every record of a table of one value is that value. -/
theorem vector_replicate_get {α : Type} (n : Nat) (x : α) (i : Fin n) : (Vector.replicate n x)[i] = x := by simp

@[simp] theorem reset_zone (z : ZoneId) : State.reset.zone z = Zone.initial ZoneEntry.default := vector_replicate_get _ _ z

@[simp] theorem reset_cannon (c : CannonId) :
    State.reset.cannon c = Cannon.initial .retired 0 { zone := none, efficiency := 0, pattern := 0 } :=
  vector_replicate_get _ _ c

@[simp] theorem reset_station (g : StationId) : State.reset.station g = Station.initial := vector_replicate_get _ _ g

@[simp] theorem reset_source (w : SourceId) : State.reset.source w = Source.initial false := vector_replicate_get _ _ w

@[simp] theorem reset_machine (m : MachineId) : State.reset.machine m = MachineRecord.initial := vector_replicate_get _ _ m

@[simp] theorem reset_machineCount (z : ZoneId) : State.reset.machineCount z = 0 := vector_replicate_get _ _ z

@[simp] theorem reset_profileOf (z : ZoneId) : State.reset.profileOf z = Profile.default := vector_replicate_get 4 _ _

@[simp] theorem reset_patternOf (c : CannonId) : State.reset.patternOf c = Pattern.default := vector_replicate_get 8 _ _

@[simp] theorem reset_stationEntry (g : StationId) : State.reset.stationEntry g = StationEntry.default :=
  vector_replicate_get _ _ g

@[simp] theorem reset_cannonEntry (c : CannonId) : State.reset.cannonEntry c = CannonEntry.default :=
  vector_replicate_get _ _ c

/-! ## The laws, one by one -/

/-- Nothing waits at either port (R158). -/
theorem reset_rested : State.reset.Rested := by
  refine ⟨rfl, fun _ p _ _ => ?_⟩
  cases p <;> exact ⟨Bool.false_ne_true, Bool.false_ne_true⟩

/-- Every queue is empty (R104, R150, R179, R188). -/
theorem reset_queuesFit : State.reset.QueuesFit := by
  refine ⟨?_, ?_, ?_, ?_, ?_, ?_⟩ <;> exact Nat.zero_le _

theorem reset_clockFits : State.reset.ClockFits := by
  refine ⟨?_, ?_, ?_, ?_, fun _ => ⟨rfl, rfl⟩⟩ <;> exact Nat.zero_le _

/-- Every zone stands at risk 0 in CALM, below every threshold (R39, R53). -/
theorem reset_bandsHeld : State.reset.BandsHeld := by
  intro z
  rw [reset_zone, reset_profileOf]
  decide

/-- Every aim stands at column 0 and row 0 (R65, R78). -/
theorem reset_aimsFit : State.reset.AimsFit := by
  intro c
  rw [reset_cannon, reset_patternOf]
  decide

theorem reset_owedHeld : State.reset.OwedHeld := by
  intro c
  rw [reset_cannon]
  decide

/-- Every machine record is ABSENT, so none is counted (R138, R142). -/
theorem reset_countsHeld : State.reset.CountsHeld := by
  have hmachines : State.reset.machines.toList = List.replicate 8 MachineRecord.initial := Vector.toList_replicate
  refine ⟨fun z => ?_, fun m hm => ?_⟩
  · rw [hmachines, reset_machineCount, List.filter_replicate_of_neg (by simp [MachineRecord.countedIn, MachineRecord.initial]),
      List.length_nil]
  · rw [reset_machine] at hm
    exact absurd hm (by decide)

/-- Every cannon is in OUT-OF-SERVICE and RETIRED, with no burst and no timer (R63, R65, R66). -/
theorem reset_cannonsAgree : State.reset.CannonsAgree := by
  intro c
  rw [reset_cannon, reset_cannonEntry]
  decide

/-- No cannon waits for a close (R85, R89). -/
theorem reset_waitingHeld : State.reset.WaitingHeld := by
  intro g
  rw [reset_station]
  exact ⟨List.nodup_nil, fun c hc => absurd hc List.not_mem_nil⟩

/-- No cannon holds a place (R85, R88). -/
theorem reset_placesHeld : State.reset.PlacesHeld := by
  intro g
  have hplaced : State.reset.placed g = [] := by
    rw [State.placed, State.cannonsWhere, List.filter_eq_nil_iff]
    intro c _
    rw [reset_cannon]
    simp [Cannon.initial, CannonState.holdsPlace]
  rw [hplaced, reset_station, reset_stationEntry]
  exact ⟨rfl, rfl, Nat.zero_le _, Nat.zero_le _⟩

/-- No command is queued, and every cannon is RETIRED (R65, R104). -/
theorem reset_commandsHeld : State.reset.CommandsHeld := by
  refine ⟨List.nodup_nil, fun q hq => absurd hq List.not_mem_nil, fun _ => ⟨rfl, fun c => ?_⟩⟩
  rw [reset_cannon]
  rfl

/-- No OPEN is queued, and no cannon is IDLE (R104, R114). -/
theorem reset_closesBetween : State.reset.ClosesBetween := by
  intro c
  refine ⟨fun h => absurd h Bool.false_ne_true, fun ⟨_, hidle, _⟩ => ?_⟩
  rw [reset_cannon] at hidle
  exact absurd hidle (by decide)

/-- No burst is granted, and nothing committed (R122, R130). -/
theorem reset_commitmentsHeld : State.reset.CommitmentsHeld := by
  intro w
  have hcannons : State.reset.cannons.toList =
      List.replicate 48 (Cannon.initial .retired 0 { zone := none, efficiency := 0, pattern := 0 }) :=
    Vector.toList_replicate
  rw [reset_source, State.plannedFrom, hcannons, List.map_replicate, List.sum_replicate]
  rfl

/-- No cannon is in flight (R65, R143). -/
theorem reset_exclusionHeld : State.reset.ExclusionHeld := by
  intro c h
  rw [reset_cannon] at h
  exact absurd h (by decide)

/-- Dispatch is OFF, and no cannon is in flight or holds a request (R65, R170). -/
theorem reset_modeHeld : State.reset.ModeHeld := by
  intro c
  rw [reset_cannon]
  exact ⟨fun _ => rfl, fun _ => ⟨rfl, rfl⟩⟩

/-- Settles O3: each law is read off the reset value of the record it is about. -/
theorem resetMeetsEveryLaw : Obligations.ResetMeetsEveryLaw :=
  ⟨reset_rested, reset_queuesFit, List.Pairwise.nil, fun _ => rfl, reset_clockFits, tables_default_ok 0, reset_bandsHeld,
    reset_aimsFit, reset_owedHeld, reset_countsHeld, reset_cannonsAgree, reset_waitingHeld, reset_placesHeld,
    reset_commandsHeld, reset_closesBetween, reset_commitmentsHeld, reset_exclusionHeld, reset_modeHeld⟩

end Sys2Proof.Machine
end

section
namespace Sys2Proof.Machine

/-! ## A request that passes the checks of R180 -/

/-- The head request is carried out where its row takes it, its length agrees and no SAVE excludes it (R179, R180). -/
theorem takeRequest_passed (row : Instr) (work : MgmtRequest → State → Answer) (s : State) (source code tag : Byte)
    (body : List Byte) (rest : List MgmtRequest) (ht : s.Takes source (code :: tag :: body) rest)
    (hr : rowOf (code :: tag :: body) = some row) (hl : bodyAgrees code body = true)
    (hs : (s.saving.isSome && excludedBySave code.toNat) = false) :
    takeRequest row work s =
      conclude { source := source, payload := code :: tag :: body }
        (work { source := source, payload := code :: tag :: body } { s with requests := rest }) := by
  obtain ⟨hphase, -, hq, hload, hperm⟩ := ht
  have ha : answers row { source := source, payload := code :: tag :: body } = true := by
    simp only [answers, hr, decide_true]
  have hnone : State.refusal { s with requests := rest } { source := source, payload := code :: tag :: body } = none :=
    refusal_none _ _ hphase hperm ((lengthAgrees_eq _ _ _ _).trans hl) hs
  rw [takeRequest_takes row work s _ rest hq hload ha, judge_passed work _ _ row hnone hr]

theorem operating_of_running (s : State) (h : s.phase = .running) : s.operating = true := by
  simp [State.operating, h]

/-! ## The bytes of a LOAD-FORECAST (R194) -/

/-- A record of LOAD-FORECAST as a body holds it (R194). -/
def ForecastRecord.bytes (r : ForecastRecord) : List Byte :=
  be16 r.mean ++ be16 r.gust ++ [byte r.sector, byte r.rain, byte r.evap]

/-- The fields of a record fit the bytes that hold them. -/
abbrev ForecastRecord.Fits (r : ForecastRecord) : Prop :=
  r.mean < 65536 ∧ r.gust < 65536 ∧ r.sector < 256 ∧ r.rain < 256 ∧ r.evap < 256

theorem forecastRecord_ok_iff (r : ForecastRecord) :
    r.ok = true ↔ r.mean ≤ 600 ∧ r.gust ≤ 600 ∧ r.sector ≤ 15 ∧ r.rain ≤ 100 ∧ r.evap ≤ 100 := by
  simp [ForecastRecord.ok]

theorem fits_of_ok (r : ForecastRecord) (h : r.ok = true) : r.Fits := by
  obtain ⟨h1, h2, h3, h4, h5⟩ := (forecastRecord_ok_iff r).mp h
  exact ⟨by omega, by omega, by omega, by omega, by omega⟩

/-- A record is seven bytes (R194). -/
theorem forecastBytes_length (rs : List ForecastRecord) : (rs.flatMap ForecastRecord.bytes).length = 7 * rs.length := by
  induction rs with
  | nil => rfl
  | cons r rs ih =>
    rw [List.flatMap_cons, List.length_append, ih, List.length_cons]
    simp only [ForecastRecord.bytes, List.length_append, be16_length, List.length_cons, List.length_nil]
    omega

/-- The records of a body read back as they were laid out (R194). -/
theorem readForecast_bytes (rs : List ForecastRecord) (h : ∀ r ∈ rs, r.Fits) :
    readForecast (rs.flatMap ForecastRecord.bytes) = rs := by
  induction rs with
  | nil => rfl
  | cons r rs ih =>
    obtain ⟨hmean, hgust, hsector, hrain, hevap⟩ := h r List.mem_cons_self
    have hread : readForecast (r.bytes ++ rs.flatMap ForecastRecord.bytes) =
        { mean := nat16 (byte (r.mean / 256)) (byte r.mean), gust := nat16 (byte (r.gust / 256)) (byte r.gust),
          sector := (byte r.sector).toNat, rain := (byte r.rain).toNat, evap := (byte r.evap).toNat } ::
          readForecast (rs.flatMap ForecastRecord.bytes) := rfl
    rw [List.flatMap_cons, hread, ih fun x hx => h x (List.mem_cons_of_mem r hx), nat16_bytes hmean, nat16_bytes hgust,
      byte_toNat hsector, byte_toNat hrain, byte_toNat hevap]

/-- The body of a LOAD-FORECAST: its start hour's four bytes, its count and its records (R194). -/
def forecastRequest (h3 h2 h1 h0 : Byte) (rs : List ForecastRecord) : List Byte :=
  h3 :: h2 :: h1 :: h0 :: byte rs.length :: rs.flatMap ForecastRecord.bytes

/-- Its length agrees for one to eight records (R32). -/
theorem bodyAgrees_forecastRequest (h3 h2 h1 h0 : Byte) (rs : List ForecastRecord) (hpos : 1 ≤ rs.length)
    (hmax : rs.length ≤ 8) : bodyAgrees 4 (forecastRequest h3 h2 h1 h0 rs) = true := by
  have hcount : (byte rs.length).toNat = rs.length := byte_toNat (by omega)
  have hlen : (forecastRequest h3 h2 h1 h0 rs).length = 5 + 7 * rs.length := by
    simp only [forecastRequest, List.length_cons, forecastBytes_length]; omega
  have hb : ((forecastRequest h3 h2 h1 h0 rs).getD 4 0).toNat = rs.length := hcount
  have hagrees : bodyAgrees 4 (forecastRequest h3 h2 h1 h0 rs) =
      decide (1 ≤ ((forecastRequest h3 h2 h1 h0 rs).getD 4 0).toNat ∧
        ((forecastRequest h3 h2 h1 h0 rs).getD 4 0).toNat ≤ 8 ∧
        (forecastRequest h3 h2 h1 h0 rs).length = 5 + 7 * ((forecastRequest h3 h2 h1 h0 rs).getD 4 0).toNat) := rfl
  rw [hagrees, hb, decide_eq_true_iff]
  exact ⟨hpos, hmax, hlen⟩

/-- The fields that every answer to LOAD-FORECAST past the load gives (R32, R33, R194). -/
theorem forecastBody_eq (n : Nat) (s : State) :
    forecastBody n s = [byte n] ++ be32 (s.epoch.getD 4294967295) ++ [if s.clock.timeSet then 1 else 0] := by
  cases h : s.clock.timeSet <;> simp [forecastBody, num1, opt4, boolCode, h, byte]

/-! ## Hours of the epoch's cycle (R27) -/

/-- The distance of an hour after the epoch is its remainder on the cycle (R27). -/
theorem hoursAfter_eq_mod (e h : Nat) (he : e < epochCycle) (hh : h < epochCycle) :
    hoursAfter e h = (h + epochCycle - e) % epochCycle := by
  unfold hoursAfter
  unfold epochCycle at *
  split <;> omega

/-- The hour of the record at place `k` of a load that begins at hour `start` (R33). -/
def recordHour (start k : Nat) : Nat := (start + k) % epochCycle

theorem recordHour_lt (start k : Nat) : recordHour start k < epochCycle := Nat.mod_lt _ (by decide)

theorem recordHour_zero (start : Nat) (h : start < epochCycle) : recordHour start 0 = start := Nat.mod_eq_of_lt h

/-- The records after the first begin an hour later. -/
theorem recordHour_succ (start k : Nat) : recordHour ((start + 1) % epochCycle) k = recordHour start (k + 1) := by
  unfold recordHour epochCycle; omega

/-- Records fewer than 48 places apart fall into different slots (R29). -/
theorem recordHour_slot_ne (start j k : Nat) (hlt : j < k) (hk : k < 48) :
    slotIndex (recordHour start j) ≠ slotIndex (recordHour start k) := by
  rw [Ne, Fin.ext_iff]
  simp only [slotIndex, recordHour, epochCycle]
  omega

/-- The record at place `k` lies 0 to 47 hours after epoch `e` (R33). -/
def recordTaken (e start k : Nat) : Bool := decide (hoursAfter e (recordHour start k) < 48)

theorem recordTaken_succ (e start k : Nat) :
    recordTaken e ((start + 1) % epochCycle) k = recordTaken e start (k + 1) := by
  rw [recordTaken, recordHour_succ]; rfl

/-! ## Loading the ring (R33) -/

/-- The state after the first record alone: its slot written where it is taken (R33). -/
def loadFirst (e start : Nat) (r : ForecastRecord) (s : State) : State :=
  if recordTaken e start 0 then s.updSlot (slotIndex start) fun _ => r.slot start else s

/-- A load is its first record and then the rest, an hour later (R33). -/
theorem loadRecords_cons (e start : Nat) (r : ForecastRecord) (rs : List ForecastRecord) (s : State)
    (h : start < epochCycle) :
    loadRecords e start (r :: rs) s =
      ((loadRecords e ((start + 1) % epochCycle) rs (loadFirst e start r s)).1,
        (loadRecords e ((start + 1) % epochCycle) rs (loadFirst e start r s)).2 +
          if recordTaken e start 0 then 1 else 0) := by
  have ht : recordTaken e start 0 = decide (hoursAfter e start < 48) := by rw [recordTaken, recordHour_zero start h]
  by_cases hc : hoursAfter e start < 48
  · simp only [loadRecords, loadFirst, ht, decide_eq_true hc, if_pos hc, if_true]
  · simp only [loadRecords, loadFirst, ht, decide_eq_false hc, if_neg hc, Bool.false_eq_true, if_false]
    rfl

/-- The first record touches its own slot alone. -/
theorem loadFirst_slotAt_ne (e start : Nat) (r : ForecastRecord) (s : State) (i : Fin 48)
    (h : recordTaken e start 0 → slotIndex start ≠ i) : (loadFirst e start r s).slotAt i = s.slotAt i := by
  unfold loadFirst
  split
  · rename_i ht
    exact State.slotAt_updSlot_ne s _ _ i (h ht).symm
  · rfl

/-- A load changes the ring alone. -/
theorem loadRecords_state (e start : Nat) (rs : List ForecastRecord) (s : State) :
    (loadRecords e start rs s).1 = { s with ring := (loadRecords e start rs s).1.ring } := by
  induction rs generalizing start s with
  | nil => rfl
  | cons r rs ih =>
    unfold loadRecords
    split
    · exact ih _ _
    · exact ih _ _

/-- A load counts the records taken (R33). -/
theorem loadRecords_count (e start : Nat) (rs : List ForecastRecord) (s : State) (h : start < epochCycle) :
    (loadRecords e start rs s).2 = ((List.range rs.length).filter (recordTaken e start)).length := by
  induction rs generalizing start s with
  | nil => rfl
  | cons r rs ih =>
    have hshift : (recordTaken e start ∘ Nat.succ) = recordTaken e ((start + 1) % epochCycle) :=
      funext fun k => (recordTaken_succ e start k).symm
    rw [loadRecords_cons e start r rs s h, ih _ _ (Nat.mod_lt _ (by decide)), List.length_cons, List.range_succ_eq_map,
      List.filter_cons, List.filter_map, hshift]
    cases recordTaken e start 0 <;> simp

/-- A slot of which no record taken holds the hour is as it was (R33). -/
theorem loadRecords_slotAt_ne (e start : Nat) (rs : List ForecastRecord) (s : State) (i : Fin 48)
    (h : start < epochCycle) (hi : ∀ k, k < rs.length → recordTaken e start k → slotIndex (recordHour start k) ≠ i) :
    (loadRecords e start rs s).1.slotAt i = s.slotAt i := by
  induction rs generalizing start s with
  | nil => rfl
  | cons r rs ih =>
    have hfirst : recordTaken e start 0 → slotIndex start ≠ i := by
      have := hi 0 (Nat.succ_pos _)
      rwa [recordHour_zero start h] at this
    rw [loadRecords_cons e start r rs s h, ih _ _ (Nat.mod_lt _ (by decide)), loadFirst_slotAt_ne _ _ _ _ _ hfirst]
    intro k hk
    rw [recordTaken_succ, recordHour_succ]
    exact hi (k + 1) (Nat.succ_lt_succ hk)

/-- A record taken stands in its hour's slot, since no other of up to 48 falls into it (R33). -/
theorem loadRecords_slotAt (e start : Nat) (rs : List ForecastRecord) (s : State) (k : Nat) (r : ForecastRecord)
    (h : start < epochCycle) (hlen : rs.length ≤ 48) (hr : rs[k]? = some r) (ht : recordTaken e start k = true) :
    (loadRecords e start rs s).1.slotAt (slotIndex (recordHour start k)) = r.slot (recordHour start k) := by
  induction rs generalizing start s k with
  | nil => cases hr
  | cons x rs ih =>
    rw [loadRecords_cons e start x rs s h]
    cases k with
    | zero =>
      obtain rfl : x = r := by simpa using hr
      rw [loadRecords_slotAt_ne _ _ _ _ _ (Nat.mod_lt _ (by decide)), loadFirst, if_pos ht, recordHour_zero start h]
      · exact State.slotAt_updSlot_self s _ _
      · intro j hj _
        rw [recordHour_succ]
        exact (recordHour_slot_ne start 0 (j + 1) (Nat.succ_pos j) (by simp only [List.length_cons] at hlen; omega)).symm
    | succ k =>
      rw [← recordHour_succ]
      refine ih _ _ k (Nat.mod_lt _ (by decide)) ?_ hr ((recordTaken_succ e start k).trans ht)
      simp only [List.length_cons] at hlen
      omega

/-! ## LOAD-FORECAST by the epoch in force (R27, R33) -/

/-- The record at place `k` is written: the time state is SET, and its hour lies within 48 hours of the epoch (R33). -/
def State.takesRecord (s : State) (start k : Nat) : Bool := s.epoch.any fun e => recordTaken e start k

/-- With the time state UNSET every record is skipped (R33). -/
theorem loadForecast_unset (start : Nat) (rs : List ForecastRecord) (s : State) (h : s.epoch = none) :
    loadForecast start rs s = (s, 0) := by
  simp only [loadForecast, h]

/-- While it is SET the records are judged against the epoch (R33). -/
theorem loadForecast_set (start e : Nat) (rs : List ForecastRecord) (s : State) (h : s.epoch = some e) :
    loadForecast start rs s = loadRecords e start rs s := by
  simp only [loadForecast, h]

theorem takesRecord_unset (s : State) (start : Nat) (h : s.epoch = none) : s.takesRecord start = fun _ => false := by
  funext k; simp only [State.takesRecord, h, Option.any_none]

theorem takesRecord_set (s : State) (start e : Nat) (h : s.epoch = some e) :
    s.takesRecord start = recordTaken e start := by
  funext k; simp only [State.takesRecord, h, Option.any_some]

theorem loadForecast_state (start : Nat) (rs : List ForecastRecord) (s : State) :
    (loadForecast start rs s).1 = { s with ring := (loadForecast start rs s).1.ring } := by
  unfold loadForecast
  split
  · exact loadRecords_state _ _ _ _
  · rfl

theorem loadForecast_count (start : Nat) (rs : List ForecastRecord) (s : State) (h : start < epochCycle) :
    (loadForecast start rs s).2 = ((List.range rs.length).filter (s.takesRecord start)).length := by
  cases he : s.epoch with
  | none => rw [loadForecast_unset start rs s he, takesRecord_unset s start he, List.filter_false]; rfl
  | some e => rw [loadForecast_set start e rs s he, takesRecord_set s start e he, loadRecords_count e start rs s h]

theorem loadForecast_slotAt (start : Nat) (rs : List ForecastRecord) (s : State) (k : Nat) (r : ForecastRecord)
    (h : start < epochCycle) (hlen : rs.length ≤ 48) (hr : rs[k]? = some r) (ht : s.takesRecord start k = true) :
    (loadForecast start rs s).1.slotAt (slotIndex (recordHour start k)) = r.slot (recordHour start k) := by
  cases he : s.epoch with
  | none => rw [takesRecord_unset s start he] at ht; cases ht
  | some e =>
    rw [takesRecord_set s start e he] at ht
    rw [loadForecast_set start e rs s he, loadRecords_slotAt e start rs s k r h hlen hr ht]

theorem loadForecast_slotAt_ne (start : Nat) (rs : List ForecastRecord) (s : State) (i : Fin 48) (h : start < epochCycle)
    (hi : ∀ k, k < rs.length → s.takesRecord start k → slotIndex (recordHour start k) ≠ i) :
    (loadForecast start rs s).1.slotAt i = s.slotAt i := by
  cases he : s.epoch with
  | none => rw [loadForecast_unset start rs s he]
  | some e =>
    rw [takesRecord_set s start e he] at hi
    rw [loadForecast_set start e rs s he, loadRecords_slotAt_ne e start rs s i h hi]

/-- The epoch of a clock in range lies on the cycle (R23, R27). -/
theorem epoch_lt (s : State) (h : s.ClockFits) (e : Nat) (he : s.epoch = some e) : e < epochCycle := by
  obtain ⟨hday, hsecond, -⟩ := h
  unfold State.epoch at he
  split at he
  · obtain rfl := Option.some.inj he
    unfold epochCycle
    omega
  · cases he

/-- The test of R33 on a record, with the clock in range. -/
theorem takesRecord_eq (s : State) (h : s.ClockFits) (start k : Nat) :
    s.takesRecord start k =
      s.epoch.any fun e => decide ((recordHour start k + epochCycle - e) % epochCycle < 48) := by
  unfold State.takesRecord
  cases he : s.epoch with
  | none => rw [Option.any_none, Option.any_none]
  | some e =>
    rw [Option.any_some, Option.any_some, recordTaken, hoursAfter_eq_mod e _ (epoch_lt s h e he) (recordHour_lt start k)]

/-! ## The request carried out -/

/-- A LOAD-FORECAST of one to eight records whose fields fit their bytes is carried out with those records (R32, R33). -/
theorem takeRequest_loadForecast (s : State) (source tag h3 h2 h1 h0 : Byte) (rs : List ForecastRecord)
    (rest : List MgmtRequest) (hpos : 1 ≤ rs.length) (hmax : rs.length ≤ 8)
    (ht : s.Takes source (4 :: tag :: forecastRequest h3 h2 h1 h0 rs) rest) :
    takeRequest .loadForecast loadForecastAnswer s =
      conclude { source := source, payload := 4 :: tag :: forecastRequest h3 h2 h1 h0 rs }
        (loadForecastAnswer { source := source, payload := 4 :: tag :: forecastRequest h3 h2 h1 h0 rs }
          { s with requests := rest }) := by
  have hrow : rowOf (4 :: tag :: forecastRequest h3 h2 h1 h0 rs) = some .loadForecast := rfl
  have hsave : excludedBySave (4 : Byte).toNat = false := by decide
  exact takeRequest_passed .loadForecast loadForecastAnswer s source 4 tag _ rest ht hrow
    (bodyAgrees_forecastRequest h3 h2 h1 h0 rs hpos hmax) (by rw [hsave, Bool.and_false])

/-- The answer by the start hour and the records that the body holds (R32, R33). -/
theorem loadForecastAnswer_eq (source tag h3 h2 h1 h0 : Byte) (rs : List ForecastRecord) (hfits : ∀ r ∈ rs, r.Fits)
    (s : State) :
    loadForecastAnswer { source := source, payload := 4 :: tag :: forecastRequest h3 h2 h1 h0 rs } s =
      if epochCycle ≤ nat32 h3 h2 h1 h0 ∨ !rs.all ForecastRecord.ok then answered (s, .badValue, forecastBody 0 s)
      else
        answered ((loadForecast (nat32 h3 h2 h1 h0) rs s).1,
          if (loadForecast (nat32 h3 h2 h1 h0) rs s).2 = rs.length then .done else .partialDone,
          forecastBody (loadForecast (nat32 h3 h2 h1 h0) rs s).2 s) := by
  have hrecords : readForecast ((forecastRequest h3 h2 h1 h0 rs).drop 5) = rs := readForecast_bytes rs hfits
  have hbody : MgmtRequest.body { source := source, payload := 4 :: tag :: forecastRequest h3 h2 h1 h0 rs } =
      forecastRequest h3 h2 h1 h0 rs := rfl
  have hstart : u32 (forecastRequest h3 h2 h1 h0 rs) 0 = nat32 h3 h2 h1 h0 := rfl
  simp only [loadForecastAnswer, hbody, hrecords, hstart]

/-- Records in range are loaded, and the reply gives the count written (R33). -/
theorem exec_loadForecast_taken (s : State) (source tag h3 h2 h1 h0 : Byte) (rs : List ForecastRecord)
    (rest : List MgmtRequest) (ring : Vector ForecastSlot 48) (n : Nat) (hpos : 1 ≤ rs.length) (hmax : rs.length ≤ 8)
    (ht : s.Takes source (4 :: tag :: forecastRequest h3 h2 h1 h0 rs) rest)
    (hstart : nat32 h3 h2 h1 h0 < epochCycle) (hok : ∀ r ∈ rs, r.ok = true)
    (hload : loadForecast (nat32 h3 h2 h1 h0) rs { s with requests := rest } =
      ({ s with requests := rest, ring := ring }, n)) :
    exec .loadForecast s = .next (transmitBoth
      { s.replied rest source 4 tag (if n = rs.length then .done else .partialDone) (forecastBody n s) with
        ring := ring }) := by
  have hif : ¬ (epochCycle ≤ nat32 h3 h2 h1 h0 ∨ (!rs.all ForecastRecord.ok) = true) := by
    simpa using ⟨hstart, hok⟩
  have hdone : takeRequest .loadForecast loadForecastAnswer s =
      { s.replied rest source 4 tag (if n = rs.length then .done else .partialDone) (forecastBody n s) with
        ring := ring } := by
    rw [takeRequest_loadForecast s source tag h3 h2 h1 h0 rs rest hpos hmax ht,
      loadForecastAnswer_eq source tag h3 h2 h1 h0 rs (fun r hr => fits_of_ok r (hok r hr)), if_neg hif, hload]
    rfl
  have hstep : exec .loadForecast s = .next (stepOf (takeRequest .loadForecast loadForecastAnswer) s) := rfl
  rw [hstep, stepOf_of_settled _ s (operating_of_running s ht.1) (by rw [hdone]; exact ht.2.1.1), hdone]

/-- A start hour or a field out of range is refused (R32). -/
theorem exec_loadForecast_badValue (s : State) (source tag h3 h2 h1 h0 : Byte) (rs : List ForecastRecord)
    (rest : List MgmtRequest) (hpos : 1 ≤ rs.length) (hmax : rs.length ≤ 8) (hfits : ∀ r ∈ rs, r.Fits)
    (ht : s.Takes source (4 :: tag :: forecastRequest h3 h2 h1 h0 rs) rest)
    (hbad : epochCycle ≤ nat32 h3 h2 h1 h0 ∨ ∃ r ∈ rs, r.ok = false) :
    exec .loadForecast s = .next (transmitBoth (s.replied rest source 4 tag .badValue (forecastBody 0 s))) := by
  have hif : epochCycle ≤ nat32 h3 h2 h1 h0 ∨ (!rs.all ForecastRecord.ok) = true := by
    simpa using hbad
  have hdone : takeRequest .loadForecast loadForecastAnswer s = s.replied rest source 4 tag .badValue (forecastBody 0 s) := by
    rw [takeRequest_loadForecast s source tag h3 h2 h1 h0 rs rest hpos hmax ht,
      loadForecastAnswer_eq source tag h3 h2 h1 h0 rs hfits, if_pos hif]
    rfl
  have hstep : exec .loadForecast s = .next (stepOf (takeRequest .loadForecast loadForecastAnswer) s) := rfl
  rw [hstep, stepOf_of_settled _ s (operating_of_running s ht.1) (by rw [hdone]; exact ht.2.1.1), hdone]

/-- A length that does not agree is refused with LOAD-FORECAST's fields (R32, R180; log entry 18). -/
theorem exec_loadForecast_badRequest (s : State) (source tag : Byte) (body : List Byte) (rest : List MgmtRequest)
    (ht : s.Takes source (4 :: tag :: body) rest) (hbad : bodyAgrees 4 body = false) :
    exec .loadForecast s = .next (transmitBoth (s.replied rest source 4 tag .badRequest (forecastBody 0 s))) := by
  obtain ⟨hphase, ⟨hdue, -⟩, hq, hload, hperm⟩ := ht
  have hrow : rowOf (4 :: tag :: body) = some .loadForecast := rfl
  have ha : answers .loadForecast { source := source, payload := 4 :: tag :: body } = true := by
    simp only [answers, hrow, decide_true]
  have hrefused := refusal_cases s source 4 tag body .badRequest
    (.inr (.inr (.inl ⟨hphase, (permits_iff s source).mp hperm, hbad, rfl⟩)))
  exact exec_refused .loadForecast s source 4 tag body rest .badRequest (by decide) (operating_of_running s hphase) hdue
    hload hq ha hrefused

/-- Lengths that do not agree with a record count of 1 to 8 (R32). -/
theorem bodyAgrees_loadForecast_eq_false (body : List Byte)
    (h : body.length < 5 ∨ body.getD 4 0 = 0 ∨ 8 < (body.getD 4 0).toNat ∨
      body.length ≠ 5 + 7 * (body.getD 4 0).toNat) : bodyAgrees 4 body = false := by
  have hagrees : bodyAgrees 4 body = decide (1 ≤ (body.getD 4 0).toNat ∧ (body.getD 4 0).toNat ≤ 8 ∧
      body.length = 5 + 7 * (body.getD 4 0).toNat) := rfl
  rw [hagrees, decide_eq_false_iff_not]
  rintro ⟨hpos, hmax, hlen⟩
  rcases h with h | h | h | h
  · omega
  · rw [h] at hpos
    exact absurd hpos (by decide)
  · omega
  · exact h hlen

/-- Settles O39: the body reads back as its records, each record taken is written to its own slot, and the refusals are
those of the range check and of R180's length check. -/
theorem loadForecastWritesRing : Obligations.LoadForecastWritesRing := by
  constructor
  · intro s source tag rest start rs hstart hpos hmax hok ht hour taken n hclock
    have hnat : nat32 (byte (start / 16777216)) (byte (start / 65536)) (byte (start / 256)) (byte start) = start :=
      nat32_bytes (by omega)
    have htaken : State.takesRecord { s with requests := rest } start = taken :=
      funext fun k => takesRecord_eq s hclock start k
    have hload : loadForecast start rs { s with requests := rest } =
        ({ s with requests := rest, ring := (loadForecast start rs { s with requests := rest }).1.ring }, n) :=
      Prod.ext (loadForecast_state start rs _) ((loadForecast_count start rs _ hstart).trans (by rw [htaken]))
    have hexec := exec_loadForecast_taken s source tag _ _ _ _ rs rest _ n hpos hmax ht (by rw [hnat]; exact hstart) hok
      (by rw [hnat]; exact hload)
    rw [forecastBody_eq] at hexec
    refine ⟨_, hexec, rfl, ?_, ?_⟩
    · intro k r i hr hk hi
      have hslot := loadForecast_slotAt start rs { s with requests := rest } k r hstart (by omega) hr (by rw [htaken]; exact hk)
      rwa [show slotIndex (recordHour start k) = i from Fin.ext hi.symm] at hslot
    · intro i hi
      refine loadForecast_slotAt_ne start rs { s with requests := rest } i hstart fun k hk htk => ?_
      rw [htaken] at htk
      exact fun he => hi k hk htk (congrArg Fin.val he)
  · intro s source tag rest fails
    refine ⟨fun h3 h2 h1 h0 rs hpos hmax hfits ht hbad => ?_, fun body ht hbad => ?_⟩
    · have hbad' : epochCycle ≤ nat32 h3 h2 h1 h0 ∨ ∃ r ∈ rs, r.ok = false := by
        refine hbad.imp_right fun ⟨r, hr, hrange⟩ => ⟨r, hr, ?_⟩
        rw [← Bool.not_eq_true, forecastRecord_ok_iff]
        omega
      have hexec := exec_loadForecast_badValue s source tag h3 h2 h1 h0 rs rest hpos hmax hfits ht hbad'
      rwa [forecastBody_eq] at hexec
    · have hexec := exec_loadForecast_badRequest s source tag body rest ht (bodyAgrees_loadForecast_eq_false body hbad)
      rwa [forecastBody_eq] at hexec

end Sys2Proof.Machine
end

section
namespace Sys2Proof.Machine

/-! ## The slots of the epoch and the lead (R27, R30, R31) -/

/-- The slot of an hour so many hours after the epoch, while SET (R27). -/
theorem slotAhead_of_set (s : State) (n : Nat) (h : s.clock.timeSet = true) :
    s.slotAhead n = s.slotOf ((s.clock.day * 24 + s.clock.second / 3600 + n) % epochCycle) := by
  simp only [State.slotAhead, h, true_and]
  rfl

/-- While UNSET there is no such slot (R30, R31). -/
theorem slotAhead_of_unset (s : State) (n : Nat) (h : s.clock.timeSet = false) : s.slotAhead n = none := by
  simp [State.slotAhead, h]

/-- The lead slot is the slot of the hour that the lead setting gives (R31). -/
theorem leadSlot_eq (s : State) : s.leadSlot = s.slotAhead s.settings.lead := by
  cases h : s.clock.timeSet
  · rw [slotAhead_of_unset s _ h]; simp [State.leadSlot, State.epoch, h]
  · rw [slotAhead_of_set s _ h]; simp [State.leadSlot, State.epoch, h]

/-- With the clock in range the current slot is that of the epoch's own hour (R23, R30). -/
theorem currentSlot_eq (s : State) (hc : s.ClockFits) : s.currentSlot = s.slotAhead 0 := by
  obtain ⟨hday, hsecond, -⟩ := hc
  cases h : s.clock.timeSet
  · rw [slotAhead_of_unset s _ h]; simp [State.currentSlot, State.epoch, h]
  · have hhour : (s.clock.day * 24 + s.clock.second / 3600 + 0) % epochCycle = s.clock.day * 24 + s.clock.second / 3600 :=
      Nat.mod_eq_of_lt (by unfold epochCycle; omega)
    rw [slotAhead_of_set s _ h, hhour]
    simp [State.currentSlot, State.epoch, h]

/-! ## The wind of an evaluation (R45, R46) -/

theorem mast_wind_fresh (m : Mast) (h : m.fresh = true) :
    m.wind = some { mean := m.acc / 16, gust := m.gust, sector := m.sector, forecast := false } := by
  simp [Mast.wind, h]

theorem mast_wind_stale (m : Mast) (h : m.fresh = false) : m.wind = none := by
  simp [Mast.wind, h]

/-- A fallback mast that is not FRESH, or none, gives no wind (R45). -/
theorem fallback_wind_none (s : State) (f : Option MastId) (h : ∀ m, f = some m → (s.mast m).fresh = false) :
    (f.bind fun m => (s.mast m).wind) = none := by
  cases f with
  | none => rfl
  | some m => exact mast_wind_stale _ (h m rfl)

/-- The evaluation takes the first wind of the three (R45). -/
theorem windOf_of_windIs (s : State) (z : ZoneId) (mean gust : Nat) (sector : Sector) (forecast : Bool)
    (hc : s.ClockFits) (h : s.WindIs z mean gust sector forecast) :
    s.windOf (s.zoneEntry z) = some { mean := mean, gust := gust, sector := sector, forecast := forecast } := by
  unfold State.windOf
  rcases h with ⟨hfresh, rfl, rfl, rfl, rfl⟩ | ⟨hstale, f, hf, hfresh, rfl, rfl, rfl, rfl⟩ |
    ⟨hstale, hfall, i, hi, rfl, rfl, rfl, rfl⟩
  · rw [mast_wind_fresh _ hfresh, Option.some_or, Option.some_or]
  · rw [mast_wind_stale _ hstale, hf, Option.bind_some, mast_wind_fresh _ hfresh, Option.none_or, Option.some_or]
  · rw [mast_wind_stale _ hstale, fallback_wind_none s _ hfall, State.forecastWind, currentSlot_eq s hc, hi]
    rfl

/-- With none of the three there is no wind (R46). -/
theorem windOf_of_noWind (s : State) (z : ZoneId) (hc : s.ClockFits) (h : s.NoWind z) :
    s.windOf (s.zoneEntry z) = none := by
  obtain ⟨hstale, hfall, hslot⟩ := h
  rw [State.windOf, mast_wind_stale _ hstale, fallback_wind_none s _ hfall, State.forecastWind, currentSlot_eq s hc, hslot]
  rfl

/-! ## The band of a risk (R52) -/

/-- The band reached is the highest whose threshold the risk reaches (R52). -/
theorem reached_spec (p : Profile) (r : Nat) :
    p.threshold (p.reached r) ≤ r ∧ ∀ c : Band, (p.reached r).rank < c.rank → r < p.threshold c := by
  unfold Profile.reached
  split
  · rename_i h
    exact ⟨h, fun c => by cases c <;> simp [Band.rank]⟩
  split
  · rename_i hs h
    exact ⟨h, fun c => by cases c <;> simp [Band.rank, Profile.threshold]; omega⟩
  split
  · rename_i hs ha h
    exact ⟨h, fun c => by cases c <;> simp [Band.rank, Profile.threshold] <;> omega⟩
  · rename_i hs ha hw
    exact ⟨Nat.zero_le r, fun c => by cases c <;> simp [Band.rank, Profile.threshold] <;> omega⟩

/-- The band dropped to is the highest below that the risk holds within the hysteresis (R52). -/
theorem dropped_spec (p : Profile) (r : Nat) (b : Band) (hb : b ≠ .calm) :
    (p.dropped r b).rank < b.rank ∧ p.threshold (p.dropped r b) ≤ r + p.hysteresis ∧
      ∀ c : Band, (p.dropped r b).rank < c.rank → c.rank < b.rank → r + p.hysteresis < p.threshold c := by
  cases b with
  | calm => exact absurd rfl hb
  | watch => exact ⟨Nat.zero_lt_one, Nat.zero_le _, fun c => by cases c <;> simp [Profile.dropped, Band.rank]⟩
  | act =>
    simp only [Profile.dropped, Profile.holdsBand, decide_eq_true_iff]
    split
    · rename_i h
      exact ⟨by decide, h, fun c => by cases c <;> simp [Band.rank]⟩
    · rename_i h
      exact ⟨by decide, Nat.zero_le _, fun c => by cases c <;> simp [Band.rank, Nat.not_le.mp h]⟩
  | severe =>
    simp only [Profile.dropped, Profile.holdsBand, decide_eq_true_iff]
    split
    · rename_i h
      exact ⟨by decide, h, fun c => by cases c <;> simp [Band.rank]⟩
    rename_i ha
    split
    · rename_i h
      exact ⟨by decide, h, fun c => by cases c <;> simp [Band.rank, Nat.not_le.mp ha]⟩
    · rename_i h
      exact ⟨by decide, Nat.zero_le _, fun c => by cases c <;> simp [Band.rank, Nat.not_le.mp h, Nat.not_le.mp ha]⟩

/-- The band that banding decides on is the one R52 gives: up, hold or down. -/
theorem decideBand_bandAfter (p : Profile) (r : Nat) (b : Band) : p.BandAfter r b (p.decideBand r b) := by
  obtain ⟨hreach, habove⟩ := reached_spec p r
  unfold Profile.decideBand
  split
  · rename_i hup
    exact .inl ⟨hup, hreach, habove⟩
  rename_i hup
  have hlow : ∀ c : Band, b.rank < c.rank → r < p.threshold c := fun c hc => habove c (by omega)
  split
  · rename_i hhold
    exact .inr (.inl ⟨hlow, of_decide_eq_true hhold, rfl⟩)
  · rename_i hhold
    have hdown : r + p.hysteresis < p.threshold b := Nat.not_le.mp fun h => hhold (decide_eq_true h)
    have hb : b ≠ .calm := by rintro rfl; exact absurd hdown (Nat.not_lt_zero _)
    exact .inr (.inr ⟨hlow, hdown, dropped_spec p r b hb⟩)

/-! ## Notices raised together (R188) -/

/-- Notices raised in a list are placed one after the other with the stamp of the moment (R28, R188). -/
theorem raiseList_eq (rs : List Report) (s : State) :
    rs.foldl (fun s r => raise r s) s =
      { s with notices := rs.foldl (fun q r => q.place r s.stamp) s.notices } := by
  induction rs generalizing s with
  | nil => rfl
  | cons r rs ih => rw [List.foldl_cons, ih]; rfl

/-- Notices raised together are placed in some order, and nothing but choices changes besides (R188; log entry 9). -/
theorem raiseAll_eq (rs : List Report) (s : State) :
    ∃ (l : List Report) (cs : List Nat) (k : Nat), l.Perm rs ∧
      raiseAll rs s =
        { s with notices := l.foldl (fun q r => q.place r s.stamp) s.notices, choices := cs, choiceCount := k } := by
  obtain ⟨cs, k, hs⟩ := shuffle_state rs s
  refine ⟨(shuffle rs s).1, cs, k, shuffle_perm rs s, ?_⟩
  rw [raiseAll, raiseList_eq, hs]
  rfl

/-! ## Re-banding one zone (R52, R54, R173) -/

/-- A zone that keeps its band is left as it is. -/
theorem rebandAll_kept (z : ZoneId) (s : State) (h : s.nextBand z = (s.zone z).band) : rebandAll [z] s = s := by
  simp [rebandAll, h]

/-- A change of band that does not wake dispatch raises BAND-CHANGE (R52, R54). -/
theorem rebandAll_changed (z : ZoneId) (s : State) (h : s.nextBand z ≠ (s.zone z).band)
    (hw : s.wakes z (s.nextBand z) = false) :
    rebandAll [z] s =
      raise (.bandChange z (s.nextBand z) (s.zone z).risk) (s.updZone z fun x => { x with band := s.nextBand z }) := by
  simp [rebandAll, h, hw]

/-- A change of band that wakes dispatch raises WAKE and DISPATCH-MODE with it (R54, R173). -/
theorem rebandAll_wakes (z : ZoneId) (s : State) (h : s.nextBand z ≠ (s.zone z).band)
    (hw : s.wakes z (s.nextBand z) = true) :
    rebandAll [z] s =
      raiseAll [.bandChange z (s.nextBand z) (s.zone z).risk, .wake z (s.nextBand z), .dispatchMode .run .watch .wake]
        (changeMode .run .wake (s.updZone z fun x => { x with band := s.nextBand z })) := by
  simp [rebandAll, h, hw]

/-! ## Posting (R55, R56) -/

/-- A cannon after an AUTO posting of zone `z`, where it may take one (R56). -/
def State.afterPosting (s : State) (p : Nat) (z : ZoneId) (c : CannonId) (k : Cannon) : Cannon :=
  if (s.cannonEntry c).mode = .automatic ∧ k.target.zone = some z ∧ k.holdTimer = none then k.posted p z else k

/-- A cannon updated to itself leaves the state. -/
theorem updCannon_id (s : State) (c : CannonId) (f : Cannon → Cannon) (h : f (s.cannon c) = s.cannon c) :
    s.updCannon c f = s := by
  rw [State.updCannon, updAt_id s.cannons c f h]

/-- A posting changes the requests of the cannons that may take it, and nothing else (R56). -/
theorem post_eq (p : Nat) (z : ZoneId) (s : State) :
    post p z s = { s with cannons := Vector.ofFn fun c => s.afterPosting p z c (s.cannon c) } := by
  have hone : ∀ (t : State) (c : CannonId), t.cfg = s.cfg →
      (if (t.cannonEntry c).mode = .automatic ∧ (t.cannon c).target.zone = some z ∧ (t.cannon c).holdTimer = none then
        t.updCannon c fun k => k.posted p z else t) = t.updCannon c (s.afterPosting p z c) := by
    intro t c ht
    have hentry : t.cannonEntry c = s.cannonEntry c := congrArg (fun g : Tables => g.cannons[c]) ht
    rw [hentry]
    split
    · rename_i h
      exact congrArg (fun k => { t with cannons := t.cannons.set c.val k c.isLt }) (if_pos h).symm
    · rename_i h
      exact (updCannon_id t c _ (if_neg h)).symm
  have hall : ∀ (l : List CannonId) (t : State), t.cfg = s.cfg →
      l.foldl (fun t c => if (t.cannonEntry c).mode = .automatic ∧ (t.cannon c).target.zone = some z ∧
        (t.cannon c).holdTimer = none then t.updCannon c fun k => k.posted p z else t) t =
      l.foldl (fun t c => t.updCannon c (s.afterPosting p z c)) t := by
    intro l
    induction l with
    | nil => exact fun _ _ => rfl
    | cons c l ih => intro t ht; rw [List.foldl_cons, List.foldl_cons, hone t c ht,
      ih (t.updCannon c (s.afterPosting p z c)) ht]
  exact (hall _ s rfl).trans (eachCannon_updCannon (s.afterPosting p z) s)

end Sys2Proof.Machine
end

section
namespace Sys2Proof.Machine

/-! ## Rain deferral and work in a zone (R35, R146) -/

/-- Rain deferral by the lead slot (R31, R35). -/
theorem rainDeferral_iff (s : State) :
    s.rainDeferral = true ↔
      ∃ i ∈ s.slotAhead s.settings.lead,
        s.settings.rainThreshold ≠ 0 ∧ s.settings.rainThreshold ≤ (s.slotAt i).rain := by
  rw [← leadSlot_eq, State.rainDeferral]
  cases s.leadSlot <;> simp

/-- A machine works in the zone (R146). -/
theorem working_iff (s : State) (z : ZoneId) :
    s.working z = true ↔
      ∃ i, (s.machine i).presence ≠ .absent ∧ (s.machine i).zone = some z ∧
        ((s.machine i).activity = .stacking ∨ (s.machine i).activity = .reclaiming) := by
  simp only [State.working, List.any_eq_true, Vector.mem_toList_iff, Vector.mem_iff_getElem, MachineRecord.countedIn,
    Bool.and_eq_true, decide_eq_true_iff, and_assoc]
  exact ⟨fun ⟨_, ⟨i, hi, rfl⟩, h⟩ => ⟨⟨i, hi⟩, h⟩, fun ⟨i, h⟩ => ⟨_, ⟨i.val, i.isLt, rfl⟩, h⟩⟩

/-! ## The stages of an evaluation (R42 to R46) -/

/-- The evaporation of the period just run: the rate is the current slot's, or the default (R30, R44). -/
theorem evapRate_eq (s : State) (hc : s.ClockFits) :
    s.evapRate = (s.slotAhead 0).elim s.settings.defaultEvap fun i => (s.slotAt i).evap := by
  rw [State.evapRate, currentSlot_eq s hc]

/-- The state in which zone `z` holds the record `x` and the notices are `q`. -/
def State.withZone (s : State) (z : ZoneId) (x : Zone) (q : NoticeQueue) : State :=
  { s with zones := updAt s.zones z fun _ => x, notices := q }

@[simp] theorem zone_withZone (s : State) (z : ZoneId) (x : Zone) (q : NoticeQueue) : (s.withZone z x q).zone z = x :=
  updAt_get_self _ _ _

theorem zone_withZone_ne (s : State) (z y : ZoneId) (x : Zone) (q : NoticeQueue) (h : y ≠ z) :
    (s.withZone z x q).zone y = s.zone y := updAt_get_ne _ _ _ _ h

/-- A change of the zone is a change of the record it holds. -/
theorem updZone_withZone (s : State) (z : ZoneId) (x : Zone) (q : NoticeQueue) (f : Zone → Zone) :
    (s.withZone z x q).updZone z f = s.withZone z (f x) q :=
  congrArg (fun v => { s with zones := v, notices := q }) (updAt_updAt s.zones z (fun _ => x) f)

theorem updZone_eq_withZone (s : State) (z : ZoneId) (f : Zone → Zone) :
    s.updZone z f = s.withZone z (f (s.zone z)) s.notices := rfl

/-- The zone's record after its timer has restarted and its estimate has dried (R42, R44). -/
def State.driedRecord (s : State) (z : ZoneId) (period : Nat) : Zone :=
  { (s.zone z).evaporate s.evapRate period with
    timer := some { remaining := s.settings.evalPeriod, period := s.settings.evalPeriod } }

/-- The notices after the zone has been seen: ZONE-BLIND where it was BLIND (R46). -/
def State.seenNotices (s : State) (z : ZoneId) : NoticeQueue :=
  if (s.zone z).blind then s.notices.place (.zoneBlind z false) s.stamp else s.notices

/-- An evaluation dries the zone, and then goes by the wind (R42 to R46). -/
theorem evaluationExpiry_eq (s : State) (z : ZoneId) (et : EvalTimer) (ht : (s.zone z).timer = some et)
    (hw : s.mode = .watch → (s.zoneEntry z).watch = true) :
    evaluationExpiry z s =
      match s.windOf (s.zoneEntry z) with
      | none => blindOutcome z (s.withZone z (s.driedRecord z et.period) s.notices)
      | some w =>
        postOrWithdraw z
          (rebandAll [z] (storeRisk z w (s.withZone z (s.driedRecord z et.period) (s.seenNotices z)))) := by
  have hskip : ¬ (s.mode = .watch ∧ ¬ (s.zoneEntry z).watch = true) := fun ⟨hm, hf⟩ => hf (hw hm)
  have hdried : ((s.updZone z fun x =>
      { x with timer := some { remaining := s.settings.evalPeriod, period := s.settings.evalPeriod } }).updZone z
        fun x => x.evaporate s.evapRate et.period) = s.withZone z (s.driedRecord z et.period) s.notices := by
    rw [updZone_eq_withZone s, updZone_withZone]; rfl
  have hseen : (if ((s.withZone z (s.driedRecord z et.period) s.notices).zone z).blind then
      raise (.zoneBlind z false) (s.withZone z (s.driedRecord z et.period) s.notices)
      else s.withZone z (s.driedRecord z et.period) s.notices) =
        s.withZone z (s.driedRecord z et.period) (s.seenNotices z) := by
    have hblind : ((s.withZone z (s.driedRecord z et.period) s.notices).zone z).blind = (s.zone z).blind := by
      rw [zone_withZone]; rfl
    rw [hblind, State.seenNotices]
    split <;> rfl
  rw [← hseen, ← hdried]
  simp only [evaluationExpiry, ht, if_neg hskip]
  rfl

/-- A BLIND evaluation, written out (R46). -/
theorem blindOutcome_withZone (s : State) (z : ZoneId) (x : Zone) (q : NoticeQueue) :
    blindOutcome z (s.withZone z x q) =
      s.withZone z { x with blind := true, forecastOnly := false }
        (if x.blind then q else q.place (.zoneBlind z true) s.stamp) := by
  unfold blindOutcome
  rw [zone_withZone, updZone_withZone]
  split <;> rfl

/-! ## What re-banding one zone leaves (R52, R54, R173) -/

/-- What a re-banding of zone `z` from state `s` leaves of the mode and the notices (R54, R173, R188). -/
structure State.Rebanded (s t : State) (z : ZoneId) : Prop where
  waking : s.nextBand z ≠ (s.zone z).band → s.wakes z (s.nextBand z) = true →
    t.mode = .run ∧ t.lastChange = some { previous := s.mode, cause := .wake } ∧
      ∃ l : List Report,
        l.Perm [.bandChange z (s.nextBand z) (s.zone z).risk, .wake z (s.nextBand z), .dispatchMode .run .watch .wake] ∧
        t.notices = l.foldl (fun k r => k.place r s.stamp) s.notices
  quiet : (s.nextBand z = (s.zone z).band ∨ s.wakes z (s.nextBand z) = false) →
    t.mode = s.mode ∧ t.lastChange = s.lastChange ∧
      t.notices = if s.nextBand z = (s.zone z).band then s.notices
        else s.notices.place (.bandChange z (s.nextBand z) (s.zone z).risk) s.stamp
  state : ∃ mode lastChange notices choices choiceCount, t = { s with
    zones := updAt s.zones z fun x => { x with band := s.nextBand z }
    mode := mode, lastChange := lastChange, notices := notices, choices := choices, choiceCount := choiceCount }

theorem rebandAll_rebanded (z : ZoneId) (s : State) : s.Rebanded (rebandAll [z] s) z := by
  by_cases hb : s.nextBand z = (s.zone z).band
  · have hzones : updAt s.zones z (fun x => { x with band := s.nextBand z }) = s.zones :=
      updAt_id _ _ _ (by rw [hb]; rfl)
    rw [rebandAll_kept z s hb]
    exact ⟨fun h => absurd hb h, fun _ => ⟨rfl, rfl, (if_pos hb).symm⟩,
      s.mode, s.lastChange, s.notices, s.choices, s.choiceCount, by rw [hzones]⟩
  cases hw : s.wakes z (s.nextBand z)
  · rw [rebandAll_changed z s hb hw]
    exact ⟨fun _ h => absurd (hw.symm.trans h) Bool.false_ne_true, fun _ => ⟨rfl, rfl, (if_neg hb).symm⟩,
      _, _, _, _, _, rfl⟩
  · rw [rebandAll_wakes z s hb hw]
    obtain ⟨l, cs, k, hperm, hraised⟩ := raiseAll_eq
      [.bandChange z (s.nextBand z) (s.zone z).risk, .wake z (s.nextBand z), .dispatchMode .run .watch .wake]
      (changeMode .run .wake (s.updZone z fun x => { x with band := s.nextBand z }))
    rw [hraised]
    exact ⟨fun _ _ => ⟨rfl, rfl, l, hperm, rfl⟩,
      fun h => h.elim (fun e => absurd e hb) fun e => absurd (hw.symm.trans e) (by decide), _, _, _, _, _, rfl⟩

/-! ## Posting or withdrawal (R55 to R58) -/

/-- A cannon after the zone's posting or withdrawal by its priority (R56, R57). -/
def State.afterPriority (s : State) (z : ZoneId) (c : CannonId) : Option Nat → Cannon
  | some p => s.afterPosting p z c (s.cannon c)
  | none => if (s.cannon c).request.any (·.ownedBy z) then { s.cannon c with request := none, owed := 0 } else s.cannon c

/-- In OFF neither is done; else each cannon goes by the zone's priority, and nothing else changes (R56 to R58). -/
theorem postOrWithdraw_eq (z : ZoneId) (s : State) :
    postOrWithdraw z s =
      { s with
        cannons := Vector.ofFn fun c =>
          if s.mode = .off then s.cannon c
          else s.afterPriority z c (priorityOf (s.zone z).band (s.zone z).uplift s.rainDeferral) } := by
  unfold postOrWithdraw
  by_cases hm : s.mode = .off
  · simp only [if_pos hm]
    have hcannons : (Vector.ofFn fun c : CannonId => s.cannon c) = s.cannons := vector_ext_fin fun i => by simp [State.cannon]
    rw [hcannons]
  · simp only [if_neg hm]
    cases priorityOf (s.zone z).band (s.zone z).uplift s.rainDeferral with
    | none => exact withdraw_eq z s
    | some p => exact post_eq p z s

end Sys2Proof.Machine
end

section
namespace Sys2Proof.Machine

/-! ## An evaluation with a wind (R45, R47 to R58) -/

/-- The zone's record before its banding: dried, with the risk, the flags and the wind's sector (R44, R45, R47 to R51). -/
def State.riskRecord (s : State) (z : ZoneId) (w : Wind) (x : Zone) : Zone :=
  { x with
    blind := false, forecastOnly := w.forecast, sectorUsed := w.sector
    uplift := decide (effectiveWind w.mean w.gust < s.planningWind (effectiveWind w.mean w.gust))
    risk := s.riskOf z (s.planningWind (effectiveWind w.mean w.gust)) w.sector
      (if (s.probe z).fresh then (s.probe z).value else x.mest) }

/-- Storing the risk changes the zone's record alone (R45 to R51). -/
theorem storeRisk_withZone (s : State) (z : ZoneId) (w : Wind) (x : Zone) (q : NoticeQueue) :
    storeRisk z w (s.withZone z x q) = s.withZone z (s.riskRecord z w x) q := by
  have hmoisture : (s.withZone z x q).moistureOf z = if (s.probe z).fresh then (s.probe z).value else x.mest := by
    rw [State.moistureOf, zone_withZone]; rfl
  unfold storeRisk
  rw [updZone_withZone, hmoisture]
  rfl

/-- The records other than cannons, zones and notices after an evaluation, and the zones other than its own. -/
structure State.EvaluationFrame (s u : State) (z : ZoneId) : Prop where
  records : s.SameRecords u
  zones : ∀ y, y ≠ z → u.zone y = s.zone y
  stations : u.stations = s.stations
  sources : u.sources = s.sources
  commands : u.commands = s.commands
  requests : u.requests = s.requests
  replies : u.replies = s.replies
  controlPort : u.controlPort = s.controlPort
  fieldPort : u.fieldPort = s.fieldPort
  dueCapacity : u.dueCapacity = s.dueCapacity

/-- Banding the zone's record and posting its priority keep the frame (R52 to R58). -/
theorem evaluationFrame (s : State) (z : ZoneId) (x : Zone) (q : NoticeQueue) :
    s.EvaluationFrame (postOrWithdraw z (rebandAll [z] (s.withZone z x q))) z := by
  obtain ⟨mode, lastChange, notices, choices, choiceCount, hb⟩ := (rebandAll_rebanded z (s.withZone z x q)).state
  rw [postOrWithdraw_eq, hb]
  refine ⟨by constructor <;> rfl, fun y hy => ?_, rfl, rfl, rfl, rfl, rfl, rfl, rfl, rfl⟩
  exact (updAt_get_ne _ z y _ hy).trans (zone_withZone_ne s z y x q hy)

/-- The band that an evaluation gives a zone whose record is `x` (R52). -/
def State.bandOf (s : State) (z : ZoneId) (x : Zone) : Band := (s.profileOf z).decideBand x.risk x.band

theorem nextBand_withZone (s : State) (z : ZoneId) (x : Zone) (q : NoticeQueue) :
    (s.withZone z x q).nextBand z = s.bandOf z x := by
  rw [State.nextBand, zone_withZone]; rfl

theorem zone_rebandAll (s : State) (z : ZoneId) (x : Zone) (q : NoticeQueue) :
    (rebandAll [z] (s.withZone z x q)).zone z = { x with band := s.bandOf z x } := by
  obtain ⟨mode, lastChange, notices, choices, choiceCount, hb⟩ := (rebandAll_rebanded z (s.withZone z x q)).state
  have hget := updAt_get_self (s.withZone z x q).zones z fun y => { y with band := s.bandOf z x }
  have hz : (s.withZone z x q).zones[z] = x := zone_withZone s z x q
  rw [hz] at hget
  rw [hb, nextBand_withZone]
  exact hget

/-- Posting and withdrawal change no zone (R56, R57). -/
theorem postOrWithdraw_zone (z y : ZoneId) (s : State) : (postOrWithdraw z s).zone y = s.zone y := by
  have hzones : (postOrWithdraw z s).zones = s.zones := by rw [postOrWithdraw_eq]
  exact congrArg (fun v : Vector Zone 32 => v[y]) hzones

/-- The zone's band follows its record (R52). -/
theorem zone_evaluated (s : State) (z : ZoneId) (x : Zone) (q : NoticeQueue) :
    (postOrWithdraw z (rebandAll [z] (s.withZone z x q))).zone z = { x with band := s.bandOf z x } := by
  rw [postOrWithdraw_zone, zone_rebandAll]

/-- The mode that posting goes by is OFF where it was OFF before, since a wake is taken from WATCH alone (R58, R173). -/
theorem mode_rebandAll_eq_off (s : State) (z : ZoneId) (x : Zone) (q : NoticeQueue) :
    (rebandAll [z] (s.withZone z x q)).mode = .off ↔ s.mode = .off := by
  obtain ⟨hwaking, hquiet, -⟩ := rebandAll_rebanded z (s.withZone z x q)
  generalize rebandAll [z] (s.withZone z x q) = t at hwaking hquiet ⊢
  generalize (s.withZone z x q).nextBand z = b at hwaking hquiet
  by_cases hkept : b = ((s.withZone z x q).zone z).band
  · rw [(hquiet (.inl hkept)).1]; exact Iff.rfl
  cases hw : (s.withZone z x q).wakes z b with
  | false => rw [(hquiet (.inr hw)).1]; exact Iff.rfl
  | true =>
    have hwatch : s.mode = .watch := by
      simp only [State.wakes, Bool.and_eq_true, decide_eq_true_iff] at hw
      exact hw.2
    rw [(hwaking hkept hw).1, hwatch]
    decide

/-- Each cannon goes by the priority of the zone's new band, and in OFF stays as it is (R55 to R58). -/
theorem cannon_evaluated (s : State) (z : ZoneId) (x : Zone) (q : NoticeQueue) (c : CannonId) :
    (postOrWithdraw z (rebandAll [z] (s.withZone z x q))).cannon c =
      if s.mode = .off then s.cannon c
      else s.afterPriority z c (priorityOf (s.bandOf z x) x.uplift s.rainDeferral) := by
  have hz := zone_rebandAll s z x q
  have hm := mode_rebandAll_eq_off s z x q
  obtain ⟨mode, lastChange, notices, choices, choiceCount, hb⟩ := (rebandAll_rebanded z (s.withZone z x q)).state
  rw [postOrWithdraw_eq, hz]
  generalize rebandAll [z] (s.withZone z x q) = t at hm hb
  have hget : (Vector.ofFn fun c => if t.mode = .off then t.cannon c
      else t.afterPriority z c (priorityOf (s.bandOf z x) x.uplift t.rainDeferral))[c] =
        if t.mode = .off then t.cannon c
        else t.afterPriority z c (priorityOf (s.bandOf z x) x.uplift t.rainDeferral) := by simp
  refine hget.trans ?_
  simp only [hm]
  rw [hb]
  rfl

/-- The wake and the notices, where the zone's band changes or stays (R52, R54, R173). -/
theorem notices_evaluated (s : State) (z : ZoneId) (x : Zone) (q : NoticeQueue)
    (hflag : s.mode = .watch → (s.zoneEntry z).watch = true) :
    let u := postOrWithdraw z (rebandAll [z] (s.withZone z x q))
    let wakes := s.mode = .watch ∧ s.bandOf z x ≠ x.band ∧ (s.bandOf z x = .act ∨ s.bandOf z x = .severe)
    (wakes → u.mode = .run ∧ u.lastChange = some { previous := .watch, cause := .wake } ∧
      ∃ l : List Report, l.Perm [.bandChange z (s.bandOf z x) x.risk, .wake z (s.bandOf z x), .dispatchMode .run .watch .wake] ∧
        u.notices = l.foldl (fun k r => k.place r s.stamp) q) ∧
    (¬ wakes → u.mode = s.mode ∧ u.lastChange = s.lastChange ∧
      u.notices = if s.bandOf z x = x.band then q else q.place (.bandChange z (s.bandOf z x) x.risk) s.stamp) := by
  intro u wakes
  have h := rebandAll_rebanded z (s.withZone z x q)
  have hwakes : (s.withZone z x q).wakes z (s.bandOf z x) = true ↔
      s.mode = .watch ∧ (s.bandOf z x = .act ∨ s.bandOf z x = .severe) := by
    simp only [State.wakes, Bool.and_eq_true, decide_eq_true_iff]
    exact ⟨fun ⟨⟨hb, _⟩, hm⟩ => ⟨hm, hb⟩, fun ⟨hm, hb⟩ => ⟨⟨hb, hflag hm⟩, hm⟩⟩
  have hu : ∀ t : State, (postOrWithdraw z t).mode = t.mode ∧ (postOrWithdraw z t).lastChange = t.lastChange ∧
      (postOrWithdraw z t).notices = t.notices := fun t => by
    rw [postOrWithdraw_eq]
    exact ⟨rfl, rfl, rfl⟩
  obtain ⟨hwaking, hquiet, -⟩ := h
  rw [nextBand_withZone, zone_withZone] at hwaking hquiet
  obtain ⟨hmode, hlast, hnotices⟩ := hu (rebandAll [z] (s.withZone z x q))
  rw [hmode, hlast, hnotices]
  refine ⟨fun ⟨hm, hne, hb⟩ => ?_, fun hnot => ?_⟩
  · obtain ⟨h1, h2, h3⟩ := hwaking hne (hwakes.mpr ⟨hm, hb⟩)
    exact ⟨h1, h2.trans (congrArg (fun m => some (ModeChange.mk m .wake)) hm), h3⟩
  · refine hquiet ?_
    by_cases hb : s.bandOf z x = x.band
    · exact .inl hb
    · refine .inr (Bool.eq_false_iff.mpr fun hw => ?_)
      obtain ⟨hm, hband⟩ := hwakes.mp hw
      exact hnot ⟨hm, hb, hband⟩

end Sys2Proof.Machine
end

section
namespace Sys2Proof.Machine

/-! ## The figures of an evaluation, written out (R44, R47, R55) -/

/-- What drying leaves of the zone's record, with its rate of evaporation (R44). -/
theorem driedRecord_eq (s : State) (z : ZoneId) (period rate : Nat) (h : s.evapRate = rate) :
    s.driedRecord z period =
      { s.zone z with
        mest := (s.zone z).mest - (rate * period + (s.zone z).remainder) / 3600
        remainder := (rate * period + (s.zone z).remainder) % 3600
        timer := some { remaining := s.settings.evalPeriod, period := s.settings.evalPeriod } } := by
  rw [State.driedRecord, h]; rfl

/-- The planning wind by the lead slot (R31, R47). -/
theorem planningWind_eq (s : State) (we : Nat) :
    s.planningWind we =
      (s.slotAhead s.settings.lead).elim we fun i =>
        max we ((we + (3 * (s.slotAt i).mean + (s.slotAt i).gust + 2) / 4) / 2) := by
  rw [State.planningWind, leadSlot_eq]
  cases s.slotAhead s.settings.lead <;> rfl

/-- The risk by the machines that work in the zone (R48 to R51, R146). -/
theorem riskOf_eq (s : State) (z : ZoneId) (wp : Nat) (sector : Sector) (m : Nat) (working : Prop) [Decidable working]
    (h : s.working z = true ↔ working) :
    s.riskOf z wp sector m =
      min 1000 (weighted (s.zoneEntry z) sector
        (surface (erosion wp (s.zoneEntry z).threshold) m (s.zoneEntry z).mref + s.dustBonus (s.zoneEntry z)) +
        if working then 100 else 0) :=
  congrArg (fun n => min 1000 (weighted (s.zoneEntry z) sector
    (surface (erosion wp (s.zoneEntry z).threshold) m (s.zoneEntry z).mref + s.dustBonus (s.zoneEntry z)) + n))
    (if_congr h rfl rfl)

/-- The priority of a band, with its uplift and the rain deferral as conditions (R35, R55). -/
theorem priorityOf_eq (b : Band) (uplift : Prop) [Decidable uplift] (deferral : Prop) [Decidable deferral] (d : Bool)
    (h : d = true ↔ deferral) :
    priorityOf b (decide uplift) d =
      match b with
      | .severe => some 3
      | .act => if deferral then none else some 2
      | .watch => if uplift ∧ ¬ deferral then some 1 else none
      | .calm => none := by
  cases b with
  | severe | calm => rfl
  | act => exact if_congr h rfl rfl
  | watch => exact if_congr (by simp [← h]) rfl rfl

/-- A cannon after an evaluation: in OFF as it was, else by the priority and its request (R56 to R58). -/
theorem cannon_afterPriority (s : State) (z : ZoneId) (c : CannonId) (m : DispatchMode) (priority : Option Nat) :
    (if m = .off then s.cannon c else s.afterPriority z c priority) =
      match m, priority, (s.cannon c).request with
      | .off, _, _ => s.cannon c
      | _, some p, none =>
        if (s.cannonEntry c).mode = .automatic ∧ (s.cannon c).target.zone = some z ∧ (s.cannon c).holdTimer = none then
          { s.cannon c with request := some (.auto p z), owed := 0 }
        else s.cannon c
      | _, some p, some (.auto _ _) =>
        if (s.cannonEntry c).mode = .automatic ∧ (s.cannon c).target.zone = some z ∧ (s.cannon c).holdTimer = none then
          { s.cannon c with request := some (.auto p z) }
        else s.cannon c
      | _, none, some (.auto _ y) => if y = z then { s.cannon c with request := none, owed := 0 } else s.cannon c
      | _, _, _ => s.cannon c := by
  cases m with
  | off => exact if_pos rfl
  | run | watch | halt =>
    rw [if_neg (by decide)]
    cases priority with
    | none =>
      cases hr : (s.cannon c).request with
      | none => simp only [State.afterPriority, hr, Option.any_none, Bool.false_eq_true, if_false]
      | some r => cases r <;> simp [State.afterPriority, hr, CannonRequest.ownedBy]
    | some p =>
      cases hr : (s.cannon c).request with
      | none => simp only [State.afterPriority, State.afterPosting, Cannon.posted, hr]
      | some r => cases r <;> simp [State.afterPriority, State.afterPosting, Cannon.posted, hr]

/-- With no capacity event due an evaluation is its own effect and the end of the step. -/
theorem exec_evaluation (s : State) (z : ZoneId) (ho : s.operating) (hd : (evaluationExpiry z s).dueCapacity = []) :
    exec (.evaluationTimerExpiry z) s = .next (transmitBoth (evaluationExpiry z s)) := by
  have hstep : exec (.evaluationTimerExpiry z) s = .next (stepOf (evaluationExpiry z) s) := rfl
  rw [hstep, stepOf_of_settled _ s ho hd]

/-- Settles O25: the evaluation by its wind, and for one with a wind the risk's record, its banding and the posting. -/
theorem evaluationStoresRiskAndBand : Obligations.EvaluationStoresRiskAndBand := by
  intro s z et ho hrest hclock ht hflag e x restarted lead rate n dried
  have hrate : s.evapRate = rate := (evapRate_eq s hclock).trans (by
    change _ = match s.slotAhead 0 with | some i => (s.slotAt i).evap | none => s.settings.defaultEvap
    cases s.slotAhead 0 <;> rfl)
  have hdried := driedRecord_eq s z et.period rate hrate
  have hexpiry := evaluationExpiry_eq s z et ht hflag
  constructor
  · intro hno
    rw [windOf_of_noWind s z hclock hno, hdried] at hexpiry
    have heq := hexpiry.trans (blindOutcome_withZone s z _ _)
    rw [exec_evaluation s z ho (by rw [heq]; exact hrest.1), heq]
    rfl
  · intro mean gust sector forecast hwind moisture we wp q sf r2 rw' working risk deferral
    rw [windOf_of_windIs s z mean gust sector forecast hclock hwind, hdried] at hexpiry
    have hwp : s.planningWind we = wp := (planningWind_eq s we).trans (by
      change _ = match s.slotAhead s.settings.lead with
        | some i => max we ((we + (3 * (s.slotAt i).mean + (s.slotAt i).gust + 2) / 4) / 2)
        | none => we
      cases s.slotAhead s.settings.lead <;> rfl)
    have hrisk : s.riskOf z wp sector moisture = risk := riskOf_eq s z wp sector moisture working (working_iff s z)
    have hrecord := storeRisk_withZone s z { mean := mean, gust := gust, sector := sector, forecast := forecast }
      { x with mest := dried, remainder := n % 3600, timer := some restarted } (s.seenNotices z)
    have hfigures : s.riskRecord z { mean := mean, gust := gust, sector := sector, forecast := forecast }
        { x with mest := dried, remainder := n % 3600, timer := some restarted } =
          { risk := risk, band := x.band, mest := dried, remainder := n % 3600, blind := false, forecastOnly := forecast
            uplift := decide (we < wp), sectorUsed := sector, timer := some restarted } := by
      rw [← hrisk, ← hwp]; rfl
    rw [hfigures] at hrecord
    have heq := hexpiry.trans (congrArg (fun t => postOrWithdraw z (rebandAll [z] t)) hrecord)
    generalize hX : ({ risk := risk, band := x.band, mest := dried, remainder := n % 3600, blind := false
                       forecastOnly := forecast, uplift := decide (we < wp), sectorUsed := sector
                       timer := some restarted } : Zone) = X at heq
    have hframe := evaluationFrame s z X (s.seenNotices z)
    have hnotices := notices_evaluated s z X (s.seenNotices z) hflag
    refine ⟨_, s.bandOf z X, ?_, ?_, ?_, hframe.zones, ?_, ?_, hframe.records, hframe.stations, hframe.sources, hframe.commands,
      hframe.requests, hframe.replies, hframe.controlPort, hframe.fieldPort⟩
    · rw [exec_evaluation s z ho (by rw [heq]; exact hframe.dueCapacity.trans hrest.1), heq]
    · subst hX; exact decideBand_bandAfter _ _ _
    · rw [zone_evaluated]; subst hX; rfl
    · subst hX; exact hnotices
    · intro priority c
      have hpriority : priorityOf (s.bandOf z X) X.uplift s.rainDeferral = priority := by
        subst hX; exact priorityOf_eq _ (we < wp) deferral s.rainDeferral (rainDeferral_iff s)
      rw [cannon_evaluated, hpriority]
      exact cannon_afterPriority s z c s.mode priority

end Sys2Proof.Machine
end

section
namespace Sys2Proof.Machine

/-! ## What leaves the clock (R23 to R25): everything but a second, a TIME frame and a reset -/

theorem clock_ite {p : Prop} [Decidable p] {s a b : State} (ha : a.clock = s.clock) (hb : b.clock = s.clock) :
    (if p then a else b).clock = s.clock := by
  split
  · exact ha
  · exact hb

theorem clock_raise (r : Report) (s : State) : (raise r s).clock = s.clock := rfl

theorem clock_raiseAll (rs : List Report) (s : State) : (raiseAll rs s).clock = s.clock := by
  obtain ⟨q, cs, k, h⟩ := raiseAll_state rs s
  rw [h]

theorem clock_shuffle {α : Type} (l : List α) (s : State) : (shuffle l s).2.clock = s.clock := (frame_shuffle l s).clock

/-- A fold of operations that each leave the clock leaves it. -/
theorem clock_foldl {α : Type} (f : State → α → State) (hf : ∀ s a, (f s a).clock = s.clock) (l : List α) (s : State) :
    (l.foldl f s).clock = s.clock := by
  induction l generalizing s with
  | nil => rfl
  | cons a l ih => rw [List.foldl_cons, ih, hf]

/-! ## Bursts and stations -/

theorem clock_complete (c : CannonId) (litres : Nat) (s : State) : (complete c litres s).clock = s.clock := by
  unfold complete
  split
  · rfl
  · dsimp only; split <;> rfl

theorem clock_leaveBurst (next : CannonState) (c : CannonId) (litres : Nat) (s : State) :
    (leaveBurst next c litres s).clock = s.clock :=
  (frame_capacityDue _ _).clock.trans <| (frame_confirmingClose c _).clock.trans <| (frame_endClosing c _).clock.trans <|
    (frame_leavePlace c _).clock.trans <| clock_complete c litres s

theorem clock_chargeBypass (c : CannonId) (litres : Nat) (s : State) : (chargeBypass c litres s).clock = s.clock := by
  unfold chargeBypass
  split <;> rfl

theorem clock_statusOpen (c : CannonId) (s : State) : (statusOpen c s).clock = s.clock := by
  cases hstate : (s.cannon c).state <;> simp only [statusOpen, hstate]
  case opening => exact (frame_removeOpen c s).clock
  case idle | fault => exact (frame_closeWithoutBurst c _).clock
  case unknown => exact (frame_closeWithoutBurst c s).clock
  case bypassClosed => rfl

theorem clock_statusClosed (c : CannonId) (litres : Nat) (s : State) : (statusClosed c litres s).clock = s.clock := by
  cases hstate : (s.cannon c).state <;> simp only [statusClosed, hstate]
  case spraying | closing | stuck => exact clock_leaveBurst _ c litres _
  case unknown => exact (frame_confirmingClose c _).clock
  case idle | fault => exact (frame_stopWaiting c s).clock
  case bypassOpen => exact clock_chargeBypass c litres s

theorem clock_statusFault (c : CannonId) (litres : Nat) (s : State) : (statusFault c litres s).clock = s.clock := by
  cases hstate : (s.cannon c).state <;> simp only [statusFault, hstate]
  case opening =>
    rw [clock_raise]
    exact clock_ite (frame_dropUnsent .fault c s).clock (frame_startClosing true c s).clock
  case spraying => exact (frame_startClosing true c s).clock
  case closing | stuck => rw [clock_leaveBurst]; exact clock_ite rfl rfl
  case unknown | idle => rfl

theorem clock_valveStatus (c : CannonId) (v : ValveReport) (litres : Nat) (s : State) :
    (valveStatus c v litres s).clock = s.clock := by
  cases v with
  | opened => exact clock_statusOpen c s
  | closed => exact clock_statusClosed c litres s
  | fault => exact clock_statusFault c litres s

theorem clock_pumpStatus (g : StationId) (p : PumpState) (pressure : Nat) (s : State) :
    (pumpStatus g p pressure s).clock = s.clock := by
  have hshut : ∀ t : State, (if p = .stopped ∨ p = .tripped then closeAnyOrder (t.flyingAt g) t else t).clock = t.clock := by
    intro t
    split
    · exact (frame_closeAnyOrder _ t).clock
    · rfl
  unfold pumpStatus
  dsimp only
  split <;> exact hshut _

theorem clock_pumpExpiry (g : StationId) (s : State) : (pumpExpiry g s).clock = s.clock := by
  unfold pumpExpiry
  dsimp only
  split <;> exact (frame_closeAnyOrder _ _).clock

theorem clock_ackExpiry (c : CannonId) (s : State) : (ackExpiry c s).clock = s.clock := by
  unfold ackExpiry
  dsimp only
  split
  case h_1 => exact (frame_startClosing true c _).clock
  case h_2 => exact (frame_becomeStuck c _).clock
  case h_3 => exact (frame_queueClose c _).clock
  all_goals rfl

/-! ## Sendings (R158) -/

theorem clock_updPort (p : Port) (f : PortState → PortState) (s : State) : (s.updPort p f).clock = s.clock := by
  cases p <;> rfl

theorem clock_startSending (p : Port) (f : Frame) (t : Turn) (s : State) : (startSending p f t s).clock = s.clock :=
  clock_updPort p _ s

theorem clock_sendForward (p : Port) (s : State) : (sendForward p s).clock = s.clock := by
  unfold sendForward
  split
  · rfl
  · rw [clock_startSending, clock_updPort]

theorem clock_commandSent (q : Command) (s : State) : (commandSent q s).clock = s.clock := by
  unfold commandSent
  split <;> rfl

theorem clock_sendCommand (s : State) : (sendCommand s).clock = s.clock := by
  unfold sendCommand
  split
  · exact clock_sendForward .field _
  · split
    · rw [clock_startSending, clock_commandSent]
    · exact clock_sendForward .field _

theorem clock_sendReplyOrNotice (s : State) : (sendReplyOrNotice s).clock = s.clock := by
  unfold sendReplyOrNotice
  split
  · exact clock_startSending _ _ _ _
  · unfold sendNotice
    split
    · exact clock_startSending _ _ _ _
    · exact clock_startSending _ _ _ _
    · rfl
  · rfl

theorem clock_sendFrom (p : Port) (t : Turn) (s : State) : (sendFrom p t s).clock = s.clock := by
  cases t with
  | forward => exact clock_sendForward p s
  | insertion =>
    cases p with
    | field => exact clock_sendCommand s
    | control => exact clock_sendReplyOrNotice s

theorem clock_decideNext (p : Port) (s : State) : (decideNext p s).clock = s.clock := by
  unfold decideNext
  split
  · exact clock_sendFrom p _ s
  · exact clock_sendFrom p _ s
  · exact clock_sendFrom p _ s
  · rfl

theorem clock_transmit (p : Port) (s : State) : (transmit p s).clock = s.clock := by
  unfold transmit decideIdle
  split
  · split
    · exact clock_sendFrom p _ s.choose
    · exact clock_sendFrom p _ s
    · exact clock_sendFrom p _ s
    · rfl
  · rfl

theorem clock_transmitBoth (s : State) : (transmitBoth s).clock = s.clock :=
  (clock_transmit .control _).trans (clock_transmit .field s)

theorem clock_endSending (p : Port) (s : State) : (endSending p s).clock = s.clock :=
  (clock_decideNext p _).trans (clock_updPort p _ s)

/-- A step that operates ends with the clock its own effect left. -/
theorem clock_stepOf (f : State → State) (s : State) (h : s.operating = true) : (stepOf f s).clock = (f s).clock := by
  unfold stepOf
  rw [if_pos h, clock_transmitBoth, (frame_settle _).clock]

/-! ## Cannon modes, requests and the field link -/

theorem clock_closeUnknown (c : CannonId) (s : State) : (closeUnknown c s).clock = s.clock := by
  unfold closeUnknown
  split
  · exact (frame_closeWithoutBurst c s).clock
  · rfl

theorem clock_takeMode (was m : CannonMode) (c : CannonId) (s : State) : (takeMode was m c s).clock = s.clock := by
  unfold takeMode
  dsimp only
  split
  · exact (frame_stopWaiting c _).clock.trans (frame_dropRequest c _).clock
  · rw [clock_closeUnknown, (frame_confirmingClose c _).clock]; rfl
  · rfl

theorem clock_setMode (c : CannonId) (m : CannonMode) (s : State) : (setMode c m s).1.clock = s.clock := by
  unfold setMode
  dsimp only
  split
  · rfl
  split
  · rfl
  · exact clock_takeMode _ m c _

theorem clock_closeConverted (c : CannonId) (b : Burst) (cls : BurstClass) (s : State) :
    (closeConverted c b cls s).clock = s.clock := by
  unfold closeConverted
  split
  · exact (frame_earlyClose c s).clock
  · rfl

theorem clock_convert (c : CannonId) (q : StationCommand) (b : Burst) (s : State) : (convert c q b s).clock = s.clock :=
  clock_closeConverted c b _ _

theorem clock_manualClose (c : CannonId) (s : State) : (manualClose c s).clock = s.clock := by
  unfold manualClose
  dsimp only
  split
  case h_1 => exact (frame_earlyClose c _).clock
  case h_2 => exact (frame_earlyClose c _).clock
  case h_3 => exact (frame_closeWithoutBurst c _).clock
  all_goals rfl

theorem clock_clearFaultOf (c : CannonId) (s : State) : (clearFaultOf c s).1.clock = s.clock := by
  unfold clearFaultOf
  split
  case h_1 => exact (frame_confirmingClose c _).clock
  all_goals rfl

theorem clock_loseCannon (c : CannonId) (s : State) : (loseCannon c s).clock = s.clock := by
  unfold loseCannon
  split
  · refine ((frame_endClosing c _).clock.trans (frame_leavePlace c _).clock).trans ?_
    cases (s.cannon c).burst <;> rfl
  · rfl

theorem clock_eachCannon (f : CannonId → State → State) (hf : ∀ c s, (f c s).clock = s.clock) (s : State) :
    (eachCannon f s).clock = s.clock := clock_foldl (fun t c => f c t) (fun t c => hf c t) (List.finRange 48) s

theorem clock_fieldDown (s : State) : (fieldDown s).clock = s.clock := by
  have hlost : (eachCannon loseCannon s).clock = s.clock := clock_eachCannon loseCannon clock_loseCannon s
  unfold fieldDown
  dsimp only
  rw [clock_raise, hlost]

/-- A cannon's close at the field link's return (R176). -/
theorem clock_returningClose (t : State) (c : CannonId) :
    (if t.closeWaiting c then t else closeWithoutBurst c t).clock = t.clock := by
  split
  · rfl
  · exact (frame_closeWithoutBurst c t).clock

theorem clock_fieldUp (s : State) : (fieldUp s).clock = s.clock := by
  have hclosed := clock_foldl (fun t c => if t.closeWaiting c then t else closeWithoutBurst c t) clock_returningClose
    (confirmAnyOrder s).returning (confirmAnyOrder s)
  unfold fieldUp
  dsimp only
  rw [(frame_settle _).clock, clock_raise, hclosed, (frame_confirmAnyOrder s).clock]

/-! ## Evaluations -/

theorem clock_rebandAll (zs : List ZoneId) (s : State) : (rebandAll zs s).clock = s.clock := by
  have hbanded : ∀ (l : List ZoneId) (t : State), (l.foldl (fun t z => t.updZone z fun x =>
      { x with band := s.nextBand z }) t).clock = t.clock := fun l t =>
    clock_foldl (fun t z => t.updZone z fun x => { x with band := s.nextBand z }) (fun _ _ => rfl) l t
  unfold rebandAll
  dsimp only
  split
  · rw [clock_raiseAll, hbanded, clock_shuffle]
  · rw [clock_raiseAll]
    exact (hbanded _ _).trans (clock_shuffle _ _)

theorem clock_postOrWithdraw (z : ZoneId) (s : State) : (postOrWithdraw z s).clock = s.clock := by
  rw [postOrWithdraw_eq]

theorem clock_evaluate (z : ZoneId) (t : Nat) (s : State) : (evaluate z t s).clock = s.clock := by
  unfold evaluate
  dsimp only
  split
  · unfold blindOutcome
    dsimp only
    split <;> rfl
  · rw [clock_postOrWithdraw, clock_rebandAll]
    show (if _ then _ else _ : State).clock = s.clock
    split <;> rfl

theorem clock_evaluationExpiry (z : ZoneId) (s : State) : (evaluationExpiry z s).clock = s.clock := by
  unfold evaluationExpiry
  split
  · rfl
  · dsimp only
    split
    · rfl
    · rw [clock_evaluate]; rfl

/-! ## Sampled records -/

theorem clock_deriveQuality (w : SourceId) (s : State) : (deriveQuality w s).clock = s.clock := by
  unfold deriveQuality
  dsimp only
  split <;> rfl

theorem clock_directionSample (m : MastId) (d : Nat) (s : State) : (directionSample m d s).clock = s.clock := by
  unfold directionSample
  dsimp only
  split
  · rfl
  · exact (frame_deriveAgain _ _).clock

theorem clock_levelEvent (w : SourceId) (v : Nat) (s : State) : (levelEvent w v s).clock = s.clock := by
  unfold levelEvent
  dsimp only
  split
  · split <;> exact (frame_closeAnyOrder _ _).clock
  · rfl

theorem clock_applyRecord (role : NodeRole) (r : SampleRecord) (s : State) : (applyRecord role r s).clock = s.clock := by
  unfold applyRecord
  split
  case h_1 => exact (frame_deriveAgain _ _).clock
  case h_2 =>
    split
    · exact clock_directionSample _ _ s
    · rfl
  case h_5 => exact clock_levelEvent _ _ s
  case h_6 => exact clock_deriveQuality _ _
  case h_7 => exact clock_deriveQuality _ _
  all_goals rfl

theorem clock_applyRecords (role : NodeRole) (rs : List SampleRecord) (s : State) :
    (applyRecords role rs s).clock = s.clock := by
  refine clock_foldl _ (fun t r => ?_) rs s
  split
  · exact (frame_settle _).clock.trans (clock_applyRecord role r t)
  · rfl

/-! ## The ring and the machine table -/

theorem clock_loadForecast (start : Nat) (rs : List ForecastRecord) (s : State) :
    (loadForecast start rs s).1.clock = s.clock := by
  rw [loadForecast_state]

theorem clock_exclusionAfter (was : Bool) (z : ZoneId) (s : State) : (exclusionAfter was z s).clock = s.clock := by
  unfold exclusionAfter
  split
  · exact (frame_closeEach _ s).clock
  · rfl

theorem clock_uncount (m : MachineId) (s : State) : (uncount m s).clock = s.clock := by
  unfold uncount
  split <;> rfl

theorem clock_machineFrame (m : MachineId) (kind : MachineKind) (activity : Activity) (zone : Option ZoneId) (s : State) :
    (machineFrame m kind activity zone s).clock = s.clock := by
  cases zone with
  | none => exact clock_uncount m s
  | some z => exact (clock_exclusionAfter _ z _).trans (clock_uncount m s)

theorem clock_clearMachineOf (m : MachineId) (s : State) : (clearMachineOf m s).clock = s.clock := by
  unfold clearMachineOf
  split
  · rfl
  · exact clock_uncount m s

end Sys2Proof.Machine
end

section
namespace Sys2Proof.Machine

/-! ## Frames that leave the clock: all but a TIME frame (R25) -/

theorem clock_frameError (p : Port) (k : FlagKind) (s : State) : (frameError p k s).clock = s.clock := by
  unfold frameError
  split
  · rfl
  · dsimp only
    split
    · exact clock_updPort p _ s
    · rw [clock_raise, clock_updPort]

theorem clock_linkAlive (p : Port) (s : State) : (linkAlive p s).clock = s.clock := by
  unfold linkAlive
  dsimp only
  split
  · rw [clock_fieldUp, clock_updPort]
  · rfl
  · rfl

theorem clock_linkExpiry (p : Port) (s : State) : (linkExpiry p s).clock = s.clock := by
  cases p with
  | field => exact clock_fieldDown _
  | control => rfl

/-- A frame at the field port sets no clock (R6). -/
theorem clock_snoop_field (f : Frame) (s : State) : (snoop .field f s).clock = s.clock := by
  unfold snoop
  dsimp only
  split
  · split
    · exact clock_applyRecords _ _ s
    · rfl
  split
  · split
    · split
      · rw [(frame_settle _).clock, clock_valveStatus]
      · rfl
    · split
      · rw [(frame_settle _).clock, clock_pumpStatus]
      · rfl
    · rfl
  split
  · split
    · rw [(frame_settle _).clock, clock_machineFrame]
    · rfl
  · rfl

/-- At the control port only the TIME frame of a SUPERVISOR sets it, within its ranges (R7, R25). -/
theorem snoop_control_cases (f : Frame) (s : State) :
    snoop .control f s = s ∨
      ∃ day second, day ≤ 65535 ∧ second ≤ 86399 ∧ snoop .control f s = timeFrame day second s := by
  have htime : ∀ day second, readTime (framePayload f) = some (day, second) → day ≤ 65535 ∧ second ≤ 86399 := by
    intro day second h
    unfold readTime at h
    split at h
    · split at h
      · rename_i hs
        obtain ⟨rfl, rfl⟩ := Prod.mk.inj (Option.some.inj h)
        exact ⟨Nat.le_of_lt_succ (nat16_lt _ _), hs⟩
      · cases h
    · cases h
  unfold snoop
  dsimp only
  split
  · split
    · rename_i day second _ ht
      obtain ⟨hday, hsecond⟩ := htime day second ht
      exact .inr ⟨day, second, hday, hsecond, rfl⟩
    · exact .inl rfl
  · exact .inl rfl

/-! ## Commands of the station -/

theorem clock_acceptOpen (c : CannonId) (q : StationCommand) (body : List Byte) (addressed : CannonId)
    (substitute : Option CannonId) (s : State) : (acceptOpen c q body addressed substitute s).clock = s.clock := by
  unfold acceptOpen
  split
  · split
    · exact clock_convert c q _ s
    · rfl
  · split
    · exact (frame_arbitrateFire c _).clock
    · rfl

theorem clock_automaticCommand (c : CannonId) (body : List Byte) (addressed : CannonId) (substitute : Option CannonId)
    (s : State) : (automaticCommand c body addressed substitute s).clock = s.clock := by
  unfold automaticCommand
  split
  · rfl
  split
  · exact clock_manualClose c s
  split
  · rfl
  split
  · rfl
  split
  · rfl
  · exact clock_acceptOpen c _ body addressed substitute s

theorem clock_forward (p : Port) (f : Frame) (s : State) : (forward p f s).clock = s.clock := clock_updPort _ _ s

theorem clock_substitutedCommand (c : CannonId) (f : Frame) (s : State) : (substitutedCommand c f s).clock = s.clock := by
  unfold substitutedCommand
  dsimp only
  split
  · rfl
  split
  · rfl
  · split
    · exact clock_automaticCommand _ _ _ _ s
    · rfl
  · split
    · exact clock_forward _ _ s
    · rfl

theorem clock_admission (c : CannonId) (f : Frame) (s : State) : (admission c f s).clock = s.clock := by
  unfold admission
  split
  · rfl
  split
  · exact clock_forward _ _ s
  · exact clock_automaticCommand _ _ _ _ s
  · exact clock_substitutedCommand c f s

theorem clock_ownFrame (p : Port) (f : Frame) (s : State) : (ownFrame p f s).clock = s.clock := by
  unfold ownFrame
  split
  · split
    · rfl
    · exact clock_frameError _ _ s
  · rfl

theorem clock_passOn (p : Port) (f : Frame) (s : State) : (passOn p f s).clock = s.clock := by
  unfold passOn
  split
  · exact clock_admission _ f s
  · exact clock_forward _ f s

/-! ## Modes -/

theorem clock_startDispatch (s : State) : (startDispatch s).clock = s.clock :=
  clock_foldl (fun t c => closeWithoutBurst c t) (fun t c => (frame_closeWithoutBurst c t).clock) _ (enterMode .run s)

theorem clock_quietDispatch (m : DispatchMode) (s : State) : (quietDispatch m s).clock = s.clock :=
  (frame_closeEach _ (enterMode m s)).clock

theorem clock_stopDispatch (s : State) : (stopDispatch s).clock = s.clock :=
  (frame_closeEach _ (clearRequests s)).clock

/-! ## Written entries (R184) -/

theorem clock_newlyWired (r : NodeRole) (s : State) : (newlyWired r s).clock = s.clock := by
  unfold newlyWired
  split
  · rw [clock_closeUnknown, (frame_confirmingClose _ s).clock]
  all_goals rfl

theorem clock_rederive (old new : NodeRole) (s : State) : (rederive old new s).clock = s.clock :=
  (clock_foldl (fun t w => deriveQuality w t) (fun t w => clock_deriveQuality w t) _ _).trans (clock_shuffle _ s)

theorem clock_writeNode (i : Fin 239) (l : List Byte) (s t : State) (h : writeNode i l s = .ok t) : t.clock = s.clock := by
  unfold writeNode at h
  dsimp only at h
  split at h
  · cases h
  split at h
  · cases h; rfl
  split at h
  · cases h
  split at h
  · cases h
  · cases h
    rw [clock_newlyWired, clock_rederive]; rfl

theorem clock_disableZone (z : ZoneId) (s : State) : (disableZone z s).clock = s.clock := by
  have h : ∀ f : Zone → Zone, ((withdraw z s).updZone z f).clock = s.clock := fun f => by rw [withdraw_eq]; rfl
  unfold disableZone
  dsimp only
  split
  · exact h _
  · rw [clock_raise, h]

theorem clock_enabledEffect (z : ZoneId) (was is : Bool) (s : State) : (enabledEffect z was is s).clock = s.clock := by
  cases was <;> cases is
  case true.false => exact clock_disableZone z s
  all_goals rfl

theorem clock_writeZoneEntry (z : ZoneId) (l : List Byte) (s t : State) (h : writeZoneEntry z l s = .ok t) :
    t.clock = s.clock := by
  unfold writeZoneEntry at h
  dsimp only at h
  split at h
  · cases h
  split at h
  · cases h; rfl
  · cases h
    rw [clock_exclusionAfter]
    split
    · exact clock_enabledEffect _ _ _ _
    · rw [clock_rebandAll, clock_enabledEffect]; rfl

theorem clock_writeProfileEntry (p : ProfileId) (l : List Byte) (s t : State) (h : writeProfileEntry p l s = .ok t) :
    t.clock = s.clock := by
  unfold writeProfileEntry at h
  dsimp only at h
  split at h
  · cases h
  · cases h; rw [clock_rebandAll]; rfl

/-- A choice between two states that each hold the clock. -/
theorem clock_writeCannonEntry (c : CannonId) (l : List Byte) (s t : State) (h : writeCannonEntry c l s = .ok t) :
    t.clock = s.clock := by
  unfold writeCannonEntry at h
  dsimp only at h
  split at h
  · cases h
  split at h
  · cases h; rfl
  split at h
  · cases h
  split at h
  · cases h
  · cases h
    exact clock_ite (clock_ite rfl (clock_takeMode _ _ _ _))
      ((frame_deriveAgain _ _).clock.trans (clock_ite rfl (clock_takeMode _ _ _ _)))

theorem clock_writeCoverageEntry (i : Fin 768) (l : List Byte) (s t : State) (h : writeCoverageEntry i l s = .ok t) :
    t.clock = s.clock := by
  unfold writeCoverageEntry at h
  split at h
  · cases h
  · cases h; exact (frame_deriveAgain _ _).clock

theorem clock_writePatternEntry (p : PatternId) (l : List Byte) (s t : State) (h : writePatternEntry p l s = .ok t) :
    t.clock = s.clock := by
  unfold writePatternEntry at h
  split at h
  · cases h
  · cases h; rfl

theorem clock_writeStationEntry (g : StationId) (l : List Byte) (s t : State) (h : writeStationEntry g l s = .ok t) :
    t.clock = s.clock := by
  unfold writeStationEntry at h
  dsimp only at h
  split at h
  · cases h
  split at h
  · cases h; rfl
  split at h
  · cases h
  · cases h; exact clock_ite rfl rfl

theorem clock_writeSourceEntry (w : SourceId) (l : List Byte) (s t : State) (h : writeSourceEntry w l s = .ok t) :
    t.clock = s.clock := by
  unfold writeSourceEntry at h
  split at h
  · cases h
  · cases h; rfl

theorem clock_writeWindowEntry (i : Fin 2) (l : List Byte) (s t : State) (h : writeWindowEntry i l s = .ok t) :
    t.clock = s.clock := by
  unfold writeWindowEntry at h
  split at h
  · cases h
  · cases h; rfl

theorem clock_writeSettingsEntry (i : Fin 1) (l : List Byte) (s t : State) (h : writeSettingsEntry i l s = .ok t) :
    t.clock = s.clock := by
  unfold writeSettingsEntry at h
  split at h
  · cases h
  · cases h; rfl

/-- Every entry of the table that is written leaves the clock. -/
abbrev EntryKeepsClock (one : Nat → List Byte → State → Taken) : Prop :=
  ∀ e l s t, one e l s = .ok t → t.clock = s.clock

theorem entryKeepsClock_atEntry {n : Nat} (f : Fin n → List Byte → State → Taken)
    (hf : ∀ i l s t, f i l s = .ok t → t.clock = s.clock) : EntryKeepsClock fun e l s => atEntry e fun i => f i l s := by
  intro e l s t h
  dsimp only [atEntry] at h
  split at h
  · exact hf _ l s t h
  · cases h

theorem entryKeepsClock_writeNodeAt : EntryKeepsClock writeNodeAt := by
  intro e l s t h
  unfold writeNodeAt at h
  split at h
  · cases h
  · exact entryKeepsClock_atEntry writeNode clock_writeNode _ l s t h

theorem clock_writeWork (table : Nat) (one : Nat → List Byte → State → Taken) (hone : EntryKeepsClock one)
    (body : List Byte) (s : State) : (writeWork table one body s).1.clock = s.clock := by
  have hloop : ∀ size n e bytes done, (writeLoop size one n e bytes done s).state.clock = s.clock :=
    fun size n e bytes done => writeLoop_induction (fun t => t.clock = s.clock) size one
      (fun e l u t hu ht => (frame_settle t).clock.trans ((hone e l u t ht).trans hu)) n e bytes done s rfl
  unfold writeWork
  dsimp only
  split
  · rfl
  split
  · rfl
  split
  · rfl
  · split <;> exact hloop _ _ _ _ _

/-! ## Requests (R179) -/

/-- The work of a request leaves the clock. -/
abbrev WorkKeepsClock (work : MgmtRequest → State → Answer) : Prop := ∀ q s, (work q s).state.clock = s.clock

theorem clock_replyTo (q : MgmtRequest) (status : Status) (body : List Byte) (s : State) :
    (replyTo q status body s).clock = s.clock := by
  obtain ⟨r, cs, k, h⟩ := replyTo_state q status body s
  rw [h]

theorem clock_conclude (q : MgmtRequest) (a : Answer) : (conclude q a).clock = a.state.clock := by
  unfold conclude
  split
  · exact clock_replyTo q _ _ _
  · rfl

theorem clock_judge (work : MgmtRequest → State → Answer) (hwork : WorkKeepsClock work) (q : MgmtRequest) (s : State) :
    (judge work q s).state.clock = s.clock := by
  unfold judge
  split
  · rfl
  · exact hwork q s
  · unfold unlistedAnswer
    split <;> rfl

theorem clock_takeRequest (row : Instr) (work : MgmtRequest → State → Answer) (hwork : WorkKeepsClock work) (s : State) :
    (takeRequest row work s).clock = s.clock := by
  unfold takeRequest
  split
  · rfl
  · split
    · rw [clock_conclude, clock_judge work hwork]
    · rfl

theorem workKeepsClock_writeAnswer (table : Nat) (one : Nat → List Byte → State → Taken) (hone : EntryKeepsClock one) :
    WorkKeepsClock (writeAnswer table one) := fun q s => clock_writeWork table one hone q.body s

theorem workKeepsClock_loadForecast : WorkKeepsClock loadForecastAnswer := by
  intro q s
  unfold loadForecastAnswer
  dsimp only
  split
  · rfl
  · exact clock_loadForecast _ _ s

theorem workKeepsClock_dispatch (allowed : DispatchMode → Bool) (change : State → State)
    (hchange : ∀ s, (change s).clock = s.clock) : WorkKeepsClock (dispatchAnswer allowed change) := by
  intro q s
  have hverb : (verbWork allowed change s).1.clock = s.clock := by
    unfold verbWork
    split
    · exact hchange s
    · rfl
  exact hverb

theorem workKeepsClock_setMode : WorkKeepsClock setModeAnswer := by
  intro q s
  unfold setModeAnswer
  split
  · rfl
  · rfl
  · exact clock_setMode _ _ s

theorem workKeepsClock_clearFault : WorkKeepsClock clearFaultAnswer := by
  intro q s
  unfold clearFaultAnswer
  split
  · rfl
  · exact clock_clearFaultOf _ s

theorem clock_clearFlagsOf (p : Port) (named : Byte) (s : State) : (clearFlagsOf p named s).state.clock = s.clock := by
  unfold clearFlagsOf
  split
  · rfl
  · exact clock_updPort p _ s

theorem workKeepsClock_clearFlags : WorkKeepsClock clearFlagsAnswer := by
  intro q s
  unfold clearFlagsAnswer
  split
  · exact clock_clearFlagsOf _ _ s
  · exact clock_clearFlagsOf _ _ s
  · rfl

theorem workKeepsClock_clearMachine : WorkKeepsClock clearMachineAnswer := by
  intro q s
  unfold clearMachineAnswer
  split
  · rfl
  · exact clock_clearMachineOf _ s

/-- RESTART keeps the yard clock and the uptime (R186). -/
theorem workKeepsClock_restart : WorkKeepsClock restartAnswer := fun _ _ => rfl

/-- The reads, IDENTIFY and SAVE change no clock (R182, R183, R185). -/
theorem workKeepsClock_identify : WorkKeepsClock identifyWork := fun _ _ => rfl
theorem workKeepsClock_readEntries : WorkKeepsClock readEntriesAnswer := fun _ _ => rfl
theorem workKeepsClock_readState : WorkKeepsClock readStateAnswer := fun _ _ => rfl
theorem workKeepsClock_save : WorkKeepsClock saveAnswer := fun _ _ => rfl

theorem clock_completeSave (s : State) : (completeSave s).clock = s.clock := by
  unfold completeSave
  split <;> rfl

theorem clock_endLoad (s : State) : (endLoad s).clock = s.clock := by
  unfold endLoad
  dsimp only
  split
  · rfl
  · rw [clock_raise]; rfl

/-! ## The law of the clock (R23 to R25) -/

/-- The law is about the clock alone. -/
theorem clockFits_of_clock {s t : State} (h : t.clock = s.clock) (hs : s.ClockFits) : t.ClockFits := by
  unfold State.ClockFits
  rw [h]
  exact hs

/-- The clock after a reset (R23). -/
theorem clockFits_of_initial {s : State} (h : s.clock = Clock.initial) : s.ClockFits :=
  clockFits_of_clock (s := State.reset) h reset_clockFits

/-- A second keeps a count of days and seconds in range (R24). -/
theorem nextSecond_fits (day second : Nat) (hd : day ≤ 65535) (hs : second ≤ 86399) :
    (nextSecond day second).1 ≤ 65535 ∧ (nextSecond day second).2 ≤ 86399 := by
  unfold nextSecond
  split <;> constructor <;> simp only <;> omega

theorem clockFits_secondEvent (s : State) (h : s.ClockFits) : (secondEvent s).ClockFits := by
  obtain ⟨hday, hsecond, hupDay, hupSecond, hunset⟩ := h
  obtain ⟨h1, h2⟩ := nextSecond_fits _ _ hday hsecond
  obtain ⟨h3, h4⟩ := nextSecond_fits _ _ hupDay hupSecond
  rw [secondEvent_eq]
  unfold State.ClockFits Clock.advance
  cases hset : s.clock.timeSet
  · exact ⟨hday, hsecond, h3, h4, fun _ => hunset hset⟩
  · exact ⟨h1, h2, h3, h4, fun hf => Bool.noConfusion hf⟩

theorem clockFits_timeFrame (day second : Nat) (s : State) (hd : day ≤ 65535) (hs : second ≤ 86399) (h : s.ClockFits) :
    (timeFrame day second s).ClockFits := by
  obtain ⟨-, -, hupDay, hupSecond, -⟩ := h
  rw [timeFrame_eq]
  exact ⟨hd, hs, hupDay, hupSecond, fun hf => Bool.noConfusion (show true = false from hf)⟩

end Sys2Proof.Machine
end

section
namespace Sys2Proof.Machine

/-! ## The law of the clock through a completed frame (R25, R151) -/

theorem clockFits_snoop (p : Port) (f : Frame) (s : State) (h : s.ClockFits) : (snoop p f s).ClockFits := by
  cases p with
  | field => exact clockFits_of_clock (clock_snoop_field f s) h
  | control =>
    obtain hsame | ⟨day, second, hd, hs, htime⟩ := snoop_control_cases f s
    · rw [hsame]; exact h
    · rw [htime]; exact clockFits_timeFrame day second s hd hs h

theorem clockFits_wellFormedFrame (p : Port) (f : Frame) (s : State) (h : s.ClockFits) :
    (wellFormedFrame p f s).ClockFits := by
  have halive : (linkAlive p s).ClockFits := clockFits_of_clock (clock_linkAlive p s) h
  unfold wellFormedFrame
  dsimp only
  split
  · exact clockFits_of_clock (clock_ownFrame p f _) halive
  · split
    · exact clockFits_of_clock (clock_frameError p .overrun _) halive
    · exact clockFits_of_clock (clock_passOn p f _) (clockFits_snoop p f _ halive)

theorem clockFits_completeFrame (p : Port) (f : Frame) (s : State) (h : s.ClockFits) : (completeFrame p f s).ClockFits := by
  unfold completeFrame
  split
  · exact clockFits_of_clock (clock_frameError p _ s) h
  · exact clockFits_wellFormedFrame p f s h

/-! ## The law of the clock through the rows -/

theorem clockFits_stepOf (f : State → State) (s : State) (hf : s.ClockFits → (f s).ClockFits) (hs : s.ClockFits) :
    (stepOf f s).ClockFits := by
  cases ho : s.operating with
  | false => rw [stepOf_of_not_operating f s ho]; exact hs
  | true => exact clockFits_of_clock (clock_stepOf f s ho) (hf hs)

theorem clockFits_stepOf_of_clock (f : State → State) (s : State) (hf : (f s).clock = s.clock) (hs : s.ClockFits) :
    (stepOf f s).ClockFits :=
  clockFits_stepOf f s (clockFits_of_clock hf) hs

/-- A timer's row: its expiry acts only while the timer runs. -/
theorem clockFits_expiry (p : State → Prop) [DecidablePred p] (f : State → State) (s : State)
    (hf : (f s).clock = s.clock) (hs : s.ClockFits) : (stepOf (fun u => if p u then f u else u) s).ClockFits :=
  clockFits_stepOf_of_clock _ s (clock_ite hf rfl) hs

theorem clockFits_request (row : Instr) (work : MgmtRequest → State → Answer) (s : State) (hwork : WorkKeepsClock work)
    (hs : s.ClockFits) : (stepOf (takeRequest row work) s).ClockFits :=
  clockFits_stepOf_of_clock _ s (clock_takeRequest row work hwork s) hs

theorem clockFits_write {n : Nat} (row : Instr) (table : Nat) (f : Fin n → List Byte → State → Taken) (s : State)
    (hf : ∀ i l s t, f i l s = .ok t → t.clock = s.clock) (hs : s.ClockFits) :
    (stepOf (takeRequest row (writeAnswer table fun e l s => atEntry e fun i => f i l s)) s).ClockFits :=
  clockFits_request row _ s (workKeepsClock_writeAnswer table _ (entryKeepsClock_atEntry f hf)) hs

theorem clockFits_dispatch (row : Instr) (allowed : DispatchMode → Bool) (change : State → State) (s : State)
    (hchange : ∀ s, (change s).clock = s.clock) (hs : s.ClockFits) :
    (stepOf (takeRequest row (dispatchAnswer allowed change)) s).ClockFits :=
  clockFits_request row _ s (workKeepsClock_dispatch allowed change hchange) hs

/-- Only power, a release of reset, a second and a TIME frame change the clock. -/
theorem clockFits_exec (i : Instr) (s : State) (hs : s.ClockFits) : ∃ t, exec i s = .next t ∧ t.ClockFits := by
  cases i with
  | powerOn => exact ⟨_, rfl, clockFits_of_initial rfl⟩
  | pinResetAsserted => exact ⟨_, rfl, clockFits_of_clock (clock_ite rfl rfl) hs⟩
  | resetRelease straps =>
    refine ⟨_, rfl, ?_⟩
    split
    · exact clockFits_of_initial rfl
    · exact hs
  | powerFail => exact ⟨_, rfl, hs⟩
  | storeLoadEnd => exact ⟨_, rfl, clockFits_expiry (fun u => u.phase = .loading) endLoad s (clock_endLoad s) hs⟩
  | frameCompletion p bytes => exact ⟨_, rfl, clockFits_stepOf _ s (clockFits_completeFrame p bytes s) hs⟩
  | endOfSending p => exact ⟨_, rfl, clockFits_of_clock (clock_ite (clock_endSending p s) rfl) hs⟩
  | secondEvent => exact ⟨_, rfl, clockFits_stepOf _ s (clockFits_secondEvent s) hs⟩
  | mastStalenessExpiry m => exact ⟨_, rfl, clockFits_expiry _ (mastExpiry m) s rfl hs⟩
  | dustStalenessExpiry d => exact ⟨_, rfl, clockFits_expiry _ (dustExpiry d) s rfl hs⟩
  | probeStalenessExpiry z => exact ⟨_, rfl, clockFits_expiry _ (probeExpiry z) s rfl hs⟩
  | evaluationTimerExpiry z => exact ⟨_, rfl, clockFits_stepOf_of_clock _ s (clock_evaluationExpiry z s) hs⟩
  | pumpStalenessExpiry g => exact ⟨_, rfl, clockFits_expiry _ (pumpExpiry g) s (clock_pumpExpiry g s) hs⟩
  | slotStart g => exact ⟨_, rfl, clockFits_expiry _ (slotStart g) s (frame_slotStart g s).clock hs⟩
  | holdTimerExpiry c =>
    exact ⟨_, rfl, clockFits_expiry _ (fun u => u.updCannon c fun k => { k with holdTimer := none }) s rfl hs⟩
  | acknowledgementTimerExpiry c => exact ⟨_, rfl, clockFits_expiry _ (ackExpiry c) s (clock_ackExpiry c s) hs⟩
  | burstTimerExpiry c => exact ⟨_, rfl, clockFits_expiry _ (burstExpiry c) s (frame_startClosing false c s).clock hs⟩
  | qualityStalenessExpiry w =>
    exact ⟨_, rfl, clockFits_expiry _ (qualityExpiry w) s (clock_deriveQuality w _) hs⟩
  | machineStalenessExpiry m => exact ⟨_, rfl, clockFits_expiry _ (machineExpiry m) s rfl hs⟩
  | livenessTimerExpiry p => exact ⟨_, rfl, clockFits_expiry _ (linkExpiry p) s (clock_linkExpiry p s) hs⟩
  | saveCompletion => exact ⟨_, rfl, clockFits_stepOf_of_clock _ s (clock_completeSave s) hs⟩
  | identify => exact ⟨_, rfl, clockFits_request _ _ s workKeepsClock_identify hs⟩
  | readEntries => exact ⟨_, rfl, clockFits_request _ _ s workKeepsClock_readEntries hs⟩
  | readState => exact ⟨_, rfl, clockFits_request _ _ s workKeepsClock_readState hs⟩
  | writeNodeMap =>
    exact ⟨_, rfl, clockFits_request _ _ s (workKeepsClock_writeAnswer 1 writeNodeAt entryKeepsClock_writeNodeAt) hs⟩
  | writeZone => exact ⟨_, rfl, clockFits_write _ 2 writeZoneEntry s clock_writeZoneEntry hs⟩
  | writeProfile => exact ⟨_, rfl, clockFits_write _ 3 writeProfileEntry s clock_writeProfileEntry hs⟩
  | writeCannon => exact ⟨_, rfl, clockFits_write _ 4 writeCannonEntry s clock_writeCannonEntry hs⟩
  | writeCoverage => exact ⟨_, rfl, clockFits_write _ 5 writeCoverageEntry s clock_writeCoverageEntry hs⟩
  | writePattern => exact ⟨_, rfl, clockFits_write _ 6 writePatternEntry s clock_writePatternEntry hs⟩
  | writeStation => exact ⟨_, rfl, clockFits_write _ 7 writeStationEntry s clock_writeStationEntry hs⟩
  | writeSource => exact ⟨_, rfl, clockFits_write _ 8 writeSourceEntry s clock_writeSourceEntry hs⟩
  | writeSubstitution => exact ⟨_, rfl, clockFits_write _ 9 writeWindowEntry s clock_writeWindowEntry hs⟩
  | writeSettings => exact ⟨_, rfl, clockFits_write _ 10 writeSettingsEntry s clock_writeSettingsEntry hs⟩
  | loadForecast => exact ⟨_, rfl, clockFits_request _ _ s workKeepsClock_loadForecast hs⟩
  | start => exact ⟨_, rfl, clockFits_dispatch _ _ startDispatch s clock_startDispatch hs⟩
  | watch => exact ⟨_, rfl, clockFits_dispatch _ _ (quietDispatch .watch) s (clock_quietDispatch .watch) hs⟩
  | halt => exact ⟨_, rfl, clockFits_dispatch _ _ (quietDispatch .halt) s (clock_quietDispatch .halt) hs⟩
  | resume => exact ⟨_, rfl, clockFits_dispatch _ _ resumeDispatch s (fun _ => rfl) hs⟩
  | stop => exact ⟨_, rfl, clockFits_dispatch _ _ stopDispatch s clock_stopDispatch hs⟩
  | setCannonMode => exact ⟨_, rfl, clockFits_request _ _ s workKeepsClock_setMode hs⟩
  | clearFault => exact ⟨_, rfl, clockFits_request _ _ s workKeepsClock_clearFault hs⟩
  | clearFlags => exact ⟨_, rfl, clockFits_request _ _ s workKeepsClock_clearFlags hs⟩
  | clearMachine => exact ⟨_, rfl, clockFits_request _ _ s workKeepsClock_clearMachine hs⟩
  | save => exact ⟨_, rfl, clockFits_request _ _ s workKeepsClock_save hs⟩
  | restart => exact ⟨_, rfl, clockFits_request _ _ s workKeepsClock_restart hs⟩

/-- Settles O52: only the rows of power, of reset, of a second and of a TIME frame touch the clock, each within its
ranges. -/
theorem stepKeepsClockRanges : Obligations.StepKeepsClockRanges := by
  unfold Obligations.StepKeepsClockRanges
  intro s t hs h
  unfold step at h
  split at h
  · cases h
    exact hs
  · next c rest _ =>
    obtain ⟨u, hu, hfits⟩ := clockFits_exec c { s with pending := rest } hs
    cases hu.symm.trans h
    exact hfits

end Sys2Proof.Machine
end

section
namespace Sys2Proof.Machine

/-! ## Calm changes of a cannon (R58, R172, R174) -/

/-- The cannon's burst is in flight and its class is not FIRE (R172). -/
abbrev Cannon.routine (k : Cannon) : Bool := k.flying fun b => decide (b.cls ≠ .fire)

theorem routine_iff (k : Cannon) :
    k.routine = true ↔ k.inFlight = true ∧ ∃ cls, k.burst.map (·.cls) = some cls ∧ cls ≠ .fire := by
  cases hb : k.burst <;> simp [Cannon.routine, Cannon.flying, hb]

/-- A change of a cannon that brings no burst into flight and no request. -/
structure Cannon.Calms (k k' : Cannon) : Prop where
  flight : k'.inFlight = true → k.inFlight = true
  routine : k'.routine = true → k.routine = true
  asks : k'.request = none ∨ k'.request = k.request

/-- A cannon that is not in flight after the change. -/
theorem Cannon.Calms.grounded {k k' : Cannon} (h : k'.inFlight = false) (ha : k'.request = none ∨ k'.request = k.request) :
    k.Calms k' :=
  ⟨fun e => absurd (h.symm.trans e) Bool.false_ne_true,
    fun e => absurd (h.symm.trans ((routine_iff k').mp e).1) Bool.false_ne_true, ha⟩

/-- A cannon whose burst keeps its class. -/
theorem Cannon.Calms.sameClass {k k' : Cannon} (hf : k'.inFlight = true → k.inFlight = true)
    (hb : k'.burst.map (·.cls) = k.burst.map (·.cls)) (ha : k'.request = none ∨ k'.request = k.request) : k.Calms k' :=
  ⟨hf, fun e => by rw [routine_iff, hb] at e; exact (routine_iff k).mpr ⟨hf e.1, e.2⟩, ha⟩

/-- A cannon whose state and burst are not touched. -/
theorem Cannon.Calms.sameBurst {k k' : Cannon} (hs : k'.state = k.state) (hb : k'.burst = k.burst)
    (ha : k'.request = none ∨ k'.request = k.request) : k.Calms k' :=
  .sameClass (by unfold Cannon.inFlight; rw [hs]; exact id) (by rw [hb]) ha

theorem Cannon.Calms.refl (k : Cannon) : k.Calms k := .sameBurst rfl rfl (.inr rfl)

/-! ## Tame changes of the state -/

/-- What most events leave of the laws of bands and modes: the configuration, the mode and every zone's risk and band stay,
no burst but FIRE comes into flight, in OFF none does, and no request comes. -/
structure State.Tame (s t : State) : Prop where
  cfg : t.cfg = s.cfg
  mode : t.mode = s.mode
  banding : ∀ z, (t.zone z).risk = (s.zone z).risk ∧ (t.zone z).band = (s.zone z).band
  flight : s.mode = .off → ∀ c, (t.cannon c).inFlight = true → (s.cannon c).inFlight = true
  routine : ∀ c, (t.cannon c).routine = true → (s.cannon c).routine = true
  asks : ∀ c, (t.cannon c).request = none ∨ (t.cannon c).request = (s.cannon c).request

theorem State.Tame.trans {s t u : State} (h : s.Tame t) (k : t.Tame u) : s.Tame u where
  cfg := k.cfg.trans h.cfg
  mode := k.mode.trans h.mode
  banding z := ⟨(k.banding z).1.trans (h.banding z).1, (k.banding z).2.trans (h.banding z).2⟩
  flight hm c hc := h.flight hm c (k.flight (h.mode.trans hm) c hc)
  routine c hc := h.routine c (k.routine c hc)
  asks c := (k.asks c).elim .inl fun e => (h.asks c).elim (fun e' => .inl (e.trans e')) fun e' => .inr (e.trans e')

/-- The same, with the last change first. -/
theorem State.Tame.after {s t u : State} (k : t.Tame u) (h : s.Tame t) : s.Tame u := h.trans k

/-- A change of other records alone. -/
theorem State.Tame.books {s t : State} (hcfg : t.cfg = s.cfg) (hmode : t.mode = s.mode) (hzones : t.zones = s.zones)
    (hcannons : t.cannons = s.cannons) : s.Tame t := by
  have hz : ∀ z, t.zone z = s.zone z := fun z => congrArg (fun v : Vector Zone 32 => v[z]) hzones
  have hc : ∀ c, t.cannon c = s.cannon c := fun c => congrArg (fun v : Vector Cannon 48 => v[c]) hcannons
  exact ⟨hcfg, hmode, fun z => by rw [hz z]; exact ⟨rfl, rfl⟩, fun _ c h => by rwa [hc c] at h,
    fun c h => by rwa [hc c] at h, fun c => .inr (by rw [hc c])⟩

theorem State.Tame.refl (s : State) : s.Tame s := .books rfl rfl rfl rfl

/-- A change within the frame of dispatch that calms every cannon. -/
theorem State.Tame.ofFrame {s t : State} (h : s.DispatchFrame t) (hc : ∀ c, (s.cannon c).Calms (t.cannon c)) : s.Tame t where
  cfg := h.cfg
  mode := h.mode
  banding z := by rw [State.zone, h.zones]; exact ⟨rfl, rfl⟩
  flight _ c := (hc c).flight
  routine c := (hc c).routine
  asks c := (hc c).asks

/-- A change within the frame of dispatch that leaves the cannons. -/
theorem State.Tame.ofFrameCannons {s t : State} (h : s.DispatchFrame t) (hc : t.cannons = s.cannons) : s.Tame t :=
  .books h.cfg h.mode h.zones hc

theorem tame_updCannon (c : CannonId) (f : Cannon → Cannon) (s : State) (h : (s.cannon c).Calms (f (s.cannon c))) :
    s.Tame (s.updCannon c f) := by
  refine .ofFrame (frame_updCannon c f s) fun d => ?_
  rw [State.cannon_updCannon]
  split
  · rename_i hd; subst hd; exact h
  · exact .refl _

theorem tame_ite {p : Prop} [Decidable p] {s a b : State} (ha : p → s.Tame a) (hb : ¬ p → s.Tame b) :
    s.Tame (if p then a else b) := by
  split
  · exact ha ‹_›
  · exact hb ‹_›

/-- A fold of tame operations is tame. -/
theorem tame_foldl {α : Type} (f : State → α → State) (hf : ∀ (s : State) (a : α), s.Tame (f s a)) (l : List α) (s : State) :
    s.Tame (l.foldl f s) := by
  induction l generalizing s with
  | nil => exact .refl s
  | cons a l ih => exact (hf s a).trans (ih _)

theorem tame_shuffle {α : Type} (l : List α) (s : State) : s.Tame (shuffle l s).2 := by
  obtain ⟨cs, k, h⟩ := shuffle_state l s
  rw [h]; exact .books rfl rfl rfl rfl

theorem tame_raise (r : Report) (s : State) : s.Tame (raise r s) := .books rfl rfl rfl rfl

theorem tame_capacityDue (g : StationId) (s : State) : s.Tame (capacityDue g s) := .books rfl rfl rfl rfl

theorem tame_updStation (g : StationId) (f : Station → Station) (s : State) : s.Tame (s.updStation g f) :=
  .books rfl rfl rfl rfl

theorem tame_mapStations (f : Station → Station) (s : State) : s.Tame (s.mapStations f) := .books rfl rfl rfl rfl

theorem tame_commands (q : List Command) (s : State) : s.Tame { s with commands := q } := .books rfl rfl rfl rfl

theorem tame_dueCapacity (gs : List StationId) (s : State) : s.Tame { s with dueCapacity := gs } := .books rfl rfl rfl rfl

theorem tame_updPort (p : Port) (f : PortState → PortState) (s : State) : s.Tame (s.updPort p f) := by
  cases p <;> exact .books rfl rfl rfl rfl

theorem tame_queueClose (c : CannonId) (s : State) : s.Tame (queueClose c s) := by
  rw [queueClose_eq]; exact .books rfl rfl rfl rfl

/-! ## Closes (R89, R112, R114) -/

theorem tame_takeClose (c : CannonId) (s : State) : s.Tame (takeClose c s) := by
  refine .ofFrame (frame_takeClose c s) fun d => ?_
  by_cases hd : d = c
  · subst hd
    rw [takeClose_cannon]
    exact .grounded rfl (.inr rfl)
  · rw [takeClose_cannon_ne s c d hd]
    exact .refl _

theorem tame_joinWaiting (c : CannonId) (s : State) : s.Tame (joinWaiting c s) :=
  .ofFrameCannons (frame_joinWaiting c s) (joinWaiting_cannons s c)

theorem tame_closeWithoutBurst (c : CannonId) (s : State) : s.Tame (closeWithoutBurst c s) := by
  obtain h | h | ⟨-, h⟩ := closeWithoutBurst_cases s c <;> rw [h]
  · exact .refl s
  · exact tame_joinWaiting c s
  · exact tame_takeClose c s

theorem tame_walkWaiting (g : StationId) (s : State) : s.Tame (walkWaiting g s) :=
  tame_foldl _ (fun t c => tame_ite (fun _ => tame_takeClose c t) fun _ => .refl t) _ s

theorem tame_confirmingClose (c : CannonId) (s : State) : s.Tame (confirmingClose c s) :=
  tame_ite (fun _ => tame_queueClose c s) fun _ => .refl s

/-- An unsent OPEN removed leaves its cannon out of flight. -/
theorem tame_dropUnsent (next : CannonState) (h : next ≠ .opening ∧ next ≠ .spraying) (c : CannonId) (s : State) :
    s.Tame (dropUnsent next c s) := by
  refine .ofFrame (frame_dropUnsent next c s) fun d => ?_
  by_cases hd : d = c
  · subst hd
    rw [dropUnsent_cannon]
    exact .grounded (by simp [Cannon.inFlight, h]) (.inr rfl)
  · rw [dropUnsent_cannon_ne s c next d hd]
    exact .refl _

theorem tame_startClosing (forFault : Bool) (c : CannonId) (s : State) : s.Tame (startClosing forFault c s) :=
  (tame_updCannon c _ s (.grounded rfl (.inr rfl))).trans (tame_queueClose c _)

theorem tame_earlyClose (c : CannonId) (s : State) : s.Tame (earlyClose c s) := by
  unfold earlyClose
  split
  case h_1 => exact tame_ite (fun _ => tame_dropUnsent .idle (by decide) c s) fun _ => tame_startClosing false c s
  case h_2 => exact tame_startClosing false c s
  all_goals exact .refl s

theorem tame_closeEach (cs : List CannonId) (s : State) : s.Tame (closeEach cs s) :=
  tame_foldl _ (fun t c => tame_earlyClose c t) cs s

theorem tame_closeAnyOrder (cs : List CannonId) (s : State) : s.Tame (closeAnyOrder cs s) :=
  (tame_shuffle cs s).trans (tame_closeEach _ _)

/-! ## Grants to FIRE requests (R97, R99, R100) -/

/-- The cannon holds no request but a FIRE request. -/
abbrev State.FireOnly (s : State) (c : CannonId) : Prop := ∀ r ∈ (s.cannon c).request, r.cls = .fire

/-- A tame change leaves a cannon without routine requests. -/
theorem State.Tame.fireOnly {s t : State} (h : s.Tame t) {c : CannonId} (hc : s.FireOnly c) : t.FireOnly c := by
  intro r hr
  obtain e | e := h.asks c
  · rw [e] at hr; cases hr
  · rw [e] at hr; exact hc r hr

/-- The cannon that is granted is in OPENING with the new burst; no other cannon changes (R97). -/
theorem grant_cannon (g : StationId) (c : CannonId) (r : CannonRequest) (w : SourceId) (s : State) (d : CannonId) :
    (grant g c r w s).cannon d =
      if d = c then
        { (s.cannon c).afterGrant r with
          state := .opening
          burst := some (newBurst r (s.cannon c).target w (plannedDraw (s.cannonEntry c).flow (s.durationOf g r))
            (s.durationOf g r)) }
      else s.cannon d := by
  have hqueued (t : State) : (queueOpen c t).cannon d = t.cannon d := rfl
  have hended (t : State) : (endPreemption c t).cannon d = t.cannon d := rfl
  cases r <;> simp only [grant, takePlace, commit, hqueued, hended, State.cannon_updStation, State.cannon_updSource,
    State.cannon_updCannon]

theorem tame_grant (g : StationId) (c : CannonId) (r : CannonRequest) (w : SourceId) (s : State) (hm : s.mode ≠ .off)
    (hr : r.cls = .fire) : s.Tame (grant g c r w s) := by
  have hframe := frame_grant g c r w s
  refine ⟨hframe.cfg, hframe.mode, fun z => by rw [State.zone, hframe.zones]; exact ⟨rfl, rfl⟩,
    fun h => absurd h hm, fun d hd => ?_, fun d => ?_⟩ <;> rw [grant_cannon] at *
  · split at hd
    · simp [Cannon.routine, Cannon.flying, newBurst, hr] at hd
    · exact hd
  · split
    · cases r <;> first | exact .inl rfl | cases hr
    · exact .inr rfl

theorem tame_owe (c : CannonId) (s : State) : s.Tame (owe c s) := by
  refine tame_updCannon c _ s ?_
  split
  · exact .sameBurst rfl rfl (.inr rfl)
  · exact .refl _

theorem tame_preempt (g : StationId) (c : CannonId) (s : State) : s.Tame (preempt g c s) := by
  unfold preempt
  split
  · exact .refl s
  · split
    · exact .refl s
    · exact (tame_earlyClose _ s).trans (.books rfl rfl rfl rfl)

theorem tame_arbitrate (g : StationId) (c : CannonId) (s : State) (hm : s.mode ≠ .off) (hc : s.FireOnly c) :
    s.Tame (arbitrate g c s) := by
  unfold arbitrate
  split
  · exact .refl s
  · rename_i r hr
    dsimp only
    split
    · exact tame_grant g c r _ s hm (hc r hr)
    · split
      · exact tame_preempt g c s
      · exact tame_owe c s
      · exact .refl s
    · exact tame_owe c s

theorem tame_arbitrateAll (g : StationId) (cs : List CannonId) (s : State) (hm : s.mode ≠ .off)
    (hcs : ∀ c ∈ cs, s.FireOnly c) : s.Tame (arbitrateAll g cs s) := by
  induction cs generalizing s with
  | nil => exact .refl s
  | cons c cs ih =>
    have hone := tame_arbitrate g c s hm (hcs c List.mem_cons_self)
    exact hone.trans (ih _ (by rw [hone.mode]; exact hm) fun d hd => hone.fireOnly (hcs d (List.mem_cons_of_mem c hd)))

/-- A cannon that holds a FIRE request holds no other. -/
theorem fireOnly_of_holds (s : State) (c : CannonId) (h : (s.cannon c).holds .fire = true) : s.FireOnly c := by
  intro r hr
  simpa [Cannon.holds, Option.mem_def.mp hr] using h

theorem fireServed_mode {s : State} {g : StationId} (h : s.fireServed g = true) : s.mode ≠ .off := by
  simp only [State.fireServed, Bool.and_eq_true, decide_eq_true_iff] at h
  exact h.1.1

theorem fireCandidate_fireOnly {s : State} {g : StationId} {c : CannonId} (h : s.fireCandidate g c = true) : s.FireOnly c := by
  simp only [State.fireCandidate, Bool.and_eq_true] at h
  exact fireOnly_of_holds s c h.2

theorem tame_arbitrateFires (g : StationId) (s : State) : s.Tame (arbitrateFires g s) := by
  refine tame_ite (fun h => tame_arbitrateAll g _ s (fireServed_mode h) fun c hc => ?_) fun _ => .refl s
  rw [State.ranked, List.mem_insertionSort] at hc
  exact fireCandidate_fireOnly (List.mem_filter.mp hc).2

theorem tame_arbitrateFire (c : CannonId) (s : State) : s.Tame (arbitrateFire c s) := by
  refine tame_ite (fun h => ?_) fun _ => .refl s
  rw [Bool.and_eq_true] at h
  exact tame_arbitrate _ c s (fireServed_mode h.1) (fireCandidate_fireOnly h.2)

/-! ## Capacity events (R90) -/

theorem tame_capacityEvent (g : StationId) (s : State) : s.Tame (capacityEvent g s) :=
  (tame_walkWaiting g s).trans (tame_arbitrateFires g _)

theorem tame_dueOrder (s : State) : s.Tame (dueOrder s).2 := by
  unfold dueOrder
  dsimp only
  split
  · exact tame_shuffle _ s
  · exact .refl s

theorem tame_settle (s : State) : s.Tame (settle s) := by
  exact .after (tame_foldl _ (fun t g => tame_capacityEvent g t) _ _) ((tame_dueOrder s).trans (tame_dueCapacity [] _))

end Sys2Proof.Machine
end

section
namespace Sys2Proof.Machine

/-! ## Events of stations and valves that are tame (R86, R92, R106 to R113) -/

theorem tame_takeOver (g : StationId) (c : CannonId) (s : State) : s.Tame (takeOver g c s) := by
  refine .ofFrame (frame_takeOver g c s) fun d => ?_
  rw [takeOver_cannon]
  split
  · exact .sameBurst rfl rfl (.inr rfl)
  · exact .refl _

theorem tame_becomeStuck (c : CannonId) (s : State) : s.Tame (becomeStuck c s) := by
  have hstuck := tame_updCannon c
    (fun k => { k with state := .stuck, faultPending := false, ackTimer := some s.settings.stuckRetry }) s
    (.grounded rfl (.inr rfl))
  exact .after (tame_foldl _ (fun t f => tame_arbitrateFire f t) _ _) (.after (tame_mapStations _ _) (hstuck.trans (tame_raise _ _)))

theorem tame_ackExpiry (c : CannonId) (s : State) : s.Tame (ackExpiry c s) := by
  have hstopped := tame_updCannon c (fun k => { k with ackTimer := none }) s (.sameBurst rfl rfl (.inr rfl))
  unfold ackExpiry
  dsimp only
  split
  case h_1 => exact (hstopped.trans (tame_startClosing true c _)).trans (tame_raise _ _)
  case h_2 => exact hstopped.trans (tame_becomeStuck c _)
  case h_3 =>
    exact (hstopped.trans (tame_queueClose c _)).trans (tame_updCannon c _ _ (.sameBurst rfl rfl (.inr rfl)))
  all_goals exact hstopped

theorem tame_pumpStatus (g : StationId) (p : PumpState) (pressure : Nat) (s : State) : s.Tame (pumpStatus g p pressure s) := by
  have hshut : ∀ t : State, s.Tame t →
      s.Tame (if p = .stopped ∨ p = .tripped then closeAnyOrder (t.flyingAt g) t else t) := fun t ht =>
    tame_ite (fun _ => ht.trans (tame_closeAnyOrder _ t)) fun _ => ht
  have htold := hshut (s.updStation g fun x =>
    { x with pump := p, pressure := pressure, pumpTimer := some s.settings.pumpStale }) (.books rfl rfl rfl rfl)
  unfold pumpStatus
  dsimp only
  split
  · exact htold.trans (tame_raise _ _)
  · exact .after (tame_capacityDue g _) (htold.trans (tame_raise _ _))
  · exact htold
  · exact htold

theorem tame_pumpExpiry (g : StationId) (s : State) : s.Tame (pumpExpiry g s) := by
  have htold : s.Tame (s.updStation g fun x => { x with pump := .unknown, pumpTimer := none }) := .books rfl rfl rfl rfl
  have hshut := htold.trans (tame_closeAnyOrder ((s.updStation g fun x =>
    { x with pump := .unknown, pumpTimer := none }).openingAt g) _)
  exact tame_ite (fun _ => hshut.trans (tame_raise _ _)) fun _ => hshut

/-- A zone whose moisture record changes keeps its risk and band (R19, R59). -/
theorem tame_updZone (z : ZoneId) (f : Zone → Zone) (s : State) (hr : (f (s.zone z)).risk = (s.zone z).risk)
    (hb : (f (s.zone z)).band = (s.zone z).band) : s.Tame (s.updZone z f) := by
  refine ⟨rfl, rfl, fun y => ?_, fun _ _ h => h, fun _ h => h, fun _ => .inr rfl⟩
  rw [State.zone_updZone]
  split
  · rename_i hy; subst hy; exact ⟨hr, hb⟩
  · exact ⟨rfl, rfl⟩

theorem tame_wettingCredit (z : ZoneId) (draw efficiency : Nat) (s : State) : s.Tame (wettingCredit z draw efficiency s) :=
  tame_updZone z _ s rfl rfl

/-- A cannon whose burst record is removed has none in flight that is not FIRE (R113). -/
theorem tame_complete (c : CannonId) (litres : Nat) (s : State) : s.Tame (complete c litres s) := by
  unfold complete
  split
  · exact .refl s
  · rename_i b _
    dsimp only
    refine State.Tame.trans ?_ (tame_updCannon c _ _ ⟨id, fun h => ?_, .inr rfl⟩)
    · split
      · exact .after (tame_wettingCredit _ _ _ _) (.books rfl rfl rfl rfl)
      · exact .books rfl rfl rfl rfl
    · simp [Cannon.routine, Cannon.flying] at h

theorem tame_leaveBurst (next : CannonState) (h : next ≠ .opening ∧ next ≠ .spraying) (c : CannonId) (litres : Nat) (s : State) :
    s.Tame (leaveBurst next c litres s) := by
  have hleft := (tame_complete c litres s).trans (tame_updCannon c
    (fun k => { k with state := next, burstTimer := none, ackTimer := none, faultPending := false }) _
    (.grounded (by simp [Cannon.inFlight, h]) (.inr rfl)))
  exact .after (tame_capacityDue _ _) <| .after (tame_confirmingClose c _) <| .after (tame_mapStations _ _) <|
    .after (tame_updStation _ _ _) hleft

/-- A cannon in OPENING that starts to spray flies as it did (R108). -/
theorem tame_startSpraying (c : CannonId) (s : State) (h : (s.cannon c).state = .opening) : s.Tame (startSpraying c s) := by
  refine tame_updCannon c _ s (.sameClass (fun _ => by simp [Cannon.inFlight, h]) ?_ (.inr rfl))
  cases (s.cannon c).burst <;> rfl

theorem tame_statusOpen (c : CannonId) (s : State) : s.Tame (statusOpen c s) := by
  cases hstate : (s.cannon c).state <;> simp only [statusOpen, hstate]
  case opening => exact .after (tame_startSpraying c (removeOpen c s) hstate) (.books rfl rfl rfl rfl)
  case idle | fault => exact (tame_raise _ s).trans (tame_closeWithoutBurst c _)
  case unknown => exact tame_closeWithoutBurst c s
  case bypassClosed => exact tame_updCannon c _ s (.grounded rfl (.inr rfl))
  all_goals exact .refl s

theorem tame_chargeBypass (c : CannonId) (litres : Nat) (s : State) : s.Tame (chargeBypass c litres s) := by
  unfold chargeBypass
  split
  · exact .books rfl rfl rfl rfl
  · exact .refl s

theorem tame_statusClosed (c : CannonId) (litres : Nat) (s : State) : s.Tame (statusClosed c litres s) := by
  cases hstate : (s.cannon c).state <;> simp only [statusClosed, hstate]
  case spraying => exact (tame_raise _ s).trans (tame_leaveBurst .idle (by decide) c litres _)
  case closing => exact tame_leaveBurst _ (by split <;> decide) c litres s
  case stuck => exact tame_leaveBurst .fault (by decide) c litres s
  case unknown =>
    have hidle := tame_updCannon c (fun k => { k with state := .idle }) s (.grounded rfl (.inr rfl))
    exact .after (tame_confirmingClose c _) (.after (tame_mapStations _ _) hidle)
  case idle | fault => exact .books rfl rfl rfl rfl
  case bypassOpen =>
    exact .after (tame_capacityDue _ _) <| .after (tame_updCannon c _ _ (.grounded rfl (.inr rfl))) (tame_chargeBypass c litres s)
  all_goals exact .refl s

theorem tame_statusFault (c : CannonId) (litres : Nat) (s : State) : s.Tame (statusFault c litres s) := by
  cases hstate : (s.cannon c).state <;> simp only [statusFault, hstate]
  case opening =>
    exact State.Tame.trans (tame_ite (fun _ => tame_dropUnsent .fault (by decide) c s) fun _ => tame_startClosing true c s)
      (tame_raise _ _)
  case spraying => exact (tame_startClosing true c s).trans (tame_raise _ _)
  case closing | stuck =>
    exact State.Tame.trans (tame_ite (fun _ => .refl s) fun _ => tame_raise _ s) (tame_leaveBurst .fault (by decide) c litres _)
  case unknown | idle => exact (tame_updCannon c _ s (.grounded rfl (.inr rfl))).trans (tame_raise _ _)
  all_goals exact .refl s

theorem tame_valveStatus (c : CannonId) (v : ValveReport) (litres : Nat) (s : State) : s.Tame (valveStatus c v litres s) := by
  cases v with
  | opened => exact tame_statusOpen c s
  | closed => exact tame_statusClosed c litres s
  | fault => exact tame_statusFault c litres s

/-! ## Sendings (R158) -/

theorem tame_sendForward (p : Port) (s : State) : s.Tame (sendForward p s) := by
  unfold sendForward
  split
  · exact .refl s
  · exact (tame_updPort p _ s).trans (tame_updPort p _ _)

/-- What the sending of a command does to its cannon keeps its burst's class (R105). -/
theorem tame_commandSent (q : Command) (s : State) : s.Tame (commandSent q s) := by
  unfold commandSent
  split
  · refine tame_updCannon _ _ s (.sameClass id ?_ (.inr rfl))
    simp only [Cannon.openSentBy]
    cases (s.cannon q.cannon).burst <;> rfl
  · exact tame_updCannon _ _ s (.sameBurst rfl rfl (.inr rfl))

theorem tame_sendCommand (s : State) : s.Tame (sendCommand s) := by
  unfold sendCommand
  split
  · exact .after (tame_sendForward .field _) (.books rfl rfl rfl rfl)
  · split
    · exact .after (tame_updPort .field _ _) (.after (tame_commandSent _ _) (.books rfl rfl rfl rfl))
    · exact .after (tame_sendForward .field _) (.books rfl rfl rfl rfl)

theorem tame_sendReplyOrNotice (s : State) : s.Tame (sendReplyOrNotice s) := by
  unfold sendReplyOrNotice
  split
  · exact .books rfl rfl rfl rfl
  · unfold sendNotice
    split
    · exact .books rfl rfl rfl rfl
    · exact .books rfl rfl rfl rfl
    · exact .refl s
  · exact .refl s

theorem tame_sendFrom (p : Port) (t : Turn) (s : State) : s.Tame (sendFrom p t s) := by
  cases t with
  | forward => exact tame_sendForward p s
  | insertion =>
    cases p with
    | field => exact tame_sendCommand s
    | control => exact tame_sendReplyOrNotice s

theorem tame_decideNext (p : Port) (s : State) : s.Tame (decideNext p s) := by
  unfold decideNext
  split
  · exact tame_sendFrom p _ s
  · exact tame_sendFrom p _ s
  · exact tame_sendFrom p _ s
  · exact .refl s

theorem tame_transmit (p : Port) (s : State) : s.Tame (transmit p s) := by
  unfold transmit decideIdle
  split
  · split
    · exact .after (tame_sendFrom p _ s.choose) (.books rfl rfl rfl rfl)
    · exact tame_sendFrom p _ s
    · exact tame_sendFrom p _ s
    · exact .refl s
  · exact .refl s

theorem tame_transmitBoth (s : State) : s.Tame (transmitBoth s) := (tame_transmit .field s).trans (tame_transmit .control _)

theorem tame_endSending (p : Port) (s : State) : s.Tame (endSending p s) := (tame_updPort p _ s).trans (tame_decideNext p _)

/-! ## Cannon modes, requests and the field link (R67, R116, R117, R175 to R177) -/

/-- A request that is removed with its preemption (R75, R101). -/
theorem tame_dropRequest (c : CannonId) (s : State) : s.Tame (dropRequest c s) :=
  .after (tame_mapStations _ _) (tame_updCannon c _ s (.sameBurst rfl rfl (.inl rfl)))

theorem tame_closeUnknown (c : CannonId) (s : State) : s.Tame (closeUnknown c s) :=
  tame_ite (fun _ => tame_closeWithoutBurst c s) fun _ => .refl s

/-- No cannon mode is entered in flight (R67). -/
theorem changedState_grounded (k : CannonState) (m : CannonMode) :
    changedState k m ≠ .opening ∧ changedState k m ≠ .spraying := by
  cases m <;> simp only [changedState]
  case automatic => split <;> decide
  all_goals decide

theorem tame_takeMode (was m : CannonMode) (c : CannonId) (s : State) : s.Tame (takeMode was m c s) := by
  have hmoved := tame_updCannon c (fun k => { k with state := changedState k.state m }) s
    (.grounded (by simp [Cannon.inFlight, changedState_grounded]) (.inr rfl))
  unfold takeMode
  dsimp only
  split
  · exact .after (tame_updCannon c _ _ (.sameBurst rfl rfl (.inr rfl))) <| .after (tame_mapStations _ _) <|
      hmoved.trans (tame_dropRequest c _)
  · exact ((hmoved.trans (tame_updCannon c _ _ (.sameBurst rfl rfl (.inl rfl)))).trans (tame_confirmingClose c _)).trans
      (tame_closeUnknown c _)
  · exact hmoved

theorem tame_manualClose (c : CannonId) (s : State) : s.Tame (manualClose c s) := by
  have hheld := (tame_dropRequest c s).trans
    (tame_updCannon c (fun k => { k with holdTimer := holdOf (s.cannonEntry c).holdTime }) _ (.sameBurst rfl rfl (.inr rfl)))
  unfold manualClose
  dsimp only
  split
  case h_1 | h_2 => exact hheld.trans (tame_earlyClose c _)
  case h_3 => exact hheld.trans (tame_closeWithoutBurst c _)
  all_goals exact hheld

theorem tame_clearFaultOf (c : CannonId) (s : State) : s.Tame (clearFaultOf c s).1 := by
  unfold clearFaultOf
  split
  case h_1 => exact (tame_updCannon c _ s (.grounded rfl (.inr rfl))).trans (tame_confirmingClose c _)
  all_goals exact .refl s

theorem tame_loseCannon (c : CannonId) (s : State) : s.Tame (loseCannon c s) := by
  refine tame_ite (fun _ => ?_) fun _ => .refl s
  dsimp only
  have hpaid : s.Tame (match (s.cannon c).burst with
      | some b => releaseWithDraw b.source b.planned b.planned s
      | none => s) := by
    split
    · exact .books rfl rfl rfl rfl
    · exact .refl s
  exact .after (tame_mapStations _ _) <| .after (tame_updStation _ _ _) <|
    .after (tame_updCannon c _ _ (.grounded rfl (.inr rfl))) hpaid

theorem tame_fieldDown (s : State) : s.Tame (fieldDown s) := by
  have hlost : s.Tame (eachCannon loseCannon s) := tame_foldl _ (fun t c => tame_loseCannon c t) _ s
  exact .after (tame_raise _ _) (hlost.trans (tame_commands [] _))

theorem tame_confirmAnyOrder (s : State) : s.Tame (confirmAnyOrder s) :=
  (tame_shuffle _ s).trans (tame_foldl _ (fun t c => tame_confirmingClose c t) _ _)

theorem tame_fieldUp (s : State) : s.Tame (fieldUp s) := by
  have hclosed := (tame_confirmAnyOrder s).trans
    (tame_foldl (fun t c => if t.closeWaiting c then t else closeWithoutBurst c t)
      (fun t c => tame_ite (fun _ => .refl t) fun _ => tame_closeWithoutBurst c t) (confirmAnyOrder s).returning _)
  have htold := hclosed.trans (tame_raise (.fieldUp (confirmAnyOrder s).returning.length) _)
  exact .after (tame_settle _) (htold.trans (tame_dueCapacity _ _))

/-! ## Sampled records, machines, targets and the second (R8, R24, R69, R139) -/

/-- A cannon whose target is derived again keeps its burst, and its request unless it is withdrawn (R70, R71). -/
theorem tame_retarget (c : CannonId) (s : State) : s.Tame (retarget c s) := by
  refine tame_updCannon c _ s ?_
  dsimp only
  split <;> split <;> first | exact .sameBurst rfl rfl (.inl rfl) | exact .sameBurst rfl rfl (.inr rfl)

theorem tame_deriveAgain (cs : List CannonId) (s : State) : s.Tame (deriveAgain cs s) :=
  (tame_foldl _ (fun t c => tame_retarget c t) cs s).trans (tame_closeAnyOrder _ _)

theorem tame_deriveQuality (w : SourceId) (s : State) : s.Tame (deriveQuality w s) :=
  tame_ite (fun _ => .refl s) fun _ => .books rfl rfl rfl rfl

theorem tame_levelEvent (w : SourceId) (v : Nat) (s : State) : s.Tame (levelEvent w v s) := by
  have htold : s.Tame (s.updSource w fun x => { x with estimate := some (v * 1000) }) := .books rfl rfl rfl rfl
  unfold levelEvent
  dsimp only
  split
  · split
    · exact (htold.trans (tame_closeAnyOrder _ _)).trans (tame_raise _ _)
    · exact htold.trans (tame_closeAnyOrder _ _)
  · exact htold

theorem tame_directionSample (m : MastId) (d : Nat) (s : State) : s.Tame (directionSample m d s) :=
  tame_ite (fun _ => .books rfl rfl rfl rfl) fun _ => .after (tame_deriveAgain _ _) (.books rfl rfl rfl rfl)

theorem tame_applyRecord (role : NodeRole) (r : SampleRecord) (s : State) : s.Tame (applyRecord role r s) := by
  unfold applyRecord
  split
  case h_1 => exact .after (tame_deriveAgain _ _) (.books rfl rfl rfl rfl)
  case h_2 => exact tame_ite (fun _ => tame_directionSample _ _ s) fun _ => .refl s
  case h_3 => exact .books rfl rfl rfl rfl
  case h_4 => exact .after (tame_updZone _ _ _ rfl rfl) (.books rfl rfl rfl rfl)
  case h_5 => exact tame_levelEvent _ _ s
  case h_6 | h_7 => exact .after (tame_deriveQuality _ _) (.books rfl rfl rfl rfl)
  case h_8 => exact .refl s

theorem tame_applyRecords (role : NodeRole) (rs : List SampleRecord) (s : State) : s.Tame (applyRecords role rs s) :=
  tame_foldl _ (fun t r => tame_ite (fun _ => (tame_applyRecord role r t).trans (tame_settle _)) fun _ => .refl t) rs s

theorem tame_exclusionAfter (was : Bool) (z : ZoneId) (s : State) : s.Tame (exclusionAfter was z s) :=
  tame_ite (fun _ => tame_closeEach _ s) fun _ => .refl s

theorem tame_uncount (m : MachineId) (s : State) : s.Tame (uncount m s) := by
  unfold uncount
  split <;> first | exact .refl s | exact .books rfl rfl rfl rfl

theorem tame_machineFrame (m : MachineId) (kind : MachineKind) (activity : Activity) (zone : Option ZoneId) (s : State) :
    s.Tame (machineFrame m kind activity zone s) := by
  cases zone with
  | none => exact (tame_uncount m s).trans (.books rfl rfl rfl rfl)
  | some z => exact .after (tame_exclusionAfter _ z _) (.after (t := uncount m s) (.books rfl rfl rfl rfl) (tame_uncount m s))

theorem tame_clearMachineOf (m : MachineId) (s : State) : s.Tame (clearMachineOf m s) :=
  tame_ite (fun _ => .refl s) fun _ => (tame_uncount m s).trans (.books rfl rfl rfl rfl)

/-- A second counts and runs timers, and changes no class, request, risk or band (R24, R103). -/
theorem tame_secondEvent (s : State) : s.Tame (secondEvent s) := by
  have hc : ∀ c, (secondEvent s).cannon c = (s.cannon c).tickTimers.countOpen := fun c => by
    rw [secondEvent_eq]; exact vector_map_get _ _ _
  have hz : ∀ z, (secondEvent s).zone z =
      { s.zone z with timer := (s.zone z).timer.map fun t => { t with remaining := t.remaining - 1 } } := fun z => by
    rw [secondEvent_eq]; exact vector_map_get _ _ _
  have hcalm : ∀ c, (s.cannon c).Calms ((secondEvent s).cannon c) := by
    intro c
    rw [hc]
    refine .sameClass id ?_ (.inr rfl)
    simp only [Cannon.countOpen, Cannon.tickTimers, Option.map_map]
    refine congrArg (fun f => (s.cannon c).burst.map f) (funext fun b => ?_)
    simp only [Function.comp]
    split <;> rfl
  refine ⟨by rw [secondEvent_eq]; rfl, by rw [secondEvent_eq]; rfl, fun z => by rw [hz]; exact ⟨rfl, rfl⟩,
    fun _ c => (hcalm c).flight, fun c => (hcalm c).routine, fun c => (hcalm c).asks⟩

end Sys2Proof.Machine
end

section
namespace Sys2Proof.Machine

/-! ## Entries that are read are in range (R184) -/

theorem checked_eq_some {α : Type} {e x : α} {good : Bool} : checked e good = some x ↔ good = true ∧ e = x := by
  cases good <;> simp [checked]

theorem zoneEntry_ok_of_read {l : List Byte} {e : ZoneEntry} (h : readZoneEntry l = some e) : e.ok = true := by
  simp only [readZoneEntry, Option.bind_eq_bind, Option.bind_eq_some_iff, checked_eq_some] at h
  obtain ⟨_, _, _, _, _, _, _, _, _, _, _, _, _, _, hok, rfl⟩ := h
  exact hok

theorem profile_ok_of_read {l : List Byte} {e : Profile} (h : readProfile l = some e) : e.ok = true := by
  obtain ⟨hok, rfl⟩ := checked_eq_some.mp h
  exact hok

theorem cannonEntry_ok_of_read {l : List Byte} {e : CannonEntry} (h : readCannonEntry l = some e) : e.ok = true := by
  simp only [readCannonEntry, Option.bind_eq_bind, Option.bind_eq_some_iff, checked_eq_some] at h
  obtain ⟨_, _, _, _, _, _, _, _, hok, rfl⟩ := h
  exact hok

theorem coverage_ok_of_read {l : List Byte} {e : Coverage} (h : readCoverage l = some e) : e.ok = true := by
  simp only [readCoverage, Option.bind_eq_bind, Option.bind_eq_some_iff, checked_eq_some] at h
  obtain ⟨_, _, _, _, hok, rfl⟩ := h
  exact hok

theorem pattern_ok_of_read {l : List Byte} {e : Pattern} (h : readPattern l = some e) : e.ok = true := by
  obtain ⟨hok, rfl⟩ := checked_eq_some.mp h
  exact hok

theorem stationEntry_ok_of_read {l : List Byte} {e : StationEntry} (h : readStationEntry l = some e) : e.ok = true := by
  simp only [readStationEntry, Option.bind_eq_bind, Option.bind_eq_some_iff, checked_eq_some] at h
  obtain ⟨_, _, hok, rfl⟩ := h
  exact hok

theorem sourceEntry_ok_of_read {l : List Byte} {e : SourceEntry} (h : readSourceEntry l = some e) : e.ok = true := by
  simp only [readSourceEntry, Option.bind_eq_bind, Option.bind_eq_some_iff, checked_eq_some] at h
  obtain ⟨_, _, _, _, hok, rfl⟩ := h
  exact hok

theorem settings_ok_of_read {l : List Byte} {e : Settings} (h : readSettings l = some e) : e.ok = true := by
  simp only [readSettings, Option.bind_eq_bind, Option.bind_eq_some_iff, checked_eq_some] at h
  obtain ⟨_, _, hok, rfl⟩ := h
  exact hok

/-! ## The configuration stays in range (R3, R184, R187) -/

/-- Every entry of a table is in range after one in range is written. -/
theorem all_updAt {α : Type} {n : Nat} (v : Vector α n) (i : Fin n) (e : α) (p : α → Bool) (hv : v.all p = true)
    (he : p e = true) : (updAt v i fun _ => e).all p = true := by
  rw [Vector.all_eq_true] at hv ⊢
  intro j hj
  rw [updAt_getElem]
  split
  · exact he
  · exact hv j hj

/-- The checks of R187, table by table. -/
structure Tables.InRange (t : Tables) : Prop where
  nodes : nodeMapUnique t.nodeMap = true
  zones : t.zones.all ZoneEntry.ok = true
  profiles : t.profiles.all Profile.ok = true
  cannons : t.cannons.all CannonEntry.ok = true
  coverage : t.coverage.all Coverage.ok = true
  patterns : t.patterns.all Pattern.ok = true
  stations : t.stations.all StationEntry.ok = true
  sources : t.sources.all SourceEntry.ok = true
  settings : t.settings.ok = true

theorem tables_ok_iff (t : Tables) : t.ok = true ↔ t.InRange := by
  simp only [Tables.ok, Bool.and_eq_true]
  exact ⟨fun ⟨⟨⟨⟨⟨⟨⟨⟨h1, h2⟩, h3⟩, h4⟩, h5⟩, h6⟩, h7⟩, h8⟩, h9⟩ => ⟨h1, h2, h3, h4, h5, h6, h7, h8, h9⟩,
    fun h => ⟨⟨⟨⟨⟨⟨⟨⟨h.nodes, h.zones⟩, h.profiles⟩, h.cannons⟩, h.coverage⟩, h.patterns⟩, h.stations⟩, h.sources⟩, h.settings⟩⟩

theorem Tables.InRange.withNodes {t : Tables} (h : t.InRange) {v : Vector NodeRole 239} (hv : nodeMapUnique v = true) :
    { t with nodeMap := v }.InRange :=
  ⟨hv, h.zones, h.profiles, h.cannons, h.coverage, h.patterns, h.stations, h.sources, h.settings⟩

theorem Tables.InRange.withZone {t : Tables} (h : t.InRange) (z : ZoneId) {e : ZoneEntry} (he : e.ok = true) :
    { t with zones := updAt t.zones z fun _ => e }.InRange :=
  ⟨h.nodes, all_updAt _ z e _ h.zones he, h.profiles, h.cannons, h.coverage, h.patterns, h.stations, h.sources, h.settings⟩

theorem Tables.InRange.withProfile {t : Tables} (h : t.InRange) (p : ProfileId) {e : Profile} (he : e.ok = true) :
    { t with profiles := updAt t.profiles p fun _ => e }.InRange :=
  ⟨h.nodes, h.zones, all_updAt _ p e _ h.profiles he, h.cannons, h.coverage, h.patterns, h.stations, h.sources, h.settings⟩

theorem Tables.InRange.withCannon {t : Tables} (h : t.InRange) (c : CannonId) {e : CannonEntry} (he : e.ok = true) :
    { t with cannons := updAt t.cannons c fun _ => e }.InRange :=
  ⟨h.nodes, h.zones, h.profiles, all_updAt _ c e _ h.cannons he, h.coverage, h.patterns, h.stations, h.sources, h.settings⟩

theorem Tables.InRange.withCoverage {t : Tables} (h : t.InRange) (i : Fin 768) {e : Coverage} (he : e.ok = true) :
    { t with coverage := updAt t.coverage i fun _ => e }.InRange :=
  ⟨h.nodes, h.zones, h.profiles, h.cannons, all_updAt _ i e _ h.coverage he, h.patterns, h.stations, h.sources, h.settings⟩

theorem Tables.InRange.withPattern {t : Tables} (h : t.InRange) (p : PatternId) {e : Pattern} (he : e.ok = true) :
    { t with patterns := updAt t.patterns p fun _ => e }.InRange :=
  ⟨h.nodes, h.zones, h.profiles, h.cannons, h.coverage, all_updAt _ p e _ h.patterns he, h.stations, h.sources, h.settings⟩

theorem Tables.InRange.withStation {t : Tables} (h : t.InRange) (g : StationId) {e : StationEntry} (he : e.ok = true) :
    { t with stations := updAt t.stations g fun _ => e }.InRange :=
  ⟨h.nodes, h.zones, h.profiles, h.cannons, h.coverage, h.patterns, all_updAt _ g e _ h.stations he, h.sources, h.settings⟩

theorem Tables.InRange.withSource {t : Tables} (h : t.InRange) (w : SourceId) {e : SourceEntry} (he : e.ok = true) :
    { t with sources := updAt t.sources w fun _ => e }.InRange :=
  ⟨h.nodes, h.zones, h.profiles, h.cannons, h.coverage, h.patterns, h.stations, all_updAt _ w e _ h.sources he, h.settings⟩

theorem Tables.InRange.withSettings {t : Tables} (h : t.InRange) {e : Settings} (he : e.ok = true) :
    { t with settings := e }.InRange :=
  ⟨h.nodes, h.zones, h.profiles, h.cannons, h.coverage, h.patterns, h.stations, h.sources, he⟩

/-- A role that no entry holds, or NONE, may be written anywhere in the node map (R3). -/
theorem nodeMapUnique_updAt (m : Vector NodeRole 239) (i : Fin 239) (r : NodeRole) (hm : nodeMapUnique m = true)
    (hr : r ≠ .none → r ∉ m.toList) : nodeMapUnique (updAt m i fun _ => r) = true := by
  have hlist : (updAt m i fun _ => r).toList = m.toList.set i.val r := Vector.toList_set i.isLt
  have hi : i.val < m.toList.length := by simp
  have hrest : ((m.toList.eraseIdx i.val).filter (· ≠ .none)).Nodup :=
    (of_decide_eq_true hm).sublist ((List.eraseIdx_sublist _ _).filter _)
  have hperm : (m.toList.set i.val r).Perm (r :: m.toList.eraseIdx i.val) := by
    rw [List.set_eq_take_append_cons_drop, if_pos hi, List.eraseIdx_eq_take_drop_succ]
    exact List.perm_middle
  have hnew : ((r :: m.toList.eraseIdx i.val).filter (· ≠ .none)).Nodup := by
    by_cases hn : r = .none
    · simpa [hn] using hrest
    · rw [List.filter_cons_of_pos (by simpa using hn), List.nodup_cons]
      exact ⟨fun hmem => hr hn ((List.eraseIdx_sublist _ _).subset (List.mem_of_mem_filter hmem)), hrest⟩
  unfold nodeMapUnique
  rw [hlist, decide_eq_true_iff]
  exact (hperm.filter _).nodup_iff.mpr hnew

/-! ## The law of R53 after banding (R52, R53) -/

/-- The bands are told apart by their ranks (R52). -/
theorem rank_injective {b c : Band} (h : b.rank = c.rank) : b = c := by
  cases b <;> cases c <;> simp [Band.rank] at h ⊢

/-- The band that R52 gives satisfies the law of R53. -/
theorem bandHeld_of_bandAfter (x : Zone) (p : Profile) (b b' : Band) (hr : x.risk ≤ 1000) (h : p.BandAfter x.risk b b') :
    { x with band := b' }.BandHeld p := by
  obtain ⟨-, hreach, habove⟩ | ⟨habove, hholds, rfl⟩ | ⟨habove, hdown, hlow, hholds, hbetween⟩ := h
  · refine ⟨hr, Nat.le_add_right_of_le hreach, ?_⟩
    cases b' <;> rintro t ⟨⟩
    · exact habove .watch (by decide)
    · exact habove .act (by decide)
    · exact habove .severe (by decide)
  · refine ⟨hr, hholds, ?_⟩
    cases b' <;> rintro t ⟨⟩
    · exact habove .watch (by decide)
    · exact habove .act (by decide)
    · exact habove .severe (by decide)
  · have hnext : ∀ c : Band, b'.rank < c.rank → c.rank ≤ b.rank → x.risk < p.threshold c := fun c hc hcb => by
      obtain hlt | heq := Nat.lt_or_eq_of_le hcb
      · exact Nat.lt_of_le_of_lt (Nat.le_add_right _ _) (hbetween c hc hlt)
      · rw [rank_injective heq]; exact Nat.lt_of_le_of_lt (Nat.le_add_right _ _) hdown
    refine ⟨hr, hholds, ?_⟩
    cases b' <;> rintro t ⟨⟩
    · exact hnext .watch (by decide) hlow
    · exact hnext .act (by decide) hlow
    · exact hnext .severe (by decide) hlow

/-- A zone at risk 0 and CALM satisfies the law for a profile in range (R41, R53). -/
theorem bandHeld_of_calm (x : Zone) (p : Profile) (hr : x.risk = 0) (hb : x.band = .calm) (hp : p.ok = true) :
    x.BandHeld p := by
  have htw : 1 ≤ p.tw := (of_decide_eq_true hp).1
  unfold Zone.BandHeld
  rw [hr, hb]
  exact ⟨Nat.zero_le _, Nat.zero_le _, by rintro t ⟨⟩; exact htw⟩

/-- A configuration in range has its profiles in range. -/
theorem profileOf_ok {s : State} (h : s.cfg.ok = true) (z : ZoneId) : (s.profileOf z).ok = true :=
  Vector.all_eq_true.mp ((tables_ok_iff _).mp h).profiles _ _

/-- Every zone at risk 0 and CALM satisfies the law of R53 in a configuration in range. -/
theorem bandsHeld_of_calm {s : State} (h : s.cfg.ok = true) (hz : ∀ z, (s.zone z).risk = 0 ∧ (s.zone z).band = .calm) :
    s.BandsHeld := fun z => bandHeld_of_calm _ _ (hz z).1 (hz z).2 (profileOf_ok h z)

/-- The law is about the zones' risks and bands and their profiles. -/
theorem bandHeld_of_same {x y : Zone} {p q : Profile} (hr : y.risk = x.risk) (hb : y.band = x.band) (hp : q = p)
    (h : x.BandHeld p) : y.BandHeld q := by
  unfold Zone.BandHeld at h ⊢
  rwa [hr, hb, hp]

/-- Every zone's risk is in range, and the law of R53 holds of the zones that `held` allows. -/
structure State.BandsHeldOn (s : State) (held : ZoneId → Prop) : Prop where
  risk : ∀ z, (s.zone z).risk ≤ 1000
  law : ∀ z, held z → (s.zone z).BandHeld (s.profileOf z)

theorem State.BandsHeld.on {s : State} (h : s.BandsHeld) (held : ZoneId → Prop) : s.BandsHeldOn held :=
  ⟨fun z => (h z).1, fun z _ => h z⟩

/-! ## Re-banding any zones (R41, R52, R54, R173) -/

/-- The zones of the list whose band the re-banding changes. -/
def State.rebanding (s : State) (zs : List ZoneId) : List ZoneId := zs.filter fun z => s.nextBand z ≠ (s.zone z).band

/-- What a re-banding leaves: each zone's band, and the mode and notices by whether one of the zones wakes dispatch (R41, R52, R54,
R173, R188). -/
structure State.RebandedAll (s t : State) (zs : List ZoneId) : Prop where
  zones : ∀ y, t.zone y = if y ∈ zs then { s.zone y with band := s.nextBand y } else s.zone y
  state : ∃ zones mode lastChange notices choices choiceCount, t = { s with
    zones := zones, mode := mode, lastChange := lastChange, notices := notices
    choices := choices, choiceCount := choiceCount }
  quiet : (∀ z ∈ s.rebanding zs, s.wakes z (s.nextBand z) = false) →
    t.mode = s.mode ∧ t.lastChange = s.lastChange ∧
    ∃ l : List Report, l.Perm ((s.rebanding zs).map fun z => Report.bandChange z (s.nextBand z) (s.zone z).risk) ∧
      t.notices = l.foldl (fun k r => k.place r s.stamp) s.notices
  waking : (∃ z ∈ s.rebanding zs, s.wakes z (s.nextBand z) = true) →
    t.mode = .run ∧ t.lastChange = some { previous := s.mode, cause := .wake } ∧
    ∃ z ∈ s.rebanding zs, s.wakes z (s.nextBand z) = true ∧
      ∃ l : List Report,
        l.Perm ((s.rebanding zs).map (fun z => Report.bandChange z (s.nextBand z) (s.zone z).risk) ++
          [.wake z (s.nextBand z), .dispatchMode .run .watch .wake]) ∧
        t.notices = l.foldl (fun k r => k.place r s.stamp) s.notices

/-- Re-banding changes zones alone before its notices. -/
theorem foldl_band_state (zs : List ZoneId) (band : ZoneId → Band) (s : State) :
    ∃ zones, zs.foldl (fun t z => t.updZone z fun x => { x with band := band z }) s = { s with zones := zones } := by
  induction zs generalizing s with
  | nil => exact ⟨s.zones, rfl⟩
  | cons z zs ih =>
    obtain ⟨zones, h⟩ := ih (s.updZone z fun x => { x with band := band z })
    exact ⟨zones, h⟩

/-- The bands that a re-banding writes to the zones it changes. -/
theorem zone_rebanding (zs : List ZoneId) (hzs : zs.Nodup) (s t : State) (ht : t.zones = s.zones) (y : ZoneId) :
    ((s.rebanding zs).foldl (fun t z => t.updZone z fun x => { x with band := s.nextBand z }) t).zone y =
      if y ∈ zs then { s.zone y with band := s.nextBand y } else s.zone y := by
  have hty : t.zone y = s.zone y := congrArg (fun v : Vector Zone 32 => v[y]) ht
  rw [State.rebanding, foldl_band _ (hzs.filter _) s.nextBand t y, hty]
  by_cases hy : y ∈ zs
  · by_cases hb : s.nextBand y = (s.zone y).band
    · simp [hy, hb]
    · simp [hy, hb]
  · simp [hy]

theorem rebandAll_rebandedAll (zs : List ZoneId) (hzs : zs.Nodup) (s : State) : s.RebandedAll (rebandAll zs s) zs := by
  have hrun : rebandAll zs s =
      let reports := (s.rebanding zs).map fun z => Report.bandChange z (s.nextBand z) (s.zone z).risk
      let waking := shuffle ((s.rebanding zs).filter fun z => s.wakes z (s.nextBand z)) s
      let banded := (s.rebanding zs).foldl (fun t z => t.updZone z fun x => { x with band := s.nextBand z }) waking.2
      match waking.1 with
      | [] => raiseAll reports banded
      | z :: _ => raiseAll (reports ++ [.wake z (s.nextBand z), .dispatchMode .run .watch .wake]) (changeMode .run .wake banded) :=
    rfl
  obtain ⟨cs, n, hshuffled⟩ := shuffle_state ((s.rebanding zs).filter fun z => s.wakes z (s.nextBand z)) s
  have hmem : ∀ z, z ∈ (shuffle ((s.rebanding zs).filter fun z => s.wakes z (s.nextBand z)) s).1 ↔
      z ∈ s.rebanding zs ∧ s.wakes z (s.nextBand z) = true := fun z => by
    rw [(shuffle_perm _ s).mem_iff, List.mem_filter]
  obtain ⟨zones, hbanded⟩ := foldl_band_state (s.rebanding zs) s.nextBand { s with choices := cs, choiceCount := n }
  have hzone := zone_rebanding zs hzs s { s with choices := cs, choiceCount := n } rfl
  rw [hrun]
  dsimp only
  rw [hshuffled]
  rw [hbanded] at hzone ⊢
  split
  · rename_i hnil
    have hnone : ∀ z ∈ s.rebanding zs, s.wakes z (s.nextBand z) ≠ true := fun z hz hw => by
      have := (hmem z).mpr ⟨hz, hw⟩
      rw [hnil] at this
      cases this
    obtain ⟨l, cs', n', hperm, hraised⟩ := raiseAll_eq
      ((s.rebanding zs).map fun z => Report.bandChange z (s.nextBand z) (s.zone z).risk)
      { s with zones := zones, choices := cs, choiceCount := n }
    rw [hraised]
    exact ⟨hzone, ⟨_, _, _, _, _, _, rfl⟩, fun _ => ⟨rfl, rfl, l, hperm, rfl⟩,
      fun ⟨z, hz, hw⟩ => absurd hw (hnone z hz)⟩
  · rename_i z rest hcons
    obtain ⟨hz, hw⟩ := (hmem z).mp (by rw [hcons]; exact List.mem_cons_self)
    obtain ⟨l, cs', n', hperm, hraised⟩ := raiseAll_eq
      ((s.rebanding zs).map (fun z => Report.bandChange z (s.nextBand z) (s.zone z).risk) ++
        [.wake z (s.nextBand z), .dispatchMode .run .watch .wake])
      (changeMode .run .wake { s with zones := zones, choices := cs, choiceCount := n })
    rw [hraised]
    exact ⟨hzone, ⟨_, _, _, _, _, _, rfl⟩, fun h => absurd hw (by rw [h z hz]; decide),
      fun _ => ⟨rfl, rfl, z, hz, hw, l, hperm, rfl⟩⟩

/-- After it the law of R53 holds of the zones re-banded, and of the others as before. -/
theorem bandsHeld_rebandAll (zs : List ZoneId) (hzs : zs.Nodup) (s : State) (h : s.BandsHeldOn (· ∉ zs)) :
    (rebandAll zs s).BandsHeld := by
  have hreb := rebandAll_rebandedAll zs hzs s
  obtain ⟨zones, mode, last, notices, cs, n, hstate⟩ := hreb.state
  intro z
  have hprofile : (rebandAll zs s).profileOf z = s.profileOf z := by rw [hstate]; rfl
  rw [hprofile, hreb.zones]
  split
  · exact bandHeld_of_bandAfter _ _ _ _ (h.risk z) (decideBand_bandAfter _ _ _)
  · exact h.law z ‹_›

/-- The mode after it is RUN where it is not the mode before (R173). -/
theorem mode_rebandAll (zs : List ZoneId) (hzs : zs.Nodup) (s : State) :
    (rebandAll zs s).mode = .run ∨ (rebandAll zs s).mode = s.mode := by
  have hreb := rebandAll_rebandedAll zs hzs s
  by_cases hw : ∃ z ∈ s.rebanding zs, s.wakes z (s.nextBand z) = true
  · exact .inl (hreb.waking hw).1
  · exact .inr (hreb.quiet fun z hz => by simpa using fun e => hw ⟨z, hz, e⟩).1

end Sys2Proof.Machine
end

section
namespace Sys2Proof.Machine

/-! ## What keeps the laws of bands and modes (R53, R58, R172, R174) -/

/-- From `s` to `t` a configuration in range stays so with the law of R53, and the law of the dispatch modes holds on. -/
structure State.KeepsLaws (s t : State) : Prop where
  bands : s.cfg.ok = true → s.BandsHeld → t.cfg.ok = true ∧ t.BandsHeld
  modes : s.ModeHeld → t.ModeHeld

theorem State.KeepsLaws.refl (s : State) : s.KeepsLaws s := ⟨fun h k => ⟨h, k⟩, id⟩

theorem State.KeepsLaws.trans {s t u : State} (h : s.KeepsLaws t) (k : t.KeepsLaws u) : s.KeepsLaws u :=
  ⟨fun hok hb => k.bands (h.bands hok hb).1 (h.bands hok hb).2, fun hm => k.modes (h.modes hm)⟩

/-- The same, with the last change first. -/
theorem State.KeepsLaws.after {s t u : State} (k : t.KeepsLaws u) (h : s.KeepsLaws t) : s.KeepsLaws u := h.trans k

theorem keeps_ite {p : Prop} [Decidable p] {s a b : State} (ha : p → s.KeepsLaws a) (hb : ¬ p → s.KeepsLaws b) :
    s.KeepsLaws (if p then a else b) := by
  split
  · exact ha ‹_›
  · exact hb ‹_›

/-- The law of R53 is kept with the configuration, the risks and the bands. -/
theorem bands_of_same {s t : State} (hcfg : t.cfg = s.cfg)
    (hz : ∀ z, (t.zone z).risk = (s.zone z).risk ∧ (t.zone z).band = (s.zone z).band) (hok : s.cfg.ok = true)
    (hb : s.BandsHeld) : t.cfg.ok = true ∧ t.BandsHeld :=
  ⟨by rw [hcfg]; exact hok, fun z => bandHeld_of_same (hz z).1 (hz z).2
    (congrArg (fun g : Tables => g.profiles[g.zones[z].profile]) hcfg) (hb z)⟩

theorem bands_of_frame {s t : State} (h : s.DispatchFrame t) (hok : s.cfg.ok = true) (hb : s.BandsHeld) :
    t.cfg.ok = true ∧ t.BandsHeld :=
  bands_of_same h.cfg (fun z => by rw [State.zone, h.zones]; exact ⟨rfl, rfl⟩) hok hb

/-- In RUN the law of the modes asks nothing. -/
theorem modeHeld_of_run {t : State} (h : t.mode = .run) : t.ModeHeld := fun c => by
  rw [h]
  exact ⟨fun e => absurd e (by decide), fun e => absurd e (by decide)⟩

/-- Where every cannon is on the ground without a request the law of the modes holds in each. -/
theorem modeHeld_of_idle {t : State} (h : ∀ c, (t.cannon c).inFlight = false ∧ (t.cannon c).request = none) : t.ModeHeld :=
  fun c => ⟨fun _ => by rw [Cannon.flying, (h c).1, Bool.false_and], fun _ => h c⟩

/-- A tame change keeps the laws. -/
theorem State.Tame.keeps {s t : State} (h : s.Tame t) : s.KeepsLaws t := by
  refine ⟨bands_of_same h.cfg h.banding, fun hs c => ⟨fun hm => ?_, fun hm => ?_⟩⟩
  · rw [h.mode] at hm
    exact Bool.eq_false_iff.mpr fun e => Bool.eq_false_iff.mp ((hs c).1 hm) (h.routine c e)
  · rw [h.mode] at hm
    obtain ⟨hground, hnone⟩ := (hs c).2 hm
    exact ⟨Bool.eq_false_iff.mpr fun e => Bool.eq_false_iff.mp hground (h.flight hm c e),
      (h.asks c).elim id fun e => e.trans hnone⟩

/-- A change of other records alone keeps the laws. -/
theorem State.KeepsLaws.books {s t : State} (hcfg : t.cfg = s.cfg) (hmode : t.mode = s.mode) (hzones : t.zones = s.zones)
    (hcannons : t.cannons = s.cannons) : s.KeepsLaws t := (State.Tame.books hcfg hmode hzones hcannons).keeps

/-- Outside OFF requests are free to come, as long as no burst but FIRE comes into flight in HALT and WATCH (R172). -/
theorem keeps_of_requests {s t : State} (h : s.DispatchFrame t) (hoff : s.mode ≠ .off)
    (hr : s.mode = .halt ∨ s.mode = .watch → ∀ c, (t.cannon c).routine = true → (s.cannon c).routine = true) :
    s.KeepsLaws t := by
  refine ⟨bands_of_frame h, fun hs c => ⟨fun hm => ?_, fun hm => absurd (h.mode ▸ hm) hoff⟩⟩
  rw [h.mode] at hm
  exact Bool.eq_false_iff.mpr fun e => Bool.eq_false_iff.mp ((hs c).1 hm) (hr hm c e)

/-- What is done in RUN within the frame of dispatch keeps the laws. -/
theorem keeps_of_run {s t : State} (h : s.DispatchFrame t) (hm : s.mode = .run) : s.KeepsLaws t :=
  keeps_of_requests h (by rw [hm]; decide) (by rw [hm]; rintro (e | e) <;> cases e)

/-- A change to RUN keeps the laws where it keeps the configuration and the zones. -/
theorem keeps_to_run {s t : State} (hcfg : t.cfg = s.cfg) (hzones : t.zones = s.zones) (hm : t.mode = .run) : s.KeepsLaws t :=
  ⟨bands_of_same hcfg fun z => by rw [State.zone, hzones]; exact ⟨rfl, rfl⟩, fun _ => modeHeld_of_run hm⟩

/-- A written configuration keeps the laws where it stays in range and gives each zone the profile it had. -/
theorem keeps_updCfg (f : Tables → Tables) (s : State) (hok : s.cfg.InRange → (f s.cfg).InRange)
    (hp : ∀ z, (s.updCfg f).profileOf z = s.profileOf z) : s.KeepsLaws (s.updCfg f) :=
  ⟨fun h hb => ⟨(tables_ok_iff _).mpr (hok ((tables_ok_iff _).mp h)), fun z => bandHeld_of_same rfl rfl (hp z) (hb z)⟩, id⟩

/-! ## Slots (R92) -/

theorem keeps_slotStart (g : StationId) (s : State) : s.KeepsLaws (slotStart g s) := by
  have hwalked : s.Tame (walkWaiting g (eachCannon (takeOver g) (s.updStation g fun x =>
      { x with slot := x.slot + 1, slotTimer := some (s.stationEntry g).slotLength }))) :=
    .after (tame_walkWaiting g _) <| .after (tame_foldl _ (fun t c => tame_takeOver g c t) _ _) (tame_updStation g _ s)
  cases hm : s.mode with
  | run => exact keeps_of_run (frame_slotStart g s) hm
  | off => simp only [slotStart, hm]; exact hwalked.keeps
  | watch | halt =>
    simp only [slotStart, hm]
    exact (tame_ite (fun _ => hwalked.trans (tame_arbitrateFires g _)) fun _ => hwalked).keeps

/-! ## The station's commands (R74, R115, R166) -/

/-- An OPEN recorded as a request brings nothing into flight (R74). -/
theorem keeps_recordRequest (c : CannonId) (q : StationCommand) (s : State) (hoff : s.mode ≠ .off) :
    s.KeepsLaws (recordRequest c q s) := by
  have hdrop := tame_dropRequest c s
  refine keeps_of_requests ((frame_dropRequest c s).trans (frame_updCannon c _ _)) hoff fun _ d hd => hdrop.routine d ?_
  rw [recordRequest, State.cannon_updCannon] at hd
  split at hd
  · rename_i e; subst e; exact hd
  · exact hd

/-- The cannon with the burst that a conversion leaves, its running burst timer restarted (R115). -/
def Cannon.convertedTo (k : Cannon) (b : Burst) : Cannon :=
  { k with burst := some b, burstTimer := if k.state = .spraying then some b.duration else k.burstTimer }

/-- The class that a command converts a burst to (R115). -/
def StationCommand.cls (q : StationCommand) : BurstClass := if q.fire then .fire else .manual

theorem convert_eq (c : CannonId) (q : StationCommand) (b : Burst) (s : State) :
    convert c q b s = closeConverted c b q.cls
      ((dropRequest c (replaceCommit b.source b.planned (plannedDraw (s.cannonEntry c).flow q.duration) s)).updCannon c fun k =>
        k.convertedTo (b.converted q.cls q.priority q.duration (plannedDraw (s.cannonEntry c).flow q.duration))) := rfl

theorem frame_closeConverted (c : CannonId) (b : Burst) (cls : BurstClass) (s : State) :
    s.DispatchFrame (closeConverted c b cls s) := by
  unfold closeConverted
  split
  · exact frame_earlyClose c s
  · exact .refl s

/-- A burst converted to MANUAL is closed at once in HALT and WATCH (R172). -/
theorem closeConverted_manual (c : CannonId) (b : Burst) (s : State) (hm : s.mode = .halt ∨ s.mode = .watch) :
    closeConverted c b .manual s = earlyClose c s := if_pos ⟨rfl, hm.imp_right .inl⟩

theorem frame_convert (c : CannonId) (q : StationCommand) (b : Burst) (s : State) : s.DispatchFrame (convert c q b s) := by
  rw [convert_eq]
  exact (((frame_updSource _ _ s).trans (frame_dropRequest c _)).trans (frame_updCannon c _ _)).trans (frame_closeConverted c b _ _)

/-- A burst that a conversion leaves in flight is FIRE in HALT and WATCH, where one converted to MANUAL is closed (R115, R172). -/
theorem routine_convert (c : CannonId) (q : StationCommand) (b : Burst) (s : State) (hm : s.mode = .halt ∨ s.mode = .watch)
    (d : CannonId) (hd : ((convert c q b s).cannon d).routine = true) : (s.cannon d).routine = true := by
  have hdropped : s.Tame (dropRequest c (replaceCommit b.source b.planned (plannedDraw (s.cannonEntry c).flow q.duration) s)) :=
    .after (tame_dropRequest c _) (.books rfl rfl rfl rfl)
  refine hdropped.routine d ?_
  rw [convert_eq] at hd
  generalize dropRequest c (replaceCommit b.source b.planned (plannedDraw (s.cannonEntry c).flow q.duration) s) = u at hd hdropped ⊢
  by_cases hfire : q.fire = true
  · rw [closeConverted, if_neg (by simp [StationCommand.cls, hfire]), State.cannon_updCannon] at hd
    split at hd
    · simp [Cannon.routine, Cannon.flying, Cannon.convertedTo, Burst.converted, StationCommand.cls, hfire] at hd
    · exact hd
  · have hmanual : q.cls = .manual := by simp [StationCommand.cls, hfire]
    rw [hmanual, closeConverted_manual c b _ (by rw [State.updCannon_mode, hdropped.mode]; exact hm)] at hd
    by_cases e : d = c
    · subst e
      rw [Cannon.routine, Cannon.flying, earlyClose_inFlight] at hd
      cases hd
    · rwa [earlyClose_cannon_ne _ c d e, State.cannon_updCannon_ne _ _ _ _ e] at hd

theorem keeps_acceptOpen (c : CannonId) (q : StationCommand) (body : List Byte) (addressed : CannonId)
    (substitute : Option CannonId) (s : State) (hoff : s.mode ≠ .off) :
    s.KeepsLaws (acceptOpen c q body addressed substitute s) := by
  unfold acceptOpen
  split
  · exact keeps_ite (fun _ => keeps_of_requests (frame_convert c q _ s) hoff (routine_convert c q _ s))
      fun _ => (tame_raise _ s).keeps
  · exact keeps_ite (fun _ => (keeps_recordRequest c q s hoff).trans (tame_arbitrateFire c _).keeps)
      fun _ => keeps_recordRequest c q s hoff

theorem keeps_automaticCommand (c : CannonId) (body : List Byte) (addressed : CannonId) (substitute : Option CannonId)
    (s : State) : s.KeepsLaws (automaticCommand c body addressed substitute s) := by
  unfold automaticCommand
  split
  · exact (tame_raise _ s).keeps
  · split
    · exact (tame_manualClose c s).keeps
    · exact keeps_ite (fun _ => (tame_raise _ s).keeps) fun hoff => keeps_ite (fun _ => (tame_raise _ s).keeps) fun _ =>
        keeps_ite (fun _ => (tame_raise _ s).keeps) fun _ => keeps_acceptOpen c _ body addressed substitute s hoff

theorem keeps_substitutedCommand (c : CannonId) (f : Frame) (s : State) : s.KeepsLaws (substitutedCommand c f s) := by
  unfold substitutedCommand
  dsimp only
  split
  · exact (tame_raise _ s).keeps
  · split
    · exact (tame_raise _ s).keeps
    · exact keeps_ite (fun _ => keeps_automaticCommand _ _ c _ s) fun _ => (tame_raise _ s).keeps
    · split
      · exact (tame_updPort _ _ s).keeps
      · exact (tame_raise _ s).keeps

theorem keeps_admission (c : CannonId) (f : Frame) (s : State) : s.KeepsLaws (admission c f s) := by
  unfold admission
  split
  · exact (tame_raise _ s).keeps
  · split
    · exact (tame_updPort _ _ s).keeps
    · exact keeps_automaticCommand c _ c none s
    · exact keeps_substitutedCommand c f s

/-! ## Completed frames (R151 to R160) -/

theorem tame_frameError (p : Port) (k : FlagKind) (s : State) : s.Tame (frameError p k s) :=
  tame_ite (fun _ => .refl s) fun _ =>
    tame_ite (fun _ => tame_updPort p _ s) fun _ => (tame_updPort p _ s).trans (tame_raise _ _)

theorem tame_linkAlive (p : Port) (s : State) : s.Tame (linkAlive p s) := by
  have halive := tame_updPort p (fun x => { x with up := true, liveness := some s.settings.linkTimeout }) s
  unfold linkAlive
  dsimp only
  split
  · exact halive.trans (tame_fieldUp _)
  · exact halive
  · exact halive

theorem tame_linkExpiry (p : Port) (s : State) : s.Tame (linkExpiry p s) := by
  cases p with
  | field => exact (tame_updPort .field _ s).trans (tame_fieldDown _)
  | control => exact .books rfl rfl rfl rfl

theorem tame_timeFrame (day second : Nat) (s : State) : s.Tame (timeFrame day second s) := by
  rw [timeFrame_eq]
  exact .books rfl rfl rfl rfl

theorem tame_snoop (p : Port) (f : Frame) (s : State) : s.Tame (snoop p f s) := by
  cases p with
  | control =>
    obtain h | ⟨day, second, -, -, h⟩ := snoop_control_cases f s <;> rw [h]
    · exact .refl s
    · exact tame_timeFrame day second s
  | field =>
    unfold snoop
    dsimp only
    split
    · exact tame_ite (fun _ => tame_applyRecords _ _ s) fun _ => .refl s
    split
    · split
      · split
        · exact (tame_valveStatus _ _ _ s).trans (tame_settle _)
        · exact .refl s
      · split
        · exact (tame_pumpStatus _ _ _ s).trans (tame_settle _)
        · exact .refl s
      · exact .refl s
    split
    · split
      · exact (tame_machineFrame _ _ _ _ s).trans (tame_settle _)
      · exact .refl s
    · exact .refl s

theorem tame_ownFrame (p : Port) (f : Frame) (s : State) : s.Tame (ownFrame p f s) :=
  tame_ite (fun _ => tame_ite (fun _ => .books rfl rfl rfl rfl) fun _ => tame_frameError _ _ s) fun _ => .refl s

theorem keeps_passOn (p : Port) (f : Frame) (s : State) : s.KeepsLaws (passOn p f s) := by
  unfold passOn
  split
  · exact keeps_admission _ f s
  · exact (tame_updPort _ _ s).keeps

theorem keeps_completeFrame (p : Port) (f : Frame) (s : State) : s.KeepsLaws (completeFrame p f s) := by
  unfold completeFrame
  split
  · exact (tame_frameError p _ s).keeps
  · have halive := tame_linkAlive p s
    exact keeps_ite (fun _ => (halive.trans (tame_ownFrame p f _)).keeps) fun _ =>
      keeps_ite (fun _ => (halive.trans (tame_frameError p _ _)).keeps) fun _ =>
        (halive.trans (tame_snoop p f _)).keeps.trans (keeps_passOn p f _)

end Sys2Proof.Machine
end

section
namespace Sys2Proof.Machine

/-! ## Evaluations (R42 to R58) -/

theorem risk_le (s : State) (z : ZoneId) (wp : Nat) (sector : Sector) (m : Nat) : s.riskOf z wp sector m ≤ 1000 :=
  Nat.min_le_left _ _

/-- Re-banding leaves the cannons and wakes dispatch to RUN at most. -/
theorem modeHeld_rebandAll (zs : List ZoneId) (hzs : zs.Nodup) (s : State) (hs : s.ModeHeld) : (rebandAll zs s).ModeHeld := by
  obtain ⟨zones, mode, last, notices, cs, n, hstate⟩ := (rebandAll_rebandedAll zs hzs s).state
  obtain hrun | hsame := mode_rebandAll zs hzs s
  · exact modeHeld_of_run hrun
  · intro c
    rw [hsame, show (rebandAll zs s).cannon c = s.cannon c by rw [hstate]; rfl]
    exact hs c

/-- What is re-banded keeps the laws where the law of R53 holds of every other zone. -/
theorem keeps_rebandAll {zs : List ZoneId} {s t : State} (hzs : zs.Nodup) (hok : s.cfg.ok = true → t.cfg.ok = true)
    (hb : s.cfg.ok = true → s.BandsHeld → t.BandsHeldOn (· ∉ zs)) (hm : s.ModeHeld → t.ModeHeld) :
    s.KeepsLaws (rebandAll zs t) := by
  obtain ⟨zones, mode, last, notices, cs, n, hstate⟩ := (rebandAll_rebandedAll zs hzs t).state
  exact ⟨fun h hs => ⟨by rw [hstate]; exact hok h, bandsHeld_rebandAll zs hzs t (hb h hs)⟩,
    fun hs => modeHeld_rebandAll zs hzs t (hm hs)⟩

/-- A zone's risk is stored and its band decided from it (R51, R52). -/
theorem keeps_storeRisk (z : ZoneId) (w : Wind) (s : State) : s.KeepsLaws (rebandAll [z] (storeRisk z w s)) := by
  refine keeps_rebandAll (List.nodup_singleton z) id (fun _ hb => ⟨fun y => ?_, fun y hy => ?_⟩) id
  · rw [storeRisk, State.zone_updZone]
    split
    · exact risk_le _ _ _ _ _
    · exact (hb y).1
  · have hzone : (storeRisk z w s).zone y = s.zone y :=
      State.zone_updZone_ne _ _ _ _ fun e => hy (List.mem_singleton.mpr e)
    rw [hzone]
    exact hb y

/-- Outside OFF requests come and go; in OFF none does (R56 to R58). -/
theorem keeps_postOrWithdraw (z : ZoneId) (s : State) : s.KeepsLaws (postOrWithdraw z s) := by
  by_cases hoff : s.mode = .off
  · rw [postOrWithdraw, if_pos hoff]
    exact .refl s
  have hcannon : ∀ c, (postOrWithdraw z s).cannon c =
      s.afterPriority z c (priorityOf (s.zone z).band (s.zone z).uplift s.rainDeferral) := fun c => by
    rw [postOrWithdraw_eq]
    simp [State.cannon, hoff]
  have hposted : ∀ (k : Cannon) (p : Nat), (k.posted p z).state = k.state ∧ (k.posted p z).burst = k.burst := fun k p => by
    unfold Cannon.posted
    split <;> exact ⟨rfl, rfl⟩
  have hsame : ∀ c, ((postOrWithdraw z s).cannon c).state = (s.cannon c).state ∧
      ((postOrWithdraw z s).cannon c).burst = (s.cannon c).burst := fun c => by
    rw [hcannon]
    unfold State.afterPriority
    split
    · unfold State.afterPosting
      split
      · exact hposted _ _
      · exact ⟨rfl, rfl⟩
    · split <;> exact ⟨rfl, rfl⟩
  refine keeps_of_requests (by rw [postOrWithdraw_eq]; constructor <;> rfl) hoff fun _ c hc => ?_
  simpa only [Cannon.routine, Cannon.flying, Cannon.inFlight, hsame] using hc

theorem keeps_evaluate (z : ZoneId) (t : Nat) (s : State) : s.KeepsLaws (evaluate z t s) := by
  have hdried := tame_updZone z (fun x => x.evaporate s.evapRate t) s rfl rfl
  unfold evaluate
  dsimp only
  split
  · have hmarked := hdried.trans (tame_updZone z (fun x => { x with blind := true, forecastOnly := false }) _ rfl rfl)
    exact (tame_ite (fun _ => hmarked) fun _ => hmarked.trans (tame_raise _ _)).keeps
  · have hseen := tame_ite (p := ((s.updZone z fun x => x.evaporate s.evapRate t).zone z).blind = true)
      (fun _ => hdried.trans (tame_raise (.zoneBlind z false) _)) fun _ => hdried
    exact .after (keeps_postOrWithdraw z _) (.after (keeps_storeRisk z _ _) hseen.keeps)

theorem keeps_evaluationExpiry (z : ZoneId) (s : State) : s.KeepsLaws (evaluationExpiry z s) := by
  unfold evaluationExpiry
  split
  · exact .refl s
  · have hrestarted := tame_updZone z
      (fun x => { x with timer := some { remaining := s.settings.evalPeriod, period := s.settings.evalPeriod } }) s rfl rfl
    exact keeps_ite (fun _ => hrestarted.keeps) fun _ => hrestarted.keeps.trans (keeps_evaluate z _ _)

/-! ## Written entries (R184) -/

theorem tame_newlyWired (r : NodeRole) (s : State) : s.Tame (newlyWired r s) := by
  cases r
  case valve c => exact (tame_confirmingClose c s).trans (tame_closeUnknown c _)
  all_goals exact .refl s

theorem tame_rederive (old new : NodeRole) (s : State) : s.Tame (rederive old new s) :=
  (tame_shuffle _ s).trans (tame_foldl _ (fun t w => tame_deriveQuality w t) _ _)

theorem keeps_writeNode (i : Fin 239) (l : List Byte) (s t : State) (h : writeNode i l s = .ok t) : s.KeepsLaws t := by
  unfold writeNode at h
  dsimp only at h
  split at h
  · cases h
  rename_i r _
  split at h
  · cases h; exact .refl s
  split at h
  · cases h
  rename_i hfree
  split at h
  · cases h
  · cases h
    have hstored := keeps_updCfg (fun t => { t with nodeMap := updAt t.nodeMap i fun _ => r }) s
      (fun hold => hold.withNodes (nodeMapUnique_updAt _ i r hold.nodes fun hr hmem =>
        hfree ⟨hr, by simpa only [State.mapped, decide_eq_true_iff] using hmem⟩)) fun _ => rfl
    exact .after (tame_newlyWired r _).keeps (.after (tame_rederive _ r _).keeps hstored)

/-- A zone that becomes CALM at risk 0 satisfies the law of R53. -/
theorem keeps_calmZone (z : ZoneId) (f : Zone → Zone) (s : State) (hf : ∀ x, (f x).risk = 0 ∧ (f x).band = .calm) :
    s.KeepsLaws (s.updZone z f) := by
  refine ⟨fun hok hb => ⟨hok, fun y => ?_⟩, id⟩
  rw [State.zone_updZone]
  split
  · exact bandHeld_of_calm _ _ (hf _).1 (hf _).2 (profileOf_ok hok y)
  · exact hb y

theorem tame_withdraw (z : ZoneId) (s : State) : s.Tame (withdraw z s) := by
  refine tame_foldl _ (fun t c => tame_updCannon c _ t ?_) _ s
  split
  · exact .sameBurst rfl rfl (.inl rfl)
  · exact .refl _

/-- A disabled zone is CALM at risk 0 (R40). -/
theorem keeps_disableZone (z : ZoneId) (s : State) : s.KeepsLaws (disableZone z s) := by
  have hcleared := (tame_withdraw z s).keeps.trans (keeps_calmZone z (fun x =>
    { x with timer := none, blind := false, forecastOnly := false, uplift := false, risk := 0, band := .calm }) _
      fun _ => ⟨rfl, rfl⟩)
  exact keeps_ite (fun _ => hcleared) fun _ => hcleared.trans (tame_raise _ _).keeps

theorem keeps_enabledEffect (z : ZoneId) (was is : Bool) (s : State) : s.KeepsLaws (enabledEffect z was is s) := by
  unfold enabledEffect
  split
  · exact (tame_updZone z _ s rfl rfl).keeps
  · exact keeps_disableZone z s
  · exact .refl s
  · exact .refl s

end Sys2Proof.Machine
end

section
namespace Sys2Proof.Machine

/-! ## Zone and profile entries (R40, R41) -/

/-- The table of every cannon's record changed in one way. -/
theorem ofFn_cannon (s : State) (f : Cannon → Cannon) : (Vector.ofFn fun c => f (s.cannon c)) = s.cannons.map f :=
  vector_ext_fin fun c => by simp [State.cannon]

/-- Withdrawal, record by record (R57). -/
theorem withdraw_eq_map (z : ZoneId) (s : State) :
    withdraw z s = { s with
      cannons := s.cannons.map fun k => if k.request.any (·.ownedBy z) then { k with request := none, owed := 0 } else k } := by
  have hall := ofFn_cannon s fun k => if k.request.any (·.ownedBy z) then { k with request := none, owed := 0 } else k
  rw [withdraw_eq, ← hall]

/-- A disabled zone is cleared and its requests withdrawn, with BAND-CHANGE where it was not CALM (R40). -/
theorem disableZone_eq (z : ZoneId) (s : State) :
    disableZone z s = { s with
      zones := updAt s.zones z fun x =>
        { x with timer := none, blind := false, forecastOnly := false, uplift := false, risk := 0, band := .calm }
      cannons := s.cannons.map fun k => if k.request.any (·.ownedBy z) then { k with request := none, owed := 0 } else k
      notices := if (s.zone z).band = .calm then s.notices else s.notices.place (.bandChange z .calm 0) s.stamp } := by
  unfold disableZone
  rw [withdraw_eq_map]
  split <;> rfl

/-- Enabling or disabling a zone leaves the configuration and the other zones, and its risk or risk 0 (R40). -/
theorem enabledEffect_zone (z : ZoneId) (was is : Bool) (s : State) :
    (enabledEffect z was is s).cfg = s.cfg ∧ (∀ y, y ≠ z → (enabledEffect z was is s).zone y = s.zone y) ∧
    (((enabledEffect z was is s).zone z).risk = (s.zone z).risk ∨ ((enabledEffect z was is s).zone z).risk = 0) := by
  unfold enabledEffect
  split
  · exact ⟨rfl, fun y hy => State.zone_updZone_ne _ _ _ _ hy, .inl (by rw [enableZone, State.zone_updZone_self])⟩
  · rw [disableZone_eq]
    exact ⟨rfl, fun y hy => updAt_get_ne _ _ _ _ hy, .inr (congrArg Zone.risk (updAt_get_self s.zones z _))⟩
  · exact ⟨rfl, fun _ _ => rfl, .inl rfl⟩
  · exact ⟨rfl, fun _ _ => rfl, .inl rfl⟩

theorem profileOf_writtenZone (z y : ZoneId) (e : ZoneEntry) (s : State)
    (h : y ≠ z ∨ e.profile = (s.zoneEntry z).profile) :
    (s.updCfg fun t => { t with zones := updAt t.zones z fun _ => e }).profileOf y = s.profileOf y := by
  have hentry : (updAt s.cfg.zones z fun _ => e)[y].profile = s.cfg.zones[y].profile := by
    rw [updAt_get]
    split
    · rename_i hy; subst hy; exact h.resolve_left fun hne => hne rfl
    · rfl
  exact congrArg (fun p : ProfileId => s.cfg.profiles[p]) hentry

/-- A written zone entry keeps the laws: a new profile number brings a re-banding (R40, R53). -/
theorem keeps_writeZoneEntry (z : ZoneId) (l : List Byte) (s t : State) (h : writeZoneEntry z l s = .ok t) : s.KeepsLaws t := by
  unfold writeZoneEntry at h
  split at h
  · cases h
  rename_i e hread
  have hok := zoneEntry_ok_of_read hread
  dsimp only at h
  split at h
  · cases h; exact .refl s
  cases h
  refine .after (tame_exclusionAfter _ z _).keeps ?_
  by_cases hp : e.profile = (s.zoneEntry z).profile
  · rw [if_pos hp]
    exact .after (keeps_enabledEffect z _ _ _)
      (keeps_updCfg _ s (fun hold => hold.withZone z hok) fun y => profileOf_writtenZone z y e s (.inr hp))
  · rw [if_neg hp]
    obtain ⟨hcfg, hothers, hrisk⟩ := enabledEffect_zone z (s.zoneEntry z).enabled e.enabled
      (s.updCfg fun t => { t with zones := updAt t.zones z fun _ => e })
    refine keeps_rebandAll (List.nodup_singleton z) (fun hs => ?_) (fun _ hb => ⟨fun y => ?_, fun y hy => ?_⟩)
      fun hs => (keeps_enabledEffect z _ _ _).modes hs
    · rw [hcfg]
      exact (tables_ok_iff _).mpr (((tables_ok_iff _).mp hs).withZone z hok)
    · by_cases hy : y = z
      · subst hy
        obtain hsame | hzero := hrisk
        · rw [hsame]; exact (hb y).1
        · rw [hzero]; exact Nat.zero_le _
      · rw [hothers y hy]; exact (hb y).1
    · have hyz : y ≠ z := fun e => hy (List.mem_singleton.mpr e)
      rw [hothers y hyz]
      exact bandHeld_of_same rfl rfl ((congrArg (fun g : Tables => g.profiles[g.zones[y].profile]) hcfg).trans
        (profileOf_writtenZone z y e s (.inl hyz))) (hb y)

theorem zonesUsing_nodup (s : State) (p : ProfileId) : (s.zonesUsing p).Nodup := (List.nodup_finRange 32).filter _

theorem mem_zonesUsing {s : State} {p : ProfileId} {z : ZoneId} : z ∈ s.zonesUsing p ↔ (s.zoneEntry z).profile = p := by
  simp [State.zonesUsing]

/-- A written profile keeps the laws, since every zone that uses it is re-banded (R41, R53). -/
theorem keeps_writeProfileEntry (p : ProfileId) (l : List Byte) (s t : State) (h : writeProfileEntry p l s = .ok t) :
    s.KeepsLaws t := by
  unfold writeProfileEntry at h
  split at h
  · cases h
  rename_i e hread
  cases h
  refine keeps_rebandAll (zonesUsing_nodup _ p)
    (fun hs => (tables_ok_iff _).mpr (((tables_ok_iff _).mp hs).withProfile p (profile_ok_of_read hread)))
    (fun _ hb => ⟨fun y => (hb y).1, fun y hy => ?_⟩) id
  have hne : (s.zoneEntry y).profile ≠ p := fun e => hy (mem_zonesUsing.mpr e)
  exact bandHeld_of_same rfl rfl (updAt_get_ne s.cfg.profiles p _ _ hne) (hb y)

/-! ## The other entries (R64, R68, R78, R91, R121, R167, R184) -/

theorem keeps_writeCannonEntry (c : CannonId) (l : List Byte) (s t : State) (h : writeCannonEntry c l s = .ok t) :
    s.KeepsLaws t := by
  unfold writeCannonEntry at h
  split at h
  · cases h
  rename_i e hread
  dsimp only at h
  split at h
  · cases h; exact .refl s
  split at h
  · cases h
  split at h
  · cases h
  cases h
  have hstored := keeps_updCfg (fun t => { t with cannons := updAt t.cannons c fun _ => e }) s
    (fun hold => hold.withCannon c (cannonEntry_ok_of_read hread)) fun _ => rfl
  have hchanged := keeps_ite (p := e.mode = (s.cannonEntry c).mode) (fun _ => hstored) fun _ =>
    hstored.trans (tame_takeMode (s.cannonEntry c).mode e.mode c _).keeps
  exact keeps_ite (fun _ => hchanged) fun _ => hchanged.trans (tame_deriveAgain [c] _).keeps

theorem keeps_writeCoverageEntry (i : Fin 768) (l : List Byte) (s t : State) (h : writeCoverageEntry i l s = .ok t) :
    s.KeepsLaws t := by
  unfold writeCoverageEntry at h
  split at h
  · cases h
  rename_i e hread
  cases h
  exact .after (tame_deriveAgain _ _).keeps
    (keeps_updCfg _ s (fun hold => hold.withCoverage i (coverage_ok_of_read hread)) fun _ => rfl)

theorem keeps_writePatternEntry (p : PatternId) (l : List Byte) (s t : State) (h : writePatternEntry p l s = .ok t) :
    s.KeepsLaws t := by
  unfold writePatternEntry at h
  split at h
  · cases h
  rename_i e hread
  cases h
  have hstored := keeps_updCfg (fun t => { t with patterns := updAt t.patterns p fun _ => e }) s
    (fun hold => hold.withPattern p (pattern_ok_of_read hread)) fun _ => rfl
  refine hstored.trans (State.Tame.ofFrame (by constructor <;> rfl) fun c => ?_).keeps
  have haim : ((s.cannons.map fun k => k.aimReset p)[c]) = (s.cannon c).aimReset p := vector_map_get _ _ _
  refine (congrArg (Cannon.Calms (s.cannon c)) haim).mpr ?_
  unfold Cannon.aimReset
  split
  · exact .sameBurst rfl rfl (.inr rfl)
  · exact .refl _

theorem keeps_writeStationEntry (g : StationId) (l : List Byte) (s t : State) (h : writeStationEntry g l s = .ok t) :
    s.KeepsLaws t := by
  unfold writeStationEntry at h
  split at h
  · cases h
  rename_i e hread
  dsimp only at h
  split at h
  · cases h; exact .refl s
  split at h
  · cases h
  cases h
  have hstored := keeps_updCfg (fun t => { t with stations := updAt t.stations g fun _ => e }) s
    (fun hold => hold.withStation g (stationEntry_ok_of_read hread)) fun _ => rfl
  exact keeps_ite (fun _ => hstored.trans (tame_capacityDue g _).keeps) fun _ => hstored

theorem keeps_writeSourceEntry (w : SourceId) (l : List Byte) (s t : State) (h : writeSourceEntry w l s = .ok t) :
    s.KeepsLaws t := by
  unfold writeSourceEntry at h
  split at h
  · cases h
  rename_i e hread
  cases h
  exact keeps_updCfg _ s (fun hold => hold.withSource w (sourceEntry_ok_of_read hread)) fun _ => rfl

theorem keeps_writeWindowEntry (i : Fin 2) (l : List Byte) (s t : State) (h : writeWindowEntry i l s = .ok t) :
    s.KeepsLaws t := by
  unfold writeWindowEntry at h
  split at h
  · cases h
  cases h
  refine keeps_updCfg _ s (fun hold => ?_) fun _ => rfl
  exact ⟨hold.nodes, hold.zones, hold.profiles, hold.cannons, hold.coverage, hold.patterns, hold.stations, hold.sources,
    hold.settings⟩

theorem keeps_writeSettingsEntry (i : Fin 1) (l : List Byte) (s t : State) (h : writeSettingsEntry i l s = .ok t) :
    s.KeepsLaws t := by
  unfold writeSettingsEntry at h
  split at h
  · cases h
  rename_i e hread
  cases h
  exact keeps_updCfg _ s (fun hold => hold.withSettings (settings_ok_of_read hread)) fun _ => rfl

/-- Every entry of the table that is written keeps the laws. -/
abbrev EntryKeepsLaws (one : Nat → List Byte → State → Taken) : Prop := ∀ e l s t, one e l s = .ok t → s.KeepsLaws t

theorem entryKeepsLaws_atEntry {n : Nat} (f : Fin n → List Byte → State → Taken)
    (hf : ∀ i l s t, f i l s = .ok t → s.KeepsLaws t) : EntryKeepsLaws fun e l s => atEntry e fun i => f i l s := by
  intro e l s t h
  dsimp only [atEntry] at h
  split at h
  · exact hf _ l s t h
  · cases h

theorem entryKeepsLaws_writeNodeAt : EntryKeepsLaws writeNodeAt := by
  intro e l s t h
  unfold writeNodeAt at h
  split at h
  · cases h
  · exact entryKeepsLaws_atEntry writeNode keeps_writeNode _ l s t h

theorem keeps_writeWork (table : Nat) (one : Nat → List Byte → State → Taken) (hone : EntryKeepsLaws one)
    (body : List Byte) (s : State) : s.KeepsLaws (writeWork table one body s).1 := by
  have hloop : ∀ size n e bytes done, s.KeepsLaws (writeLoop size one n e bytes done s).state :=
    fun size n e bytes done => writeLoop_induction (fun t => s.KeepsLaws t) size one
      (fun e l u t hu ht => (hu.trans (hone e l u t ht)).trans (tame_settle t).keeps) n e bytes done s (.refl s)
  unfold writeWork
  dsimp only
  split
  · exact .refl s
  split
  · exact .refl s
  split
  · exact .refl s
  · split <;> exact hloop _ _ _ _ _

end Sys2Proof.Machine
end

section
namespace Sys2Proof.Machine

/-! ## Dispatch modes (R171 to R174) -/

theorem frame_closeSweep (s : State) : s.DispatchFrame (closeSweep s) :=
  frame_foldl _ (fun t c => frame_closeWithoutBurst c t) _ s

/-- START ends in RUN (R171). -/
theorem keeps_startDispatch (s : State) : s.KeepsLaws (startDispatch s) :=
  have hframe := frame_closeSweep (enterMode .run s)
  keeps_to_run hframe.cfg hframe.zones hframe.mode

/-- WATCH and HALT close every burst in flight that is not FIRE (R172). -/
theorem keeps_quietDispatch (m : DispatchMode) (hm : m = .watch ∨ m = .halt) (s : State) : s.KeepsLaws (quietDispatch m s) := by
  have hframe := frame_closeEach (enterMode m s).routine (enterMode m s)
  refine ⟨bands_of_same hframe.cfg fun z => by rw [State.zone, quietDispatch, hframe.zones]; exact ⟨rfl, rfl⟩, fun _ c => ?_⟩
  have hground : ((quietDispatch m s).cannon c).routine = false := by
    obtain ⟨hclosed, hkept⟩ := closeEach_cannon (enterMode m s).routine (enterMode m s) c
    by_cases hc : c ∈ (enterMode m s).routine
    · rw [Cannon.routine, Cannon.flying, quietDispatch, hclosed hc, Bool.false_and]
    · rw [quietDispatch, hkept hc]
      exact Bool.eq_false_iff.mpr fun e => hc (List.mem_filter.mpr ⟨List.mem_finRange c, e⟩)
  refine ⟨fun _ => hground, fun hoff => ?_⟩
  rw [quietDispatch, hframe.mode] at hoff
  obtain rfl | rfl := hm <;> cases hoff

/-- RESUME ends in RUN (R172). -/
theorem keeps_resumeDispatch (s : State) : s.KeepsLaws (resumeDispatch s) := keeps_to_run rfl rfl rfl

/-- STOP removes every request and closes every burst in flight (R174). -/
theorem keeps_stopDispatch (s : State) : s.KeepsLaws (stopDispatch s) := by
  have hframe := frame_closeEach (clearRequests s).allFlying (clearRequests s)
  refine ⟨bands_of_same hframe.cfg fun z => congrArg (fun v : Vector Zone 32 => v[z].risk) hframe.zones |>.trans rfl |> fun h =>
    ⟨h, congrArg (fun v : Vector Zone 32 => v[z].band) hframe.zones⟩, fun _ => modeHeld_of_idle fun c => ?_⟩
  have hcannon : (stopDispatch s).cannon c = (closeEach (clearRequests s).allFlying (clearRequests s)).cannon c := rfl
  have hnone : ((clearRequests s).cannon c).request = none := congrArg Cannon.request (vector_map_get _ _ _)
  rw [hcannon]
  refine ⟨?_, ((tame_closeEach (clearRequests s).allFlying (clearRequests s)).asks c).elim id fun e => e.trans hnone⟩
  obtain ⟨hclosed, hkept⟩ := closeEach_cannon (clearRequests s).allFlying (clearRequests s) c
  by_cases hc : c ∈ (clearRequests s).allFlying
  · exact hclosed hc
  · rw [hkept hc]
    simpa [State.allFlying, State.cannonsWhere] using hc

/-! ## Resets (R39, R65, R66, R186, R187) -/

theorem startBlocks_zone (s : State) (z : ZoneId) :
    (startBlocks s).zone z = { Zone.initial (s.zoneEntry z) with
      timer := if (s.zoneEntry z).enabled then
          some { remaining := s.settings.evalPeriod, period := s.settings.evalPeriod }
        else none } := by
  simp [State.zone, startBlocks, State.startZones]

theorem startBlocks_cannon (s : State) (c : CannonId) :
    (startBlocks s).cannon c =
      Cannon.initial (s.cannonEntry c).mode.resetState (s.cannonEntry c).station (s.deriveTarget c) := by
  simp [State.cannon, startBlocks, State.startCannons]

theorem startBlocks_station (s : State) (g : StationId) :
    (startBlocks s).station g = { Station.initial with slotTimer := some (s.stationEntry g).slotLength } := by
  simp [State.station, startBlocks, State.startStations]

theorem startBlocks_source (s : State) (w : SourceId) :
    (startBlocks s).source w = Source.initial (s.qualityMapped w) := by
  simp [State.source, startBlocks, State.startSources]

/-- No cannon starts in flight (R66). -/
theorem initial_grounded (m : CannonMode) (g : StationId) (t : Target) :
    (Cannon.initial m.resetState g t).inFlight = false ∧ (Cannon.initial m.resetState g t).request = none := by
  cases m <;> exact ⟨rfl, rfl⟩

/-- The blocks start with every zone CALM at risk 0 and every cannon on the ground without a request. -/
theorem keeps_startBlocks {s t : State} (hok : s.cfg.ok = true → t.cfg.ok = true) : s.KeepsLaws (startBlocks t) := by
  have hcfg : (startBlocks t).cfg = t.cfg := by unfold startBlocks; rfl
  refine ⟨fun h _ => ?_, fun _ => modeHeld_of_idle fun c => ?_⟩
  · have hstarted : (startBlocks t).cfg.ok = true := (congrArg Tables.ok hcfg).trans (hok h)
    exact ⟨hstarted, bandsHeld_of_calm hstarted fun z => by rw [startBlocks_zone]; exact ⟨rfl, rfl⟩⟩
  · rw [startBlocks_cannon]; exact initial_grounded _ _ _

/-- A store found valid has its content in range (R187). -/
theorem store_content_ok {x : Store} (h : x.fault = none) : x.content.ok = true := by
  unfold Store.fault at h
  split at h
  · cases h
  · split at h
    · cases h
    · rename_i hok
      simpa using hok

theorem keeps_endLoad (s : State) : s.KeepsLaws (endLoad s) := by
  have hloaded : s.KeepsLaws
      (startBlocks { s with phase := .running, cfg := s.loadedCfg, storeFound := decide (s.store.fault = none) }) := by
    refine keeps_startBlocks fun hok => ?_
    show s.loadedCfg.ok = true
    unfold State.loadedCfg
    split
    · exact store_content_ok ‹_›
    · exact hok
  unfold endLoad
  dsimp only
  split
  · exact hloaded
  · exact hloaded.trans (tame_raise _ _).keeps

/-- After reset every zone is CALM at risk 0 and every cannon in RETIRED, with the default configuration. -/
theorem keeps_afterRelease {s t : State} (straps : BitVec 4) (store : Store)
    (hcfg : t.cfg = (State.afterRelease straps store).cfg) (hzones : t.zones = (State.afterRelease straps store).zones)
    (hcannons : t.cannons = (State.afterRelease straps store).cannons) : s.KeepsLaws t := by
  have hok : t.cfg.ok = true := by rw [hcfg]; exact tables_default_ok straps
  refine ⟨fun _ _ => ⟨hok, bandsHeld_of_calm hok fun z => ?_⟩, fun _ => modeHeld_of_idle fun c => ?_⟩
  · rw [State.zone, hzones, show (State.afterRelease straps store).zones[z] = Zone.initial ZoneEntry.default from
      vector_replicate_get _ _ z]
    exact ⟨rfl, rfl⟩
  · rw [State.cannon, hcannons, show (State.afterRelease straps store).cannons[c] =
      Cannon.initial .retired 0 { zone := none, efficiency := 0, pattern := 0 } from vector_replicate_get _ _ c]
    exact ⟨rfl, rfl⟩

/-! ## Requests (R179) -/

/-- The work of a request keeps the laws. -/
abbrev WorkKeepsLaws (work : MgmtRequest → State → Answer) : Prop :=
  ∀ (q : MgmtRequest) (s : State), s.KeepsLaws (work q s).state

theorem keeps_conclude (q : MgmtRequest) (a : Answer) : a.state.KeepsLaws (conclude q a) := by
  unfold conclude
  split
  · rename_i status body _
    obtain ⟨r, cs, k, h⟩ := replyTo_state q status body a.state
    rw [h]
    exact .books rfl rfl rfl rfl
  · exact .refl _

theorem keeps_judge (work : MgmtRequest → State → Answer) (hwork : WorkKeepsLaws work) (q : MgmtRequest) (s : State) :
    s.KeepsLaws (judge work q s).state := by
  unfold judge
  split
  · exact .refl s
  · exact hwork q s
  · unfold unlistedAnswer
    split <;> exact .refl s

theorem keeps_takeRequest (row : Instr) (work : MgmtRequest → State → Answer) (hwork : WorkKeepsLaws work) (s : State) :
    s.KeepsLaws (takeRequest row work s) := by
  unfold takeRequest
  split
  · exact .refl s
  · rename_i q rest _
    have htaken : s.KeepsLaws { s with requests := rest } := .books rfl rfl rfl rfl
    exact keeps_ite (fun _ => .after (keeps_conclude q _) (htaken.trans (keeps_judge work hwork q _))) fun _ => .refl s

theorem workKeepsLaws_writeAnswer (table : Nat) (one : Nat → List Byte → State → Taken) (hone : EntryKeepsLaws one) :
    WorkKeepsLaws (writeAnswer table one) := fun q s => keeps_writeWork table one hone q.body s

theorem workKeepsLaws_loadForecast : WorkKeepsLaws loadForecastAnswer := by
  intro q s
  unfold loadForecastAnswer
  dsimp only
  split
  · exact .refl s
  · refine State.Tame.keeps ?_
    rw [answered, loadForecast_state]
    exact .books rfl rfl rfl rfl

theorem workKeepsLaws_dispatch (allowed : DispatchMode → Bool) (change : State → State)
    (hchange : ∀ s : State, s.KeepsLaws (change s)) : WorkKeepsLaws (dispatchAnswer allowed change) := by
  intro q s
  have hverb : s.KeepsLaws (verbWork allowed change s).1 := by
    unfold verbWork
    split
    · exact hchange s
    · exact .refl s
  exact hverb

theorem keeps_setMode (c : CannonId) (m : CannonMode) (s : State) : s.KeepsLaws (setMode c m s).1 := by
  unfold setMode
  dsimp only
  split
  · exact .refl s
  split
  · exact .refl s
  · refine .after (tame_takeMode _ m c _).keeps (keeps_updCfg _ s (fun hold => ?_) fun _ => rfl)
    exact hold.withCannon c (e := { s.cannonEntry c with mode := m }) (Vector.all_eq_true.mp hold.cannons _ _)

theorem workKeepsLaws_setMode : WorkKeepsLaws setModeAnswer := by
  intro q s
  unfold setModeAnswer
  split
  · exact .refl s
  · exact .refl s
  · exact keeps_setMode _ _ s

theorem workKeepsLaws_clearFault : WorkKeepsLaws clearFaultAnswer := by
  intro q s
  unfold clearFaultAnswer
  split
  · exact .refl s
  · exact (tame_clearFaultOf _ s).keeps

theorem keeps_clearFlagsOf (p : Port) (named : Byte) (s : State) : s.KeepsLaws (clearFlagsOf p named s).state := by
  unfold clearFlagsOf
  split
  · exact .refl s
  · exact (tame_updPort p (fun x => { x with flags := x.flags.without named }) s).keeps

theorem workKeepsLaws_clearFlags : WorkKeepsLaws clearFlagsAnswer := by
  intro q s
  unfold clearFlagsAnswer
  split
  · exact keeps_clearFlagsOf _ _ s
  · exact keeps_clearFlagsOf _ _ s
  · exact .refl s

theorem workKeepsLaws_clearMachine : WorkKeepsLaws clearMachineAnswer := by
  intro q s
  unfold clearMachineAnswer
  split
  · exact .refl s
  · exact (tame_clearMachineOf _ s).keeps

theorem workKeepsLaws_restart : WorkKeepsLaws restartAnswer := fun _ s => keeps_startBlocks (t := clearBlocks s) id

theorem workKeepsLaws_save : WorkKeepsLaws saveAnswer := fun _ _ => .books rfl rfl rfl rfl

/-- IDENTIFY and the reads change nothing but what they answer (R182, R183). -/
theorem workKeepsLaws_identify : WorkKeepsLaws identifyWork := fun _ s => .refl s
theorem workKeepsLaws_readEntries : WorkKeepsLaws readEntriesAnswer := fun _ s => .refl s
theorem workKeepsLaws_readState : WorkKeepsLaws readStateAnswer := fun _ s => .refl s

theorem tame_completeSave (s : State) : s.Tame (completeSave s) := by
  unfold completeSave
  split
  · exact .refl s
  · exact .books rfl rfl rfl rfl

/-! ## The rows -/

theorem keeps_stepOf (f : State → State) (s : State) (hf : s.KeepsLaws (f s)) : s.KeepsLaws (stepOf f s) :=
  keeps_ite (fun _ => .after (tame_transmitBoth _).keeps (hf.trans (tame_settle _).keeps)) fun _ => .refl s

/-- A timer's row: its expiry acts only while the timer runs. -/
theorem keeps_expiry (p : State → Prop) [DecidablePred p] (f : State → State) (s : State) (hf : s.KeepsLaws (f s)) :
    s.KeepsLaws (stepOf (fun u => if p u then f u else u) s) :=
  keeps_stepOf _ s (keeps_ite (fun _ => hf) fun _ => .refl s)

theorem keeps_request (row : Instr) (work : MgmtRequest → State → Answer) (s : State) (hwork : WorkKeepsLaws work) :
    s.KeepsLaws (stepOf (takeRequest row work) s) := keeps_stepOf _ s (keeps_takeRequest row work hwork s)

theorem keeps_write {n : Nat} (row : Instr) (table : Nat) (f : Fin n → List Byte → State → Taken) (s : State)
    (hf : ∀ (i : Fin n) (l : List Byte) (s t : State), f i l s = .ok t → s.KeepsLaws t) :
    s.KeepsLaws (stepOf (takeRequest row (writeAnswer table fun e l s => atEntry e fun i => f i l s)) s) :=
  keeps_request row _ s (workKeepsLaws_writeAnswer table _ (entryKeepsLaws_atEntry f hf))

theorem keeps_dispatch (row : Instr) (allowed : DispatchMode → Bool) (change : State → State) (s : State)
    (hchange : ∀ s : State, s.KeepsLaws (change s)) : s.KeepsLaws (stepOf (takeRequest row (dispatchAnswer allowed change)) s) :=
  keeps_request row _ s (workKeepsLaws_dispatch allowed change hchange)

/-- Every row keeps the laws. -/
theorem keeps_exec (i : Instr) (s : State) : ∃ t, exec i s = .next t ∧ s.KeepsLaws t := by
  cases i with
  | powerOn => exact ⟨_, rfl, keeps_afterRelease s.straps s.store rfl rfl rfl⟩
  | pinResetAsserted =>
    exact ⟨_, rfl, keeps_ite (fun _ => .refl s) fun _ => .books rfl rfl rfl rfl⟩
  | resetRelease straps =>
    exact ⟨_, rfl, keeps_ite (fun _ => keeps_afterRelease straps s.store rfl rfl rfl) fun _ => .refl s⟩
  | powerFail => exact ⟨_, rfl, .books rfl rfl rfl rfl⟩
  | storeLoadEnd => exact ⟨_, rfl, keeps_expiry (fun u => u.phase = .loading) endLoad s (keeps_endLoad s)⟩
  | frameCompletion p bytes => exact ⟨_, rfl, keeps_stepOf _ s (keeps_completeFrame p bytes s)⟩
  | endOfSending p => exact ⟨_, rfl, keeps_ite (fun _ => (tame_endSending p s).keeps) fun _ => .refl s⟩
  | secondEvent => exact ⟨_, rfl, keeps_stepOf _ s (tame_secondEvent s).keeps⟩
  | mastStalenessExpiry m =>
    exact ⟨_, rfl, keeps_expiry _ (mastExpiry m) s (.books rfl rfl rfl rfl)⟩
  | dustStalenessExpiry d =>
    exact ⟨_, rfl, keeps_expiry _ (dustExpiry d) s (.books rfl rfl rfl rfl)⟩
  | probeStalenessExpiry z =>
    exact ⟨_, rfl, keeps_expiry _ (probeExpiry z) s (.books rfl rfl rfl rfl)⟩
  | evaluationTimerExpiry z => exact ⟨_, rfl, keeps_stepOf _ s (keeps_evaluationExpiry z s)⟩
  | pumpStalenessExpiry g => exact ⟨_, rfl, keeps_expiry _ (pumpExpiry g) s (tame_pumpExpiry g s).keeps⟩
  | slotStart g => exact ⟨_, rfl, keeps_expiry _ (slotStart g) s (keeps_slotStart g s)⟩
  | holdTimerExpiry c =>
    exact ⟨_, rfl, keeps_expiry _ (fun u => u.updCannon c fun k => { k with holdTimer := none }) s
      (tame_updCannon c _ s (.sameBurst rfl rfl (.inr rfl))).keeps⟩
  | acknowledgementTimerExpiry c => exact ⟨_, rfl, keeps_expiry _ (ackExpiry c) s (tame_ackExpiry c s).keeps⟩
  | burstTimerExpiry c => exact ⟨_, rfl, keeps_expiry _ (burstExpiry c) s (tame_startClosing false c s).keeps⟩
  | qualityStalenessExpiry w =>
    exact ⟨_, rfl, keeps_expiry _ (qualityExpiry w) s (.after (tame_deriveQuality w _).keeps (.books rfl rfl rfl rfl))⟩
  | machineStalenessExpiry m =>
    exact ⟨_, rfl, keeps_expiry _ (machineExpiry m) s (.books rfl rfl rfl rfl)⟩
  | livenessTimerExpiry p => exact ⟨_, rfl, keeps_expiry _ (linkExpiry p) s (tame_linkExpiry p s).keeps⟩
  | saveCompletion => exact ⟨_, rfl, keeps_stepOf _ s (tame_completeSave s).keeps⟩
  | identify => exact ⟨_, rfl, keeps_request _ _ s workKeepsLaws_identify⟩
  | readEntries => exact ⟨_, rfl, keeps_request _ _ s workKeepsLaws_readEntries⟩
  | readState => exact ⟨_, rfl, keeps_request _ _ s workKeepsLaws_readState⟩
  | writeNodeMap =>
    exact ⟨_, rfl, keeps_request _ _ s (workKeepsLaws_writeAnswer 1 writeNodeAt entryKeepsLaws_writeNodeAt)⟩
  | writeZone => exact ⟨_, rfl, keeps_write _ 2 writeZoneEntry s keeps_writeZoneEntry⟩
  | writeProfile => exact ⟨_, rfl, keeps_write _ 3 writeProfileEntry s keeps_writeProfileEntry⟩
  | writeCannon => exact ⟨_, rfl, keeps_write _ 4 writeCannonEntry s keeps_writeCannonEntry⟩
  | writeCoverage => exact ⟨_, rfl, keeps_write _ 5 writeCoverageEntry s keeps_writeCoverageEntry⟩
  | writePattern => exact ⟨_, rfl, keeps_write _ 6 writePatternEntry s keeps_writePatternEntry⟩
  | writeStation => exact ⟨_, rfl, keeps_write _ 7 writeStationEntry s keeps_writeStationEntry⟩
  | writeSource => exact ⟨_, rfl, keeps_write _ 8 writeSourceEntry s keeps_writeSourceEntry⟩
  | writeSubstitution => exact ⟨_, rfl, keeps_write _ 9 writeWindowEntry s keeps_writeWindowEntry⟩
  | writeSettings => exact ⟨_, rfl, keeps_write _ 10 writeSettingsEntry s keeps_writeSettingsEntry⟩
  | loadForecast => exact ⟨_, rfl, keeps_request _ _ s workKeepsLaws_loadForecast⟩
  | start => exact ⟨_, rfl, keeps_dispatch _ _ startDispatch s keeps_startDispatch⟩
  | watch => exact ⟨_, rfl, keeps_dispatch _ _ (quietDispatch .watch) s (keeps_quietDispatch .watch (.inl rfl))⟩
  | halt => exact ⟨_, rfl, keeps_dispatch _ _ (quietDispatch .halt) s (keeps_quietDispatch .halt (.inr rfl))⟩
  | resume => exact ⟨_, rfl, keeps_dispatch _ _ resumeDispatch s keeps_resumeDispatch⟩
  | stop => exact ⟨_, rfl, keeps_dispatch _ _ stopDispatch s keeps_stopDispatch⟩
  | setCannonMode => exact ⟨_, rfl, keeps_request _ _ s workKeepsLaws_setMode⟩
  | clearFault => exact ⟨_, rfl, keeps_request _ _ s workKeepsLaws_clearFault⟩
  | clearFlags => exact ⟨_, rfl, keeps_request _ _ s workKeepsLaws_clearFlags⟩
  | clearMachine => exact ⟨_, rfl, keeps_request _ _ s workKeepsLaws_clearMachine⟩
  | save => exact ⟨_, rfl, keeps_request _ _ s workKeepsLaws_save⟩
  | restart => exact ⟨_, rfl, keeps_request _ _ s workKeepsLaws_restart⟩

/-- Every step keeps the laws of bands and modes. -/
theorem keeps_step {s t : State} (h : step s = .next t) : s.KeepsLaws t := by
  unfold step at h
  split at h
  · cases h; exact .refl s
  · next c rest _ =>
    have hpopped : s.KeepsLaws { s with pending := rest } := .books rfl rfl rfl rfl
    obtain ⟨u, hu, hkeeps⟩ := keeps_exec c { s with pending := rest }
    cases hu.symm.trans h
    exact hpopped.trans hkeeps

/-- Settles O53: risk, band and profile change only where banding decides the band anew or the zone becomes CALM at risk 0, and a
written entry is in range. -/
theorem stepKeepsBandLaw : Obligations.StepKeepsBandLaw := fun _ _ hs h => (keeps_step h).bands hs.1 hs.2

/-- Settles O60: outside RUN only FIRE requests are granted and in OFF none comes, and the verbs that leave RUN close what their
mode does not allow. -/
theorem stepKeepsModeLaw : Obligations.StepKeepsModeLaw := fun _ _ hs h => (keeps_step h).modes hs

end Sys2Proof.Machine
end

section
namespace Sys2Proof.Machine

/-! ## The risk terms (R48, R50) -/

/-- The excess of the planning wind over the threshold, as the model subtracts it. -/
theorem excess_eq (wp ut : Nat) : max 0 ((wp : Int) - ut) = ((wp - ut : Nat) : Int) := by omega

/-- The product under the erosion term, with a threshold of at least 10 and a wind of at most 600. -/
theorem excess_mul_le {wp ut : Nat} (hwp : wp ≤ 600) (hut : 10 ≤ ut) : (wp - ut) * wp ≤ 354000 :=
  calc (wp - ut) * wp ≤ 590 * 600 := Nat.mul_le_mul (by omega) hwp
    _ = 354000 := by norm_num

theorem erosion_of_le {wp ut : Nat} (h : wp ≤ ut) : erosion wp ut = 0 := by
  simp [erosion, Nat.sub_eq_zero_of_le h]

theorem erosion_of_full {wp ut : Nat} (h : 64000 ≤ (wp - ut) * wp) : erosion wp ut = 1000 :=
  Nat.min_eq_left ((Nat.le_div_iff_mul_le (by decide)).mpr h)

/-- R48 over the integers, with its consequences. -/
theorem erosion_follows_formula (wp ut : Nat) (hwp : wp ≤ 600) (hut : 10 ≤ ut) :
    (erosion wp ut : Int) = min 1000 (max 0 ((wp : Int) - ut) * wp / 64) ∧ max 0 ((wp : Int) - ut) * wp ≤ 354000 ∧
    (wp ≤ ut → erosion wp ut = 0) ∧ (64000 ≤ max 0 ((wp : Int) - ut) * wp → erosion wp ut = 1000) := by
  rw [excess_eq]
  refine ⟨?_, by exact_mod_cast excess_mul_le hwp hut, erosion_of_le, fun h => erosion_of_full (by exact_mod_cast h)⟩
  unfold erosion
  push_cast
  rfl

/-- The dust bonus of a zone that follows sensor `d`. -/
theorem dustBonus_some (s : State) {e : ZoneEntry} {d : DustId} (h : e.dust = some d) :
    s.dustBonus e = if (s.dust d).fresh ∧ s.settings.alertLevels[d] ≤ (s.dust d).acc / 4 then
      min 250 (((s.dust d).acc / 4 - s.settings.alertLevels[d]) * 250 / s.settings.alertLevels[d]) else 0 := by
  simp only [State.dustBonus, h]

theorem dustBonus_none (s : State) {e : ZoneEntry} (h : e.dust = none) : s.dustBonus e = 0 := by
  simp only [State.dustBonus, h]

/-- Dust at twice the alert level or above it earns the whole bonus. -/
theorem dustBonus_of_double (s : State) {e : ZoneEntry} {d : DustId} (h : e.dust = some d) (hfresh : (s.dust d).fresh = true)
    (hpos : 1 ≤ s.settings.alertLevels[d]) (hdouble : 2 * s.settings.alertLevels[d] ≤ (s.dust d).acc / 4) :
    s.dustBonus e = 250 := by
  rw [dustBonus_some s h, if_pos ⟨hfresh, by omega⟩]
  refine Nat.min_eq_left ((Nat.le_div_iff_mul_le hpos).mpr ?_)
  rw [Nat.mul_comm]
  exact Nat.mul_le_mul_right 250 (by omega)

/-- A risk is at least the zone's dust bonus (R50, R51). -/
theorem dustBonus_le_riskOf (s : State) (z : ZoneId) (wp : Nat) (sector : Sector) (m : Nat)
    (h : s.dustBonus (s.zoneEntry z) ≤ 1000) : s.dustBonus (s.zoneEntry z) ≤ s.riskOf z wp sector m := by
  have hweighted (r : Nat) : r ≤ weighted (s.zoneEntry z) sector r := by
    unfold weighted
    split <;> omega
  refine le_min h ?_
  calc s.dustBonus (s.zoneEntry z)
      ≤ surface (erosion wp (s.zoneEntry z).threshold) m (s.zoneEntry z).mref + s.dustBonus (s.zoneEntry z) := Nat.le_add_left _ _
    _ ≤ weighted (s.zoneEntry z) sector _ := hweighted _
    _ ≤ _ := Nat.le_add_right _ _

/-- With the default profile a risk of 250 takes a CALM zone to ACT or SEVERE (R52). -/
theorem decideBand_default (r : Nat) (h : 250 ≤ r) :
    Profile.default.decideBand r .calm = .act ∨ Profile.default.decideBand r .calm = .severe := by
  have hact : 200 ≤ r := by omega
  by_cases hsevere : 400 ≤ r <;> simp [Profile.decideBand, Profile.reached, Profile.default, Band.rank, hact, hsevere]

/-- Settles O46: the model's natural subtraction is the formula's cut at 0, and the bonus alone reaches the default thresholds. -/
theorem riskTermsFollowTheirFormulas : Obligations.RiskTermsFollowTheirFormulas := by
  refine ⟨fun wp ut hwp hut _ => erosion_follows_formula wp ut hwp hut, by decide, fun s e => ?_, fun s z sector m hp hb => ?_⟩
  · refine ⟨fun d hd hfresh hle => ?_, dustBonus_none s, fun d hd hstale => ?_, fun d hd hlt => ?_, fun d hd heq => ?_,
      fun d hd => dustBonus_of_double s hd, fun _ _ => rfl⟩
    · rw [dustBonus_some s hd, if_pos ⟨hfresh, hle⟩]
    · rw [dustBonus_some s hd, if_neg (by simp [hstale])]
    · rw [dustBonus_some s hd, if_neg (by omega)]
    · rw [dustBonus_some s hd, heq]
      simp
  · have hrisk := dustBonus_le_riskOf s z 0 sector m (by omega)
    rw [hp]
    exact decideBand_default _ (hb ▸ hrisk)

end Sys2Proof.Machine
end

section
namespace Sys2Proof.Machine

/-! ## RESTART (R186) -/

/-- A cleared mast stands at sector 0 without a gust, so the target is the coverage of that sector (R12, R69). -/
theorem deriveTarget_clearBlocks (s : State) (c : CannonId) :
    (clearBlocks s).deriveTarget c =
      { zone := (s.coverage c 0).zone, efficiency := (s.coverage c 0).efficiency, pattern := (s.coverage c 0).pattern } := by
  have hmast : ∀ m, (clearBlocks s).mast m = Mast.initial := fun m => vector_replicate_get _ _ m
  have hcoverage : ∀ i, (clearBlocks s).coverage c i = s.coverage c i := fun _ => rfl
  have hcalm : ¬ (s.coverage c 0).cutoff < 0 := Nat.not_lt_zero _
  simp only [State.deriveTarget, hmast, hcoverage]
  rw [show Mast.initial.sector = 0 from rfl, show Mast.initial.gust = 0 from rfl, if_neg hcalm]

/-- RESTART is carried out and replies DONE (R186). -/
theorem exec_restart (s : State) (source tag : Byte) (rest : List MgmtRequest) (hsave : s.saving = none)
    (ht : s.Takes source [12, tag] rest) :
    exec .restart s = .next (transmitBoth ((restartPart { s with requests := rest }).replied rest source 12 tag .done [])) := by
  have hdone : takeRequest .restart restartAnswer s =
      (restartPart { s with requests := rest }).replied rest source 12 tag .done [] :=
    takeRequest_passed .restart restartAnswer s source 12 tag [] rest ht rfl rfl (by rw [hsave]; rfl)
  have hstep : exec .restart s = .next (stepOf (takeRequest .restart restartAnswer) s) := rfl
  rw [hstep, stepOf_of_settled _ s (operating_of_running s ht.1) (by rw [hdone]; rfl), hdone]

/-- Settles O45: the cleared state's blocks start as the entries in force say, and nothing is due at its end. -/
theorem restartResetsDynamicState : Obligations.RestartResetsDynamicState := by
  intro s source tag rest hsave ht
  refine ⟨_, exec_restart s source tag rest hsave ht, ?_, fun m => vector_replicate_get _ _ m,
    fun d => vector_replicate_get _ _ d, fun z => vector_replicate_get _ _ z, fun m => vector_replicate_get _ _ m,
    fun z => vector_replicate_get _ _ z, startBlocks_zone (clearBlocks { s with requests := rest }), fun c => ?_,
    startBlocks_station (clearBlocks { s with requests := rest }), startBlocks_source (clearBlocks { s with requests := rest })⟩
  · have hdue : s.dueCapacity = [] := ht.2.1.1
    simp only [restartPart, startBlocks, clearBlocks, State.replied, hdue]
  · refine (startBlocks_cannon (clearBlocks { s with requests := rest }) c).trans ?_
    rw [deriveTarget_clearBlocks]
    rfl

end Sys2Proof.Machine
end

section
namespace Sys2Proof.Machine

/-! ## The end of the store load (R187) -/

/-- A target written from a coverage entry: no zone where none is stated or the gust is over the cutoff (R69). -/
theorem deriveTarget_eq_targetOf (s : State) (c : CannonId) : s.deriveTarget c = s.targetOf c := by
  unfold State.deriveTarget State.targetOf
  by_cases hz : (s.coverage c (s.mast (s.cannonEntry c).refMast).sector).zone = none
  · simp only [hz, true_or, ite_self]
  · simp only [hz, false_or]

/-- A target depends on the configuration and the masts alone (R69). -/
theorem targetOf_congr {s t : State} (hcfg : s.cfg = t.cfg) (hmasts : s.masts = t.masts) (c : CannonId) :
    s.targetOf c = t.targetOf c := by
  unfold State.targetOf State.coverage State.cannonEntry State.mast
  rw [hcfg, hmasts]

/-- Starting the blocks leaves the configuration, by which they start. -/
theorem startBlocks_cfg (t : State) : (startBlocks t).cfg = t.cfg := by unfold startBlocks; rfl

theorem startBlocks_masts (t : State) : (startBlocks t).masts = t.masts := by unfold startBlocks; rfl

/-- The blocks as the started state itself reads its entries (R39, R66, R85, R92, R122). -/
theorem startBlocks_follow (t : State) :
    (∀ z, (startBlocks t).zone z = { Zone.initial ((startBlocks t).zoneEntry z) with
      timer := if ((startBlocks t).zoneEntry z).enabled then
          some { remaining := (startBlocks t).settings.evalPeriod, period := (startBlocks t).settings.evalPeriod }
        else none }) ∧
    (∀ c, (startBlocks t).cannon c = Cannon.initial ((startBlocks t).cannonEntry c).mode.resetState
      ((startBlocks t).cannonEntry c).station ((startBlocks t).targetOf c)) ∧
    (∀ g, (startBlocks t).station g =
      { Station.initial with slotTimer := some ((startBlocks t).stationEntry g).slotLength }) ∧
    ∀ w, (startBlocks t).source w = Source.initial ((startBlocks t).qualityMapped w) := by
  have hcfg := startBlocks_cfg t
  refine ⟨fun z => ?_, fun c => ?_, fun g => ?_, fun w => ?_⟩
  · rw [startBlocks_zone]
    unfold State.zoneEntry State.settings
    rw [hcfg]
  · rw [startBlocks_cannon, deriveTarget_eq_targetOf, targetOf_congr hcfg (startBlocks_masts t)]
    simp only [State.cannonEntry, hcfg]
  · rw [startBlocks_station]
    simp only [State.stationEntry, hcfg]
  · rw [startBlocks_source]
    simp only [State.qualityMapped, State.mapped, hcfg]

/-- The state that starts its blocks when the load ends, with `notices` in its list. -/
def State.loadedWith (s : State) (notices : NoticeQueue) : State :=
  { s with
    phase := .running, cfg := s.loadedCfg, storeFound := decide (s.store.fault = none), notices := notices }

theorem endLoad_of_valid {s : State} (h : s.store.fault = none) : endLoad s = startBlocks (s.loadedWith s.notices) := by
  unfold endLoad
  split
  · rfl
  · rename_i hc; cases h.symm.trans hc

theorem endLoad_of_fault {s : State} {cause : StoreCause} (h : s.store.fault = some cause) :
    endLoad s = startBlocks (s.loadedWith (s.notices.place (.storeInvalid cause) s.stamp)) := by
  unfold endLoad
  split
  · rename_i hc; cases h.symm.trans hc
  · rename_i hc; cases h.symm.trans hc; rfl

/-- The end of the load starts the blocks and notes at most why the store is invalid. -/
theorem endLoad_eq (s : State) : ∃ notices, endLoad s = startBlocks (s.loadedWith notices) := by
  cases h : s.store.fault with
  | none => exact ⟨_, endLoad_of_valid h⟩
  | some cause => exact ⟨_, endLoad_of_fault h⟩

theorem exec_storeLoadEnd (s : State) (hphase : s.phase = .loading) (hr : s.Rested) :
    exec .storeLoadEnd s = .next (transmitBoth (endLoad s)) := by
  have ho : s.operating = true := by simp [State.operating, hphase]
  have hstep : exec .storeLoadEnd s = .next (stepOf (fun u => if u.phase = .loading then endLoad u else u) s) := rfl
  obtain ⟨notices, hend⟩ := endLoad_eq s
  have hdue : (endLoad s).dueCapacity = [] := by rw [hend]; exact hr.1
  rw [hstep, stepOf_of_settled _ s ho (by rw [if_pos hphase]; exact hdue), if_pos hphase]

/-- Settles O6: the load's end starts every block from the entries it leaves in force. -/
theorem storeLoadEndStartsTheBlocks : Obligations.StoreLoadEndStartsTheBlocks := by
  intro s hphase hr
  obtain ⟨notices, hend⟩ := endLoad_eq s
  refine ⟨endLoad s, exec_storeLoadEnd s hphase hr, ?_, fun h => ?_, fun cause h => ?_, ?_⟩
  · rw [hend]; rfl
  · rw [endLoad_of_valid h]
    exact ⟨if_pos h, decide_eq_true h, rfl⟩
  · rw [endLoad_of_fault h]
    have hne : ¬ s.store.fault = none := by rw [h]; exact Option.some_ne_none _
    exact ⟨if_neg hne, decide_eq_false hne, rfl⟩
  · rw [hend]
    exact startBlocks_follow (s.loadedWith notices)

end Sys2Proof.Machine
end

section
namespace Sys2Proof.Machine

/-! ## A WRITE-ENTRIES of one entry (R184) -/

/-- The state with the reply to a WRITE-ENTRIES whose one entry was written (R184, R194). -/
def State.repliedWritten (s : State) (source tag : Byte) : State :=
  { s with
    replies := s.replies ++ [{ dest := source, code := 3, tag := tag, status := .done, body := [1, 255, 255, 0] }] }

/-- The length of a WRITE-ENTRIES of one entry agrees with its table's entry size (R180). -/
theorem bodyAgrees_writeOne (table e : Byte) (bytes : List Byte)
    (hlen : bytes.length = entryWidths.getD (table.toNat - 1) 0) : bodyAgrees 3 ([table, 0, e, 1] ++ bytes) = true := by
  have hagrees : bodyAgrees 3 ([table, 0, e, 1] ++ bytes) = decide (4 ≤ bytes.length + 4 ∧ (table.toNat = 0 ∨
      10 < table.toNat ∨ bytes.length + 4 = 4 + 1 * entryWidths.getD (table.toNat - 1) 0)) := rfl
  rw [hagrees, decide_eq_true_iff]
  omega

/-- The work of a WRITE-ENTRIES of one entry of a table other than the node map, where the entry is written (R184). -/
theorem writeWork_one (table : Nat) (one : Nat → List Byte → State → Taken) (t e : Byte) (bytes : List Byte) (s u : State)
    (hnode : table ≠ 1) (hin : inTable table e.toNat = true) (hsize : bytes.length = entrySize table)
    (hone : one e.toNat bytes s = .ok u) :
    writeWork table one ([t, 0, e, 1] ++ bytes) s = (settle u, .done, [1, 255, 255, 0]) := by
  have hfirst : u16 ([t, 0, e, 1] ++ bytes) 1 = e.toNat := by
    show (0 : Byte).toNat * 256 + e.toNat = e.toNat
    simp
  have hcount : u8 ([t, 0, e, 1] ++ bytes) 3 = 1 := rfl
  have hrest : ([t, 0, e, 1] ++ bytes).drop 4 = bytes := rfl
  have hloop := writeLoop_one_taken (entrySize table) e.toNat 0 one bytes s u (by rw [← hsize, List.take_length]; exact hone)
  have hmode : ¬ (table = 1 ∧ (s.mode = .run ∨ s.mode = .watch)) := fun h => hnode h.1
  have hbody : writeBody (0 + 1) 65535 0 = [1, 255, 255, 0] := by decide
  simp only [writeWork, hfirst, hcount, hrest, hin, hloop, hmode, hbody, Nat.one_ne_zero, if_false, Bool.not_true,
    Bool.false_eq_true]

/-- The step of a WRITE-ENTRIES of one entry that is written and leaves no capacity event due (R184). -/
theorem stepOf_writeOne (row : Instr) (table : Nat) (one : Nat → List Byte → State → Taken) (s : State)
    (source tag t e : Byte) (rest : List MgmtRequest) (bytes : List Byte) (u : State) (hsave : s.saving = none)
    (ht : s.Takes source ([3, tag, t, 0, e, 1] ++ bytes) rest) (hrow : rowOf ([3, tag, t, 0, e, 1] ++ bytes) = some row)
    (htable : t.toNat = table ∧ 2 ≤ table ∧ table ≤ 10) (hin : inTable table e.toNat = true)
    (hwidth : bytes.length = entryWidths.getD (table - 1) 0) (hsize : bytes.length = entrySize table)
    (hone : one e.toNat bytes { s with requests := rest } = .ok u) (hdue : (settle u).dueCapacity = []) :
    stepOf (takeRequest row (writeAnswer table one)) s = transmitBoth ((settle u).repliedWritten source tag) := by
  obtain ⟨rfl, hlow, hhigh⟩ := htable
  have hwork := writeWork_one t.toNat one t e bytes { s with requests := rest } u (by omega) hin hsize hone
  have hpassed := takeRequest_passed row (writeAnswer t.toNat one) s source 3 tag ([t, 0, e, 1] ++ bytes) rest ht hrow
    (bodyAgrees_writeOne t e bytes hwidth) (by rw [hsave]; rfl)
  have hanswer : writeAnswer t.toNat one { source := source, payload := 3 :: tag :: ([t, 0, e, 1] ++ bytes) }
      { s with requests := rest } = answered (settle u, .done, [1, 255, 255, 0]) := congrArg answered hwork
  have hdone : takeRequest row (writeAnswer t.toNat one) s = (settle u).repliedWritten source tag := by
    rw [hpassed, hanswer]; rfl
  rw [stepOf_of_settled _ s (operating_of_running s ht.1) (by rw [hdone]; exact hdue), hdone]

/-! ## Reading back the bytes of an entry (R195) -/

/-- A field of two bytes that lies at its place. -/
theorem u16_at (l : List Byte) (i : Nat) {n : Nat} (h : n < 65536) (hi : l.getD i 0 = byte (n / 256))
    (hi' : l.getD (i + 1) 0 = byte n) : u16 l i = n := by
  rw [u16, hi, hi', nat16_bytes h]

/-- A field of one byte that lies at its place. -/
theorem u8_at (l : List Byte) (i : Nat) {n : Nat} (h : n < 256) (hi : l.getD i 0 = byte n) : u8 l i = n := by
  rw [u8, hi, byte_toNat h]

/-- A profile in range is read from the bytes that lay it out. -/
theorem readProfile_bytes (e : Profile) (h : e.ok = true) : readProfile e.bytes = some e := by
  obtain ⟨-, h1, h2, h3, h4, -, h5, -, h6, -, h7⟩ := of_decide_eq_true h
  have hread : ({ tw := u16 e.bytes 0, ta := u16 e.bytes 2, ts := u16 e.bytes 4, hysteresis := u8 e.bytes 6
                  dutyWatch := u8 e.bytes 7, dutyAct := u8 e.bytes 8, dutySevere := u8 e.bytes 9 } : Profile) = e := by
    rw [u16_at e.bytes 0 (n := e.tw) (by omega) rfl rfl, u16_at e.bytes 2 (n := e.ta) (by omega) rfl rfl,
      u16_at e.bytes 4 (n := e.ts) (by omega) rfl rfl, u8_at e.bytes 6 (n := e.hysteresis) (by omega) rfl,
      u8_at e.bytes 7 (n := e.dutyWatch) (by omega) rfl, u8_at e.bytes 8 (n := e.dutyAct) (by omega) rfl,
      u8_at e.bytes 9 (n := e.dutySevere) (by omega) rfl]
  unfold readProfile
  rw [hread]
  exact if_pos h

/-! ## The profile write (R41) -/

/-- The state with profile `f` written as `e`, its request taken. -/
def State.withProfile (s : State) (rest : List MgmtRequest) (f : ProfileId) (e : Profile) : State :=
  { s with requests := rest, cfg := { s.cfg with profiles := updAt s.cfg.profiles f fun _ => e } }

theorem profileOf_withProfile (s : State) (rest : List MgmtRequest) (f : ProfileId) (e : Profile) {z : ZoneId}
    (h : (s.zoneEntry z).profile = f) :
    (s.withProfile rest f e).profileOf z = e := by
  subst h
  exact updAt_get_self s.cfg.profiles _ _

theorem nextBand_withProfile (s : State) (rest : List MgmtRequest) (f : ProfileId) (e : Profile) {z : ZoneId}
    (h : (s.zoneEntry z).profile = f) :
    (s.withProfile rest f e).nextBand z = e.decideBand (s.zone z).risk (s.zone z).band := by
  rw [State.nextBand, profileOf_withProfile s rest f e h]; rfl

/-- The step of a profile write is the re-banding of its zones and the reply (R41, R184). -/
theorem exec_writeProfile (s : State) (source tag : Byte) (rest : List MgmtRequest) (f : ProfileId) (e : Profile)
    (hsave : s.saving = none) (ht : s.Takes source ([3, tag, 3, 0, byte f.val, 1] ++ e.bytes) rest) (he : e.ok = true) :
    exec .writeProfile s = .next (transmitBoth ((rebandAll ((s.withProfile rest f e).zonesUsing f)
      (s.withProfile rest f e)).repliedWritten source tag)) := by
  have hf : (byte f.val).toNat = f.val := byte_toNat (by omega)
  obtain ⟨zones, mode, last, notices, cs, n, hstate⟩ :=
    (rebandAll_rebandedAll ((s.withProfile rest f e).zonesUsing f) (zonesUsing_nodup _ f) (s.withProfile rest f e)).state
  have hdue : (rebandAll ((s.withProfile rest f e).zonesUsing f) (s.withProfile rest f e)).dueCapacity = [] := by
    rw [hstate]; exact ht.2.1.1
  have hone : (atEntry (byte f.val).toNat fun i => writeProfileEntry i e.bytes { s with requests := rest }) =
      .ok (rebandAll ((s.withProfile rest f e).zonesUsing f) (s.withProfile rest f e)) := by
    rw [atEntry_of_lt _ _ (by omega)]
    have hindex : (⟨(byte f.val).toNat, by omega⟩ : ProfileId) = f := Fin.ext hf
    rw [hindex, writeProfileEntry, readProfile_bytes e he]
    rfl
  have hin : inTable 3 (byte f.val).toNat = true := by
    have := f.isLt
    rw [hf, inTable, decide_eq_true_iff]
    exact ⟨Nat.zero_le _, this⟩
  have hsettled := settle_of_nothing_due _ hdue
  have hstep := stepOf_writeOne .writeProfile 3 (fun e l s => atEntry e fun i => writeProfileEntry i l s) s source tag 3
    (byte f.val) rest e.bytes _ hsave ht rfl (by decide) hin rfl rfl hone (by rw [hsettled]; exact hdue)
  rw [hsettled] at hstep
  exact congrArg _ hstep

/-- The zones that a re-banding changes, by the bands it leaves. -/
theorem rebanding_eq_filter {s u : State} {f : ProfileId} (h : s.RebandedAll u (s.zonesUsing f)) :
    s.rebanding (s.zonesUsing f) =
      (List.finRange 32).filter fun z => (s.zoneEntry z).profile = f ∧ (u.zone z).band ≠ (s.zone z).band := by
  rw [State.rebanding, State.zonesUsing, List.filter_filter]
  refine List.filter_congr fun z _ => ?_
  rw [h.zones]
  by_cases hz : (s.zoneEntry z).profile = f <;> simp [hz, mem_zonesUsing]

/-- A zone that a re-banding changes has the band decided for it. -/
theorem band_of_mem_rebanding {s u : State} {zs : List ZoneId} (h : s.RebandedAll u zs) {z : ZoneId} (hz : z ∈ s.rebanding zs) :
    (u.zone z).band = s.nextBand z := by
  rw [h.zones, if_pos (List.mem_filter.mp hz).1]

/-- The BAND-CHANGE reports of a re-banding, by the bands it leaves (R54). -/
theorem bandChanges_eq {s u : State} {zs : List ZoneId} (h : s.RebandedAll u zs) :
    ((s.rebanding zs).map fun z => Report.bandChange z (s.nextBand z) (s.zone z).risk) =
      (s.rebanding zs).map fun z => Report.bandChange z (u.zone z).band (s.zone z).risk :=
  List.map_congr_left fun z hz => by rw [band_of_mem_rebanding h hz]

/-- Which zone's new band wakes dispatch (R54, R173). -/
theorem wakes_iff (s : State) (z : ZoneId) (b : Band) :
    s.wakes z b = true ↔ s.mode = .watch ∧ (s.zoneEntry z).watch = true ∧ (b = .act ∨ b = .severe) := by
  simp only [State.wakes, Bool.and_eq_true, decide_eq_true_iff]
  tauto

/-- The zones whose re-banding wakes dispatch, by the bands it leaves (R54, R173). -/
theorem waking_iff {s u : State} {zs : List ZoneId} (h : s.RebandedAll u zs) (z : ZoneId) :
    (z ∈ s.rebanding zs ∧ s.wakes z (s.nextBand z) = true) ↔
      s.mode = .watch ∧ z ∈ s.rebanding zs ∧ (s.zoneEntry z).watch = true ∧
        ((u.zone z).band = .act ∨ (u.zone z).band = .severe) := by
  rw [wakes_iff]
  constructor
  · rintro ⟨hz, hmode, hwatch, hb⟩
    exact ⟨hmode, hz, hwatch, by rwa [band_of_mem_rebanding h hz]⟩
  · rintro ⟨hmode, hz, hwatch, hb⟩
    exact ⟨hz, hmode, hwatch, by rwa [← band_of_mem_rebanding h hz]⟩

/-- The mode that a re-banding leaves (R173). -/
theorem mode_of_rebandedAll {s u : State} {zs : List ZoneId} (h : s.RebandedAll u zs) :
    u.mode = if s.mode = .watch ∧ ∃ z, z ∈ s.rebanding zs ∧ (s.zoneEntry z).watch = true ∧
      ((u.zone z).band = .act ∨ (u.zone z).band = .severe) then .run else s.mode := by
  split
  · rename_i hw
    obtain ⟨hmode, z, hz⟩ := hw
    obtain ⟨hmem, hwakes⟩ := (waking_iff h z).mpr ⟨hmode, hz⟩
    exact (h.waking ⟨z, hmem, hwakes⟩).1
  · rename_i hw
    refine (h.quiet fun z hz => Bool.eq_false_iff.mpr fun hwakes => hw ?_).1
    obtain ⟨hmode, hz⟩ := (waking_iff h z).mp ⟨hz, hwakes⟩
    exact ⟨hmode, z, hz⟩

/-- A re-banding in which no zone wakes dispatch raises the changes alone (R54, R188). -/
theorem quiet_of_rebandedAll {s u : State} {zs : List ZoneId} (h : s.RebandedAll u zs)
    (hquiet : ∀ z, ¬ (s.mode = .watch ∧ z ∈ s.rebanding zs ∧ (s.zoneEntry z).watch = true ∧
      ((u.zone z).band = .act ∨ (u.zone z).band = .severe))) :
    u.lastChange = s.lastChange ∧
    ∃ l : List Report, l.Perm ((s.rebanding zs).map fun z => Report.bandChange z (u.zone z).band (s.zone z).risk) ∧
      u.notices = l.foldl (fun k r => k.place r s.stamp) s.notices := by
  rw [← bandChanges_eq h]
  exact (h.quiet fun z hz => Bool.eq_false_iff.mpr fun hw => hquiet z ((waking_iff h z).mp ⟨hz, hw⟩)).2

/-- One in which a zone wakes dispatch raises WAKE for one such zone and DISPATCH-MODE as well (R54, R173, R188). -/
theorem wake_of_rebandedAll {s u : State} {zs : List ZoneId} (h : s.RebandedAll u zs)
    (hwake : ∃ z, s.mode = .watch ∧ z ∈ s.rebanding zs ∧ (s.zoneEntry z).watch = true ∧
      ((u.zone z).band = .act ∨ (u.zone z).band = .severe)) :
    u.lastChange = some { previous := .watch, cause := .wake } ∧
    ∃ z, (s.mode = .watch ∧ z ∈ s.rebanding zs ∧ (s.zoneEntry z).watch = true ∧
        ((u.zone z).band = .act ∨ (u.zone z).band = .severe)) ∧
      ∃ l : List Report, l.Perm ((s.rebanding zs).map (fun z => Report.bandChange z (u.zone z).band (s.zone z).risk) ++
          [.wake z (u.zone z).band, .dispatchMode .run .watch .wake]) ∧
        u.notices = l.foldl (fun k r => k.place r s.stamp) s.notices := by
  obtain ⟨z, hz⟩ := hwake
  obtain ⟨-, hlast, y, hy, hw, hraised⟩ := h.waking ⟨z, (waking_iff h z).mpr hz⟩
  rw [bandChanges_eq h, ← band_of_mem_rebanding h hy] at hraised
  rw [hz.1] at hlast
  exact ⟨hlast, y, (waking_iff h y).mp ⟨hy, hw⟩, hraised⟩

/-- Settles O35: the written profile's re-banding, zone by zone, with the mode and the notices that it brings. -/
theorem profileWriteRebands : Obligations.ProfileWriteRebands := by
  intro s source tag rest f e hsave ht he
  have hreb := rebandAll_rebandedAll ((s.withProfile rest f e).zonesUsing f) (zonesUsing_nodup _ f) (s.withProfile rest f e)
  refine ⟨_, exec_writeProfile s source tag rest f e hsave ht he, ?_⟩
  generalize rebandAll ((s.withProfile rest f e).zonesUsing f) (s.withProfile rest f e) = u at *
  have hmode := mode_of_rebandedAll hreb
  have hquiet := quiet_of_rebandedAll hreb
  have hwake := wake_of_rebandedAll hreb
  rw [rebanding_eq_filter hreb] at hmode hquiet hwake
  obtain ⟨zones, mode, last, notices, cs, n, hstate⟩ := hreb.state
  refine ⟨by rw [hstate]; rfl, fun z hz => ?_, fun z hz => ?_, ?_, ⟨hquiet, hwake⟩, ?_⟩
  · have hzone : u.zone z = { s.zone z with band := e.decideBand (s.zone z).risk (s.zone z).band } := by
      refine (hreb.zones z).trans ((if_pos (mem_zonesUsing.mpr hz)).trans ?_)
      rw [nextBand_withProfile s rest f e hz]; rfl
    have hwritten : (u.repliedWritten source tag).zone z = u.zone z := rfl
    rw [hwritten, hzone]
    exact ⟨rfl, decideBand_bandAfter _ _ _⟩
  · exact (hreb.zones z).trans (if_neg fun h => hz (mem_zonesUsing.mp h))
  · refine hmode.trans (if_congr ?_ rfl rfl)
    simp only [List.mem_filter, List.mem_finRange, true_and, decide_eq_true_iff, and_assoc]
    exact and_congr Iff.rfl (exists_congr fun z => and_congr Iff.rfl and_left_comm)
  · rw [hstate]
    exact ⟨rfl, rfl, rfl, rfl, rfl, rfl, rfl, rfl, rfl, rfl, rfl, rfl, rfl⟩

end Sys2Proof.Machine
end

section
namespace Sys2Proof.Machine

/-! ## Closes and completions as statements write them out (R89, R110, R112, R113) -/

/-- A close of a sent OPEN or a spraying valve, written out (R112). -/
theorem startClosing_eq (forFault : Bool) (c : CannonId) (s : State) : startClosing forFault c s = s.shut c forFault := by
  unfold startClosing
  rw [queueClose_eq]
  rfl

/-- A place given back, by the cannon's station (R88). -/
theorem leavePlace_of_station {c : CannonId} {s : State} {g : StationId} (h : s.stationOf c = g) :
    leavePlace c s = s.updStation g fun x =>
      { x with inUse := x.inUse - 1, inUseFlow := x.inUseFlow - (s.cannonEntry c).flow } := by
  unfold leavePlace
  rw [h]

/-- An unsent OPEN removed, written out, with its capacity event (R112). -/
theorem dropUnsent_eq (next : CannonState) (c : CannonId) (s : State) :
    dropUnsent next c s = capacityDue (s.stationOf c) (s.unsent c next) := by
  have hstation (t : State) : (removeOpen c (t.updCannon c fun k => { k with
      state := next, burst := none, burstTimer := none, ackTimer := none, faultPending := false })).stationOf c =
        t.stationOf c := State.stationOf_updCannon_keep t c _ c rfl
  unfold dropUnsent
  dsimp only
  rw [leavePlace_of_station (hstation _)]
  simp only [State.unsent, release, removeOpen, endClosing, State.updCannon, State.updSource, State.updStation,
    State.mapStations]
  cases (s.cannon c).burst with
  | none => rfl
  | some b => rfl

/-- An admitted close, written out (R89). -/
theorem takeClose_eq (c : CannonId) (s : State) :
    takeClose c s = { s with
      cannons := updAt s.cannons c fun k => { k with state := .closing, faultPending := decide (k.state = .fault) }
      stations := updAt (s.stations.map fun g => { g with waiting := g.waiting.filter (· ≠ c) }) (s.stationOf c)
        fun g => { g with inUse := g.inUse + 1, inUseFlow := g.inUseFlow + (s.cannonEntry c).flow }
      commands := if s.hasCommand c then s.commands else s.commands ++ [{ cannon := c, verb := .closeValve }] } := by
  have hstation : (stopWaiting c (s.updCannon c fun k =>
      { k with state := .closing, faultPending := decide (k.state = .fault) })).stationOf c = s.stationOf c :=
    State.stationOf_updCannon_keep s c _ c rfl
  unfold takeClose takePlace
  rw [queueClose_eq, hstation]
  rfl

theorem canClose_iff (s : State) (c : CannonId) : s.canClose c = true ↔ s.Admits c := by
  simp only [State.canClose, State.closeFits, State.Admits, Bool.and_eq_true, decide_eq_true_iff]
  tauto

/-- A close without a burst, written out (R89). -/
theorem closeWithoutBurst_eq (c : CannonId) (s : State)
    (h : (s.cannon c).state = .unknown ∨ (s.cannon c).state = .idle ∨ (s.cannon c).state = .fault) :
    closeWithoutBurst c s = s.closeArisen c := by
  have hjudged : closeWithoutBurst c s = if s.canClose c then takeClose c s else joinWaiting c s := by
    unfold closeWithoutBurst
    obtain h | h | h := h <;> rw [h]
  rw [hjudged, takeClose_eq, State.closeArisen]
  simp only [canClose_iff]
  rfl

theorem drawOf_eq (flow seconds litres : Nat) : drawOf flow seconds litres = drawn flow seconds litres := by
  unfold drawOf drawn
  by_cases h : litres = 0 <;> simp [h]

/-- A confirming CLOSE, written out (R114). -/
theorem confirmingClose_eq (c : CannonId) (s : State) :
    confirmingClose c s = { s with
      commands := if (s.cannon c).state = .idle ∧ (s.cannon c).openMark ∧ s.hasCommand c = false then
          s.commands ++ [{ cannon := c, verb := .closeValve }]
        else s.commands } := by
  have hnot : (¬ s.hasCommand c = true) ↔ s.hasCommand c = false := Bool.not_eq_true _ ▸ Iff.rfl
  unfold confirmingClose
  simp only [hnot]
  split
  · rename_i h
    rw [queueClose_eq, h.2.2]
    rfl
  · rfl

/-- A draw charged to a source (R131). -/
theorem chargeDraw_eq (w : SourceId) (draw : Nat) (s : State) :
    chargeDraw w draw s = s.updSource w fun x => x.drew (s.sourceEntry w).metered draw := rfl

theorem updSource_updSource (w : SourceId) (f g : Source → Source) (s : State) :
    (s.updSource w f).updSource w g = s.updSource w fun x => g (f x) := by
  unfold State.updSource
  rw [updAt_updAt]

/-- Completion accounting, written out (R59, R113, R131). -/
theorem complete_eq (c : CannonId) (litres : Nat) (s : State) :
    complete c litres s = { s with
      cannons := updAt s.cannons c fun k => { k with burst := none }
      sources := match (s.cannon c).burst with
        | some b => updAt s.sources b.source fun w =>
          { w with committed := w.committed - b.planned }.drew (s.sourceEntry b.source).metered
            (drawn (s.cannonEntry c).flow b.openSeconds litres)
        | none => s.sources
      zones := match (s.cannon c).burst, (s.cannon c).burst.bind (·.credited) with
        | some b, some z => updAt s.zones z fun x =>
          { x with
            mest := min 300 (x.mest + drawn (s.cannonEntry c).flow b.openSeconds litres * b.efficiency /
              (100 * (s.zoneEntry z).area)) }
        | _, _ => s.zones } := by
  unfold complete
  cases hb : (s.cannon c).burst with
  | none =>
    have hkept : (updAt s.cannons c fun k => { k with burst := none }) = s.cannons := updAt_id _ _ _ (by
      have : s.cannons[c].burst = none := hb
      rw [← this])
    rw [hkept]
  | some b =>
    have hdraw : releaseWithDraw b.source b.planned (drawOf (s.cannonEntry c).flow b.openSeconds litres) s =
        s.updSource b.source fun w => { w with committed := w.committed - b.planned }.drew (s.sourceEntry b.source).metered
          (drawn (s.cannonEntry c).flow b.openSeconds litres) := by
      rw [drawOf_eq, releaseWithDraw, release, chargeDraw_eq, updSource_updSource]
      rfl
    simp only [hdraw]
    cases hz : b.credited with
    | none => simp only [Option.bind_some, hz]; rfl
    | some z => simp only [Option.bind_some, hz, wettingCredit, drawOf_eq]; rfl

/-- A cannon that has left its burst for the state `next` (R109, R113). -/
def Cannon.landed (next : CannonState) (k : Cannon) : Cannon :=
  { k with state := next, burst := none, burstTimer := none, ackTimer := none, faultPending := false }

/-- A burst left, written out, with its capacity event (R109, R113, R114). -/
theorem leaveBurst_eq (next : CannonState) (c : CannonId) (litres : Nat) (s : State) :
    leaveBurst next c litres s = capacityDue (s.stationOf c) (s.ended c next litres) := by
  have hcannon : ((complete c litres s).updCannon c fun k =>
      { k with state := next, burstTimer := none, ackTimer := none, faultPending := false }) =
        { complete c litres s with cannons := updAt s.cannons c (Cannon.landed next) } := by
    have hbare : (complete c litres s).cannons = updAt s.cannons c fun k => { k with burst := none } := by rw [complete_eq]
    unfold State.updCannon
    rw [hbare, updAt_updAt]
    rfl
  have hget : ∀ t : State, t.cannons = updAt s.cannons c (Cannon.landed next) →
      t.cannon c = (s.cannon c).landed next := fun t ht =>
    (congrArg (fun v : Vector Cannon 48 => v[c]) ht).trans (updAt_get_self s.cannons c (Cannon.landed next))
  have hstation : State.stationOf { complete c litres s with cannons := updAt s.cannons c (Cannon.landed next) } c =
      s.stationOf c := by
    unfold State.stationOf
    rw [hget _ rfl]
    rfl
  unfold leaveBurst
  dsimp only
  rw [hcannon, leavePlace_of_station hstation, confirmingClose_eq, hget _ rfl, complete_eq]
  rfl

end Sys2Proof.Machine
end

section
namespace Sys2Proof.Machine

/-! ## Capacity events that find nothing to do (R90) -/

/-- No candidate on a FIRE request stands at a quiet station. -/
theorem arbitrateFires_of_quiet (g : StationId) (s : State) (h : s.Quiet g) : arbitrateFires g s = s := by
  have hnone : ((List.finRange 48).filter fun c => s.fireCandidate g c) = [] := by
    refine List.filter_eq_nil_iff.mpr fun c _ hc => ?_
    simp only [State.fireCandidate, Bool.and_eq_true, decide_eq_true_iff] at hc
    obtain ⟨⟨hstation, -⟩, hfire⟩ := hc
    exact absurd ((h.2 c hstation).symm.trans hfire) Bool.false_ne_true
  unfold arbitrateFires
  rw [hnone]
  exact ite_self s

theorem capacityEvent_of_quiet (g : StationId) (s : State) (h : s.Quiet g) : capacityEvent g s = s := by
  have hwalk : walkWaiting g s = s := by
    unfold walkWaiting
    rw [h.1]
    rfl
  unfold capacityEvent
  rw [hwalk, arbitrateFires_of_quiet g s h]

theorem stirs_of_quiet (g : StationId) (s : State) (h : s.Quiet g) : s.stirs g = false := by
  have hfire : ((List.finRange 48).any fun c => decide (s.stationOf c = g) && (s.cannon c).holds .fire) = false := by
    refine List.any_eq_false.mpr fun c _ => ?_
    simpa using h.2 c
  unfold State.stirs
  rw [h.1, hfire]
  rfl

/-- The capacity events due at quiet stations do nothing (R90). -/
theorem settle_of_quiet (s : State) (h : ∀ g ∈ s.dueCapacity, s.Quiet g) : settle s = { s with dueCapacity := [] } := by
  have hquiet : ∀ g ∈ s.dueCapacity.dedup, s.Quiet g := fun g hg => h g (List.mem_dedup.mp hg)
  have horder : dueOrder s = (s.dueCapacity.dedup, s) := by
    have hnone : s.dueCapacity.dedup.filter s.stirs = [] :=
      List.filter_eq_nil_iff.mpr fun g hg => by rw [stirs_of_quiet g s (hquiet g hg)]; exact Bool.false_ne_true
    unfold dueOrder
    simp [hnone]
  have hfold : ∀ gs : List StationId, (∀ g ∈ gs, s.Quiet g) →
      gs.foldl (fun t g => capacityEvent g t) { s with dueCapacity := [] } = { s with dueCapacity := [] } := by
    intro gs
    induction gs with
    | nil => exact fun _ => rfl
    | cons g gs ih =>
      intro hgs
      rw [List.foldl_cons, capacityEvent_of_quiet g { s with dueCapacity := [] } (hgs g List.mem_cons_self)]
      exact ih fun d hd => hgs d (List.mem_cons_of_mem g hd)
  rw [settle_eq_foldl, horder]
  exact hfold _ hquiet

/-! ## What early closes and capacity events leave of the yard -/

/-- A change of a station's places, pointer and lists alone. -/
abbrev Station.PlacesOnly (x y : Station) : Prop :=
  y = { x with pointer := y.pointer, inUse := y.inUse, inUseFlow := y.inUseFlow, waiting := y.waiting, preempt := y.preempt }

/-- A change of a source's committed total alone. -/
abbrev Source.CommittedOnly (x y : Source) : Prop := y = { x with committed := y.committed }

/-- What an early close, a grant, an arbitration or a capacity event leaves: the frame of dispatch, the notices, and of the sources
and stations all but the committed totals, the places and the lists. -/
structure State.YardFrame (s t : State) : Prop where
  dispatch : s.DispatchFrame t
  notices : t.notices = s.notices
  source : ∀ w, (s.source w).CommittedOnly (t.source w)
  station : ∀ g, (s.station g).PlacesOnly (t.station g)

theorem State.YardFrame.trans {s t u : State} (h : s.YardFrame t) (k : t.YardFrame u) : s.YardFrame u where
  dispatch := h.dispatch.trans k.dispatch
  notices := k.notices.trans h.notices
  source w := by rw [k.source w, h.source w]
  station g := by rw [k.station g, h.station g]

/-- A change within the frame of dispatch that leaves the notices, the sources and the stations. -/
theorem State.YardFrame.ofFrame {s t : State} (h : s.DispatchFrame t) (hnotices : t.notices = s.notices)
    (hsources : t.sources = s.sources) (hstations : t.stations = s.stations) : s.YardFrame t where
  dispatch := h
  notices := hnotices
  source w := by
    have hw : t.source w = s.source w := congrArg (fun v : Vector Source 4 => v[w]) hsources
    rw [hw]
  station g := by
    have hg : t.station g = s.station g := congrArg (fun v : Vector Station 4 => v[g]) hstations
    rw [hg]

theorem State.YardFrame.refl (s : State) : s.YardFrame s := .ofFrame (.refl s) rfl rfl rfl

theorem yard_foldl {α : Type} (f : State → α → State) (hf : ∀ (s : State) (a : α), s.YardFrame (f s a)) (l : List α)
    (s : State) : s.YardFrame (l.foldl f s) := by
  induction l generalizing s with
  | nil => exact .refl s
  | cons a l ih => exact (hf s a).trans (ih _)

theorem yard_ite {p : Prop} [Decidable p] {s a b : State} (ha : s.YardFrame a) (hb : s.YardFrame b) :
    s.YardFrame (if p then a else b) := by
  split
  · exact ha
  · exact hb

theorem yard_updCannon (c : CannonId) (f : Cannon → Cannon) (s : State) : s.YardFrame (s.updCannon c f) :=
  .ofFrame (frame_updCannon c f s) rfl rfl rfl

theorem yard_dueCapacity (gs : List StationId) (s : State) : s.YardFrame { s with dueCapacity := gs } :=
  .ofFrame (by constructor <;> rfl) rfl rfl rfl

theorem yard_queueClose (c : CannonId) (s : State) : s.YardFrame (queueClose c s) := by
  rw [queueClose_eq]; exact .ofFrame (by constructor <;> rfl) rfl rfl rfl

theorem yard_updStation (g : StationId) (f : Station → Station) (s : State)
    (hf : ∀ x : Station, x.PlacesOnly (f x)) : s.YardFrame (s.updStation g f) where
  dispatch := frame_updStation g f s
  notices := rfl
  source _ := rfl
  station d := by
    rw [State.station_updStation]
    split
    · rename_i hd; subst hd; exact hf _
    · rfl

theorem yard_mapStations (f : Station → Station) (s : State)
    (hf : ∀ x : Station, x.PlacesOnly (f x)) : s.YardFrame (s.mapStations f) where
  dispatch := frame_mapStations f s
  notices := rfl
  source _ := rfl
  station d := by
    have hd : (s.mapStations f).station d = f (s.station d) := vector_map_get _ _ _
    rw [hd]
    exact hf _

theorem yard_updSource (w : SourceId) (f : Source → Source) (s : State)
    (hf : ∀ x : Source, x.CommittedOnly (f x)) : s.YardFrame (s.updSource w f) where
  dispatch := frame_updSource w f s
  notices := rfl
  source v := by
    rw [State.source_updSource]
    split
    · rename_i hd; subst hd; exact hf _
    · rfl
  station _ := rfl

theorem yard_shuffle {α : Type} (l : List α) (s : State) : s.YardFrame (shuffle l s).2 := by
  obtain ⟨cs, k, h⟩ := shuffle_state l s
  rw [h]; exact .ofFrame (by constructor <;> rfl) rfl rfl rfl

theorem yard_takeClose (c : CannonId) (s : State) : s.YardFrame (takeClose c s) :=
  (((yard_updCannon c _ s).trans (yard_mapStations _ _ fun _ => rfl)).trans (yard_updStation _ _ _ fun _ => rfl)).trans
    (yard_queueClose c _)

theorem yard_walkWaiting (g : StationId) (s : State) : s.YardFrame (walkWaiting g s) :=
  yard_foldl _ (fun t c => yard_ite (yard_takeClose c t) (.refl t)) _ s

theorem yard_startClosing (forFault : Bool) (c : CannonId) (s : State) : s.YardFrame (startClosing forFault c s) :=
  (yard_updCannon c _ s).trans (yard_queueClose c _)

theorem yard_dropUnsent (next : CannonState) (c : CannonId) (s : State) : s.YardFrame (dropUnsent next c s) := by
  have hfreed : s.YardFrame (match (s.cannon c).burst with
      | some b => release b.source b.planned s
      | none => s) := by
    split
    · exact yard_updSource _ _ s fun _ => rfl
    · exact .refl s
  have hcommands (t : State) : t.YardFrame (removeOpen c t) := .ofFrame (frame_removeOpen c t) rfl rfl rfl
  exact ((((hfreed.trans (yard_updCannon c _ _)).trans (hcommands _)).trans (yard_updStation _ _ _ fun _ => rfl)).trans
    (yard_mapStations _ _ fun _ => rfl)).trans (yard_dueCapacity _ _)

theorem yard_earlyClose (c : CannonId) (s : State) : s.YardFrame (earlyClose c s) := by
  unfold earlyClose
  split
  case h_1 => exact yard_ite (yard_dropUnsent .idle c s) (yard_startClosing false c s)
  case h_2 => exact yard_startClosing false c s
  all_goals exact .refl s

theorem yard_closeEach (cs : List CannonId) (s : State) : s.YardFrame (closeEach cs s) :=
  yard_foldl _ (fun t c => yard_earlyClose c t) cs s

theorem yard_grant (g : StationId) (c : CannonId) (r : CannonRequest) (w : SourceId) (s : State) :
    s.YardFrame (grant g c r w s) := by
  have hqueued (t : State) : t.YardFrame (queueOpen c t) := .ofFrame (frame_queueOpen c t) rfl rfl rfl
  have hpointed : s.YardFrame ((takePlace c (queueOpen c (commit w
      (plannedDraw (s.cannonEntry c).flow (s.durationOf g r))
      (s.updCannon c fun k =>
        { k.afterGrant r with
          state := .opening
          burst := some (newBurst r k.target w (plannedDraw (s.cannonEntry c).flow (s.durationOf g r))
            (s.durationOf g r)) })))).updStation g fun x => { x with pointer := nextCannon c }) :=
    ((((yard_updCannon c _ s).trans (yard_updSource w _ _ fun _ => rfl)).trans (hqueued _)).trans
      (yard_updStation _ _ _ fun _ => rfl)).trans (yard_updStation _ _ _ fun _ => rfl)
  cases r
  case fire => exact hpointed.trans (yard_mapStations _ _ fun _ => rfl)
  all_goals exact hpointed

theorem yard_preempt (g : StationId) (c : CannonId) (s : State) : s.YardFrame (preempt g c s) := by
  unfold preempt
  split
  · exact .refl s
  · split
    · exact .refl s
    · exact (yard_earlyClose _ s).trans (yard_updStation _ _ _ fun _ => rfl)

theorem yard_arbitrate (g : StationId) (c : CannonId) (s : State) : s.YardFrame (arbitrate g c s) := by
  unfold arbitrate
  split
  · exact .refl s
  · dsimp only
    split
    · exact yard_grant g c _ _ s
    · split
      · exact yard_preempt g c s
      · exact yard_updCannon c _ s
      · exact .refl s
    · exact yard_updCannon c _ s

theorem yard_capacityEvent (g : StationId) (s : State) : s.YardFrame (capacityEvent g s) :=
  (yard_walkWaiting g s).trans (yard_ite (yard_foldl _ (fun t c => yard_arbitrate g c t) _ _) (.refl _))

theorem yard_dueOrder (s : State) : s.YardFrame (dueOrder s).2 := by
  unfold dueOrder
  dsimp only
  split
  · exact yard_shuffle _ s
  · exact .refl s

/-- The capacity events of a step keep the frame. -/
theorem yard_settle (s : State) : s.YardFrame (settle s) :=
  ((yard_dueOrder s).trans (yard_dueCapacity [] _)).trans (yard_foldl _ (fun t g => yard_capacityEvent g t) _ _)

end Sys2Proof.Machine
end

section
namespace Sys2Proof.Machine

/-! ## What one arbitration can do (R95, R98, R100) -/

/-- A fold that keeps its choice or takes the next element chooses an element of the list. -/
theorem mem_of_foldl_choice {α : Type} (f : Option α → α → Option α) (hf : ∀ best c, f best c = best ∨ f best c = some c)
    (l : List α) (best : Option α) (v : α) (h : l.foldl f best = some v) : best = some v ∨ v ∈ l := by
  induction l generalizing best with
  | nil => exact .inl h
  | cons c l ih =>
    obtain hbest | hmem := ih _ h
    · obtain hf | hf := hf best c <;> rw [hf] at hbest
      · exact .inl hbest
      · cases hbest; exact .inr List.mem_cons_self
    · exact .inr (List.mem_cons_of_mem c hmem)

/-- The chosen victim is one of the station's. -/
theorem mem_victims_of_victim {s : State} {g : StationId} {v : CannonId} (h : s.victim g = some v) : v ∈ s.victims g := by
  refine (mem_of_foldl_choice _ (fun best c => ?_) _ none v h).resolve_left (Option.some_ne_none v).symm
  cases best with
  | none => exact .inr rfl
  | some b =>
    dsimp only
    split
    · exact .inr rfl
    · exact .inl rfl

/-- A victim's burst is in flight and not FIRE, and its early close leaves no place (R100). -/
theorem of_mem_victims {s : State} {g : StationId} {v : CannonId} (h : v ∈ s.victims g) :
    (s.cannon v).routine = true ∧ earlyClose v s = s.shut v false := by
  simp only [State.victims, State.cannonsWhere, List.mem_filter, Bool.and_eq_true, decide_eq_true_iff] at h
  obtain ⟨-, ⟨-, hstate⟩, hburst⟩ := h
  obtain hspraying | ⟨hopening, hsent⟩ := hstate
  · exact ⟨by rw [Cannon.routine, Cannon.flying, Cannon.inFlight, hburst, hspraying]; rfl,
      by rw [earlyClose_spraying s v hspraying, startClosing_eq]⟩
  · exact ⟨by rw [Cannon.routine, Cannon.flying, Cannon.inFlight, hburst, hopening]; rfl,
      by rw [earlyClose_sent s v hopening hsent, startClosing_eq]⟩

/-- The state in which the FIRE cannon `c` has preempted the burst of `v` (R100). -/
def State.preempted (s : State) (g : StationId) (c v : CannonId) : State :=
  (s.shut v false).updStation g fun x => { x with preempt := x.preempt ++ [(c, v)] }

theorem preempt_cases (g : StationId) (c : CannonId) (s : State) :
    preempt g c s = s ∨ ∃ v ∈ s.victims g, preempt g c s = s.preempted g c v := by
  unfold preempt
  split
  · exact .inl rfl
  · split
    · exact .inl rfl
    · rename_i v hv
      have hmem := mem_victims_of_victim hv
      exact .inr ⟨v, hmem, by rw [(of_mem_victims hmem).2, State.preempted]⟩

/-- An arbitration denies, grants or preempts (R95, R98, R100). -/
theorem arbitrate_cases (g : StationId) (c : CannonId) (s : State) :
    arbitrate g c s = s ∨ arbitrate g c s = owe c s ∨
    (∃ r w, (s.cannon c).request = some r ∧ arbitrate g c s = grant g c r w s) ∨
    ∃ v ∈ s.victims g, arbitrate g c s = s.preempted g c v := by
  unfold arbitrate
  split
  · exact .inl rfl
  · rename_i r hr
    dsimp only
    split
    · exact .inr (.inr (.inl ⟨r, _, hr, rfl⟩))
    · split
      · exact (preempt_cases g c s).elim .inl fun h => .inr (.inr (.inr h))
      · exact .inr (.inl rfl)
      · exact .inl rfl
    · exact .inr (.inl rfl)

/-! ## No capacity event brings another (R90) -/

theorem dueCapacity_foldl {α : Type} (f : State → α → State) (hf : ∀ (s : State) (a : α), (f s a).dueCapacity = s.dueCapacity)
    (l : List α) (s : State) : (l.foldl f s).dueCapacity = s.dueCapacity := by
  induction l generalizing s with
  | nil => rfl
  | cons a l ih => exact (ih _).trans (hf s a)

theorem dueCapacity_walkWaiting (g : StationId) (s : State) : (walkWaiting g s).dueCapacity = s.dueCapacity := by
  refine dueCapacity_foldl _ (fun t c => ?_) _ s
  split
  · rw [takeClose_eq]
  · rfl

theorem dueCapacity_grant (g : StationId) (c : CannonId) (r : CannonRequest) (w : SourceId) (s : State) :
    (grant g c r w s).dueCapacity = s.dueCapacity := by
  have hcannon (t : State) (f : Cannon → Cannon) : (t.updCannon c f).dueCapacity = t.dueCapacity := rfl
  have hsource (t : State) (f : Source → Source) : (t.updSource w f).dueCapacity = t.dueCapacity := rfl
  have hstation (t : State) (d : StationId) (f : Station → Station) : (t.updStation d f).dueCapacity = t.dueCapacity := rfl
  have hqueued (t : State) : (queueOpen c t).dueCapacity = t.dueCapacity := rfl
  have hended (t : State) : (endPreemption c t).dueCapacity = t.dueCapacity := rfl
  cases r <;> simp only [grant, takePlace, commit, hcannon, hsource, hstation, hqueued, hended]

theorem dueCapacity_arbitrate (g : StationId) (c : CannonId) (s : State) : (arbitrate g c s).dueCapacity = s.dueCapacity := by
  obtain h | h | ⟨r, w, -, h⟩ | ⟨v, -, h⟩ := arbitrate_cases g c s <;> rw [h]
  · rfl
  · exact dueCapacity_grant g c r w s
  · rfl

theorem dueCapacity_capacityEvent (g : StationId) (s : State) : (capacityEvent g s).dueCapacity = s.dueCapacity := by
  have hfires (t : State) : (arbitrateFires g t).dueCapacity = t.dueCapacity := by
    unfold arbitrateFires
    split
    · exact dueCapacity_foldl _ (fun u c => dueCapacity_arbitrate g c u) _ t
    · rfl
  exact (hfires _).trans (dueCapacity_walkWaiting g s)

/-- After the capacity events of a step none is due. -/
theorem dueCapacity_settle (s : State) : (settle s).dueCapacity = [] :=
  dueCapacity_foldl _ (fun t g => dueCapacity_capacityEvent g t) _ _

end Sys2Proof.Machine
end

section
namespace Sys2Proof.Machine

/-! ## A frame heard at the field port (R6, R155, R160) -/

/-- With the field link UP liveness restarts the timer, and nothing more (R160). -/
theorem linkAlive_field_of_up (s : State) (h : s.fieldPort.up = true) : linkAlive .field s = s.heard .field := by
  have hport : (s.port .field).up = true := h
  unfold linkAlive
  dsimp only
  rw [hport]
  rfl

/-- A well-formed frame at the field port with the link UP, not the part's own, is heard, snooped and passed on (R153, R155). -/
theorem completeFrame_field_of_passes (s : State) (f : Frame) (hup : s.fieldPort.up = true) (h : s.Passes .field f) :
    completeFrame .field f s = passOn .field f (snoop .field f (s.heard .field)) := by
  obtain ⟨hwf, hdest, hroom⟩ := h
  have hroom' : ¬ 4 ≤ ((s.heard .field).port (otherPort .field)).buffer.length := Nat.not_le.mpr hroom
  simp only [completeFrame, hwf, wellFormedFrame, if_neg hdest, linkAlive_field_of_up s hup]
  exact if_neg hroom'

/-- The step of a valve's STATUS is its event with the capacity events it brings, and the frame passed on (R6, R108 to R111). -/
theorem exec_valveStatus {s : State} {f : Frame} {c : CannonId} {body : List Byte} (hh : s.Hears f 17 (.valve c) body)
    {v : ValveReport} {litres : Nat} (hv : readValveStatus body = some (v, litres)) :
    exec (.frameCompletion .field f) s =
      .next (transmitBoth ((settle (valveStatus c v litres (s.heard .field))).relayed .field f)) := by
  obtain ⟨ho, -, hup, hpass, hkind, hrole, hbody⟩ := hh
  have hheard : (s.heard .field).roleOf (frameSource f) = .valve c := hrole
  have hsnoop : snoop .field f (s.heard .field) = settle (valveStatus c v litres (s.heard .field)) := by
    have hsample : ¬ (17 : Byte) = kindSample := by decide
    have hstatus : (17 : Byte) = kindStatus := rfl
    simp only [snoop, hkind, hbody, hheard, hv, if_neg hsample, if_pos hstatus]
  have hdone : completeFrame .field f s = (settle (valveStatus c v litres (s.heard .field))).relayed .field f := by
    rw [completeFrame_field_of_passes s f hup hpass, hsnoop, passOn_of_not_command _ _ _ (by rw [hkind]; decide)]
  have hstep : exec (.frameCompletion .field f) s = .next (stepOf (completeFrame .field f) s) := rfl
  rw [hstep, stepOf_of_settled _ s ho (by rw [hdone]; exact dueCapacity_settle _), hdone]

/-- A valve's event that leaves no capacity event due. -/
theorem exec_valveStatus_leads {s : State} {f : Frame} {c : CannonId} {body : List Byte} (hh : s.Hears f 17 (.valve c) body)
    {v : ValveReport} {litres : Nat} (hv : readValveStatus body = some (v, litres)) (x : State)
    (hx : valveStatus c v litres (s.heard .field) = x) (hdue : x.dueCapacity = []) :
    exec (.frameCompletion .field f) s = .next (transmitBoth (x.relayed .field f)) := by
  rw [exec_valveStatus hh hv, hx, settle_of_nothing_due x hdue]

/-! ## Events that free a place (R90) -/

/-- An outcome that leaves the records outside the yard's dispatch, and what makes a station quiet. -/
structure State.PlaceEvent (s x : State) : Prop where
  records : s.SameRecords x
  waiting : ∀ g, (x.station g).waiting = (s.station g).waiting
  station : ∀ d, (x.cannon d).station = (s.cannon d).station
  request : ∀ d, (x.cannon d).request = (s.cannon d).request

theorem State.PlaceEvent.quiet {s x : State} (h : s.PlaceEvent x) {g : StationId} (hq : s.Quiet g) : x.Quiet g := by
  refine ⟨(h.waiting g).trans hq.1, fun d hd => ?_⟩
  have hfire : (x.cannon d).holds .fire = (s.cannon d).holds .fire := by rw [Cannon.holds, Cannon.holds, h.request d]
  rw [hfire]
  exact hq.2 d ((h.station d).symm.trans hd)

/-- A change of one cannon that keeps its station and request. -/
theorem cannons_updAt_keep {s x : State} {c : CannonId} {f : Cannon → Cannon} (h : x.cannons = updAt s.cannons c f)
    (hf : ∀ k, (f k).station = k.station ∧ (f k).request = k.request) (d : CannonId) :
    (x.cannon d).station = (s.cannon d).station ∧ (x.cannon d).request = (s.cannon d).request := by
  have hd : x.cannon d = if d = c then f (s.cannon c) else s.cannon d :=
    (congrArg (fun v : Vector Cannon 48 => v[d]) h).trans (updAt_get s.cannons c d f)
  rw [hd]
  split
  · rename_i e; subst e; exact hf _
  · exact ⟨rfl, rfl⟩

/-- A place given back with a preemption ended leaves the waiting lists. -/
theorem waiting_of_stations {s x : State} {g : StationId} {f h : Station → Station}
    (hx : x.stations = (updAt s.stations g f).map h) (hf : ∀ y, (f y).waiting = y.waiting)
    (hh : ∀ y, (h y).waiting = y.waiting) (d : StationId) : (x.station d).waiting = (s.station d).waiting := by
  have hd : x.station d = h (if d = g then f (s.station g) else s.station d) := by
    refine (congrArg (fun v : Vector Station 4 => v[d]) hx).trans ((vector_map_get _ _ _).trans ?_)
    exact congrArg h (updAt_get s.stations g d f)
  rw [hd, hh]
  split
  · rename_i e; subst e; exact hf _
  · rfl

theorem placeEvent_ended (s : State) (c : CannonId) (next : CannonState) (litres : Nat) (q : NoticeQueue) :
    s.PlaceEvent { s.ended c next litres with notices := q } where
  records := by constructor <;> rfl
  waiting := waiting_of_stations (s := s) rfl (fun _ => rfl) fun _ => rfl
  station d := (cannons_updAt_keep (s := s) (f := Cannon.landed next) rfl (fun _ => ⟨rfl, rfl⟩) d).1
  request d := (cannons_updAt_keep (s := s) (f := Cannon.landed next) rfl (fun _ => ⟨rfl, rfl⟩) d).2

theorem placeEvent_unsent (s : State) (c : CannonId) (next : CannonState) (q : NoticeQueue) :
    s.PlaceEvent { s.unsent c next with notices := q } where
  records := by constructor <;> rfl
  waiting := waiting_of_stations (s := s) rfl (fun _ => rfl) fun _ => rfl
  station d := (cannons_updAt_keep (s := s) (f := Cannon.landed next) rfl (fun _ => ⟨rfl, rfl⟩) d).1
  request d := (cannons_updAt_keep (s := s) (f := Cannon.landed next) rfl (fun _ => ⟨rfl, rfl⟩) d).2

/-- What a step answers that has come to state `u`, in which a capacity event is due at the station of cannon `c` (R90). -/
abbrev State.Frees (s : State) (o : Host.Outcome State Fault Refusal) (c : CannonId) (u : State) : Prop :=
  (s.Quiet (s.stationOf c) → o = .next (transmitBoth u)) ∧
  ∃ v, o = .next (transmitBoth v) ∧ v.zones = u.zones ∧ v.notices = u.notices ∧ s.SameRecords v ∧
    ∀ w, (v.source w).dayDraw = (u.source w).dayDraw ∧ (v.source w).estimate = (u.source w).estimate

theorem State.SameRecords.trans {s t u : State} (h : s.SameRecords t) (k : t.SameRecords u) : s.SameRecords u where
  phase := k.phase.trans h.phase
  straps := k.straps.trans h.straps
  cfg := k.cfg.trans h.cfg
  masts := k.masts.trans h.masts
  dusts := k.dusts.trans h.dusts
  probes := k.probes.trans h.probes
  clock := k.clock.trans h.clock
  ring := k.ring.trans h.ring
  machines := k.machines.trans h.machines
  machineCounts := k.machineCounts.trans h.machineCounts
  store := k.store.trans h.store
  saving := k.saving.trans h.saving
  storeFound := k.storeFound.trans h.storeFound
  pending := k.pending.trans h.pending

theorem State.DispatchFrame.records {s t : State} (h : s.DispatchFrame t) : s.SameRecords t :=
  ⟨h.phase, h.straps, h.cfg, h.masts, h.dusts, h.probes, h.clock, h.ring, h.machines, h.machineCounts, h.store, h.saving,
    h.storeFound, h.pending⟩

/-- A change at a port leaves every record outside the ports. -/
theorem sameRecords_updPort (s : State) (p : Port) (f : PortState → PortState) : s.SameRecords (s.updPort p f) := by
  cases p <;> constructor <;> rfl

/-- A valve's event that ends a place: its capacity event finds nothing to do at a quiet station, and elsewhere leaves the draws,
the credits and the notices. -/
theorem exec_valveStatus_frees {s : State} {f : Frame} {c : CannonId} {body : List Byte} (hh : s.Hears f 17 (.valve c) body)
    {v : ValveReport} {litres : Nat} (hv : readValveStatus body = some (v, litres)) (x : State)
    (hx : valveStatus c v litres (s.heard .field) = capacityDue (s.stationOf c) x) (hdue : x.dueCapacity = [])
    (hplace : (s.heard .field).PlaceEvent x) :
    s.Frees (exec (.frameCompletion .field f) s) c (x.relayed .field f) := by
  have hexec := exec_valveStatus hh hv
  rw [hx] at hexec
  refine ⟨fun hq => ?_, _, hexec, ?_⟩
  · have hsettled : settle (capacityDue (s.stationOf c) x) = x := by
      rw [settle_of_quiet]
      · exact congrArg (fun gs => { x with dueCapacity := gs }) hdue.symm
      · intro g hg
        have hg : g = s.stationOf c := by
          have : g ∈ x.dueCapacity ++ [s.stationOf c] := hg
          rw [hdue] at this
          simpa using this
        subst hg
        exact hplace.quiet (s := s.heard .field) hq
    rw [hexec, hsettled]
  · have hyard := yard_settle (capacityDue (s.stationOf c) x)
    refine ⟨hyard.dispatch.zones, hyard.notices, ?_, fun w => ?_⟩
    · have hevent := ((sameRecords_updPort s .field _).trans hplace.records).trans (frame_capacityDue (s.stationOf c) x).records
      exact (hevent.trans hyard.dispatch.records).trans (sameRecords_updPort _ _ _)
    · have hw : ((settle (capacityDue (s.stationOf c) x)).relayed .field f).source w =
          (settle (capacityDue (s.stationOf c) x)).source w := rfl
      rw [hw, hyard.source w]
      exact ⟨rfl, rfl⟩

end Sys2Proof.Machine
end

section
namespace Sys2Proof.Machine

/-! ## A valve's STATUS by its cannon's state (R108 to R111) -/

variable {s : State} {c : CannonId}

/-- Two changes that agree on the entry are one change. -/
theorem updAt_congr {α : Type} {n : Nat} (v : Vector α n) (i : Fin n) {f g : α → α} (h : f v[i] = g v[i]) :
    updAt v i f = updAt v i g :=
  vector_ext_fin fun j => by
    rw [updAt_get, updAt_get, h]

/-- An opening cannon's OPEN starts the spraying (R108). -/
theorem statusOpen_opening (h : (s.cannon c).state = .opening) {b : Burst} (hb : (s.cannon c).burst = some b) :
    statusOpen c s = { s with
      cannons := updAt s.cannons c fun k =>
        { k with
          state := .spraying, ackTimer := none, burstTimer := some b.duration
          burst := some { b with counting := true, openSeconds := 0 } }
      commands := s.commands.filter fun q => ¬ (q.cannon = c ∧ q.verb = .openValve) } := by
  have hcannons := updAt_congr s.cannons c
    (f := fun k => { k with
      state := .spraying, ackTimer := none, burstTimer := k.burst.map (·.duration)
      burst := k.burst.map fun b => { b with counting := true, openSeconds := 0 } })
    (g := fun k => { k with
      state := .spraying, ackTimer := none, burstTimer := some b.duration
      burst := some { b with counting := true, openSeconds := 0 } })
    (by
      have hburst : s.cannons[c].burst = some b := hb
      simp only [hburst, Option.map_some])
  rw [← hcannons]
  simp only [statusOpen, h]
  rfl

/-- An OPEN that no burst commanded (R111). -/
theorem statusOpen_uncommanded (h : (s.cannon c).state = .idle ∨ (s.cannon c).state = .fault) :
    statusOpen c s = (raise (.uncommandedOpen c) s).closeArisen c := by
  rw [← closeWithoutBurst_eq c (raise (.uncommandedOpen c) s) (.inr h)]
  obtain h | h := h <;> simp only [statusOpen, h]

theorem statusOpen_unknown (h : (s.cannon c).state = .unknown) : statusOpen c s = s.closeArisen c := by
  rw [← closeWithoutBurst_eq c s (.inl h)]
  simp only [statusOpen, h]

theorem statusOpen_bypassClosed (h : (s.cannon c).state = .bypassClosed) :
    statusOpen c s = s.updCannon c fun k => { k with state := .bypassOpen, bypassSeconds := 0 } := by
  simp only [statusOpen, h]

theorem statusOpen_other (h : (s.cannon c).state ∈ [.spraying, .closing, .stuck, .bypassOpen, .retired]) :
    statusOpen c s = s := by
  simp only [List.mem_cons, List.not_mem_nil, or_false] at h
  obtain h | h | h | h | h := h <;> simp only [statusOpen, h]

/-- A CLOSED in SPRAYING ends the burst with UNEXPECTED-CLOSE (R109). -/
theorem statusClosed_spraying (litres : Nat) (h : (s.cannon c).state = .spraying) {b : Burst}
    (hb : (s.cannon c).burst = some b) :
    statusClosed c litres s = capacityDue (s.stationOf c) { s.ended c .idle litres with
      notices := s.notices.place (.unexpectedClose c (drawn (s.cannonEntry c).flow b.openSeconds litres)) s.stamp } := by
  simp only [statusClosed, h, hb, Option.elim_some, drawOf_eq, leaveBurst_eq]
  rfl

theorem statusClosed_closing (litres : Nat) (h : (s.cannon c).state = .closing) :
    statusClosed c litres s =
      capacityDue (s.stationOf c) (s.ended c (if (s.cannon c).faultPending then .fault else .idle) litres) := by
  simp only [statusClosed, h, leaveBurst_eq]

theorem statusClosed_stuck (litres : Nat) (h : (s.cannon c).state = .stuck) :
    statusClosed c litres s = capacityDue (s.stationOf c) (s.ended c .fault litres) := by
  simp only [statusClosed, h, leaveBurst_eq]

/-- A CLOSED in UNKNOWN makes the cannon IDLE, with a confirming CLOSE (R109, R114). -/
theorem statusClosed_unknown (litres : Nat) (h : (s.cannon c).state = .unknown) :
    statusClosed c litres s = { s with
      cannons := updAt s.cannons c fun k => { k with state := .idle }
      stations := s.stations.map fun g => { g with waiting := g.waiting.filter (· ≠ c) }
      commands := if (s.cannon c).openMark ∧ s.hasCommand c = false then
          s.commands ++ [{ cannon := c, verb := .closeValve }]
        else s.commands } := by
  have hidle : (stopWaiting c (s.updCannon c fun k => { k with state := .idle })).cannon c =
      { s.cannon c with state := .idle } := updAt_get_self _ _ _
  simp only [statusClosed, h, confirmingClose_eq, hidle, true_and]
  rfl

theorem statusClosed_grounded (litres : Nat) (h : (s.cannon c).state = .idle ∨ (s.cannon c).state = .fault) :
    statusClosed c litres s =
      { s with stations := s.stations.map fun g => { g with waiting := g.waiting.filter (· ≠ c) } } := by
  obtain h | h := h <;> simp only [statusClosed, h] <;> rfl

/-- A CLOSED in BYPASS-OPEN charges the draw to the first source of the preferences (R111, R133). -/
theorem statusClosed_bypassOpen (litres : Nat) (h : (s.cannon c).state = .bypassOpen) {w : SourceId} {rest : List SourceId}
    (hw : (s.stationEntry (s.stationOf c)).prefs = w :: rest) :
    statusClosed c litres s = capacityDue (s.stationOf c) { s with
      cannons := updAt s.cannons c fun k => { k with state := .bypassClosed }
      sources := updAt s.sources w fun x =>
        x.drew (s.sourceEntry w).metered (drawn (s.cannonEntry c).flow (s.cannon c).bypassSeconds litres) } := by
  simp only [statusClosed, h, chargeBypass, hw, chargeDraw_eq, drawOf_eq]
  rfl

theorem statusClosed_other (litres : Nat) (h : (s.cannon c).state ∈ [.opening, .bypassClosed, .retired]) :
    statusClosed c litres s = s := by
  simp only [List.mem_cons, List.not_mem_nil, or_false] at h
  obtain h | h | h := h <;> simp only [statusClosed, h]

/-- The state with CANNON-FAULT placed (R110). -/
def State.faultNoted (s : State) (c : CannonId) (u : State) : State :=
  { u with notices := s.notices.place (.cannonFault c .valveFault) s.stamp }

/-- A FAULT in OPENING with the OPEN unsent (R110). -/
theorem statusFault_unsent (litres : Nat) (h : (s.cannon c).state = .opening) (hq : s.openQueued c = true) :
    statusFault c litres s = capacityDue (s.stationOf c) (s.faultNoted c (s.unsent c .fault)) := by
  simp only [statusFault, h, hq, if_true, dropUnsent_eq]
  rfl

theorem statusFault_sent (litres : Nat) (h : (s.cannon c).state = .opening) (hq : s.openQueued c = false) :
    statusFault c litres s = s.faultNoted c (s.shut c true) := by
  simp only [statusFault, h, hq, Bool.false_eq_true, if_false, startClosing_eq]
  rfl

theorem statusFault_spraying (litres : Nat) (h : (s.cannon c).state = .spraying) :
    statusFault c litres s = s.faultNoted c (s.shut c true) := by
  simp only [statusFault, h, startClosing_eq]
  rfl

/-- A FAULT in CLOSING or STUCK ends the burst in FAULT, with CANNON-FAULT unless one is pending (R110). -/
theorem statusFault_closing (litres : Nat) (h : (s.cannon c).state = .closing ∨ (s.cannon c).state = .stuck) :
    statusFault c litres s = capacityDue (s.stationOf c)
      (if (s.cannon c).faultPending then s.ended c .fault litres else s.faultNoted c (s.ended c .fault litres)) := by
  have hleft : statusFault c litres s =
      leaveBurst .fault c litres (if (s.cannon c).faultPending then s else raise (.cannonFault c .valveFault) s) := by
    obtain h | h := h <;> simp only [statusFault, h]
  rw [hleft, leaveBurst_eq]
  split <;> rfl

theorem statusFault_grounded (litres : Nat) (h : (s.cannon c).state = .unknown ∨ (s.cannon c).state = .idle) :
    statusFault c litres s = s.faultNoted c { s with cannons := updAt s.cannons c fun k => { k with state := .fault } } := by
  obtain h | h := h <;> simp only [statusFault, h] <;> rfl

theorem statusFault_other (litres : Nat) (h : (s.cannon c).state ∈ [.fault, .bypassClosed, .bypassOpen, .retired]) :
    statusFault c litres s = s := by
  simp only [List.mem_cons, List.not_mem_nil, or_false] at h
  obtain h | h | h | h := h <;> simp only [statusFault, h]

/-- A close that has arisen and a frame passed on are two changes (R89, R155). -/
theorem closeArisen_relayed (s : State) (c : CannonId) (f : Frame) :
    (s.closeArisen c).relayed .field f = (s.relayed .field f).closeArisen c := by
  have hadmits : (s.relayed .field f).Admits c ↔ s.Admits c := Iff.rfl
  have hwaits : (s.relayed .field f).closeWaiting c = s.closeWaiting c := rfl
  unfold State.closeArisen
  simp only [hadmits, hwaits]
  split
  · rfl
  · split <;> rfl

theorem dueCapacity_closeArisen (s : State) (c : CannonId) : (s.closeArisen c).dueCapacity = s.dueCapacity := by
  unfold State.closeArisen
  split
  · rfl
  · split <;> rfl

end Sys2Proof.Machine
end

section
namespace Sys2Proof.Machine

/-! ## The valve's STATUS frame (R108 to R111) -/

/-- What a STATUS OPEN answers, by its cannon's state (R108, R111). -/
theorem exec_statusOpen (s : State) (f : Frame) (c : CannonId) (l3 l2 l1 l0 : Byte)
    (hh : s.Hears f 17 (.valve c) [1, l3, l2, l1, l0]) :
    let leads := fun u : State => exec (.frameCompletion .field f) s = .next (transmitBoth u)
    (∀ b, (s.cannon c).state = .opening → (s.cannon c).burst = some b →
      leads { s.passedOn f with
        cannons := updAt s.cannons c fun k =>
          { k with
            state := .spraying, ackTimer := none, burstTimer := some b.duration
            burst := some { b with counting := true, openSeconds := 0 } }
        commands := s.commands.filter fun q => ¬ (q.cannon = c ∧ q.verb = .openValve) }) ∧
    ((s.cannon c).state = .idle ∨ (s.cannon c).state = .fault →
      leads ({ s.passedOn f with notices := s.notices.place (.uncommandedOpen c) s.stamp }.closeArisen c)) ∧
    ((s.cannon c).state = .unknown → leads ((s.passedOn f).closeArisen c)) ∧
    ((s.cannon c).state = .bypassClosed →
      leads { s.passedOn f with
        cannons := updAt s.cannons c fun k => { k with state := .bypassOpen, bypassSeconds := 0 } }) ∧
    ((s.cannon c).state ∈ [.spraying, .closing, .stuck, .bypassOpen, .retired] → leads (s.passedOn f)) := by
  have hv : readValveStatus [1, l3, l2, l1, l0] = some (.opened, nat32 l3 l2 l1 l0) := rfl
  have hdue : s.dueCapacity = [] := hh.2.1.1
  have hleads := exec_valveStatus_leads hh hv
  refine ⟨fun b h hb => ?_, fun h => ?_, fun h => ?_, fun h => ?_, fun h => ?_⟩
  · exact hleads _ (statusOpen_opening (s := s.heard .field) h hb) hdue
  · refine (hleads _ (statusOpen_uncommanded (s := s.heard .field) h) ?_).trans ?_
    · exact (dueCapacity_closeArisen _ c).trans hdue
    · rw [closeArisen_relayed]; rfl
  · refine (hleads _ (statusOpen_unknown (s := s.heard .field) h) ?_).trans ?_
    · exact (dueCapacity_closeArisen _ c).trans hdue
    · rw [closeArisen_relayed]; rfl
  · exact hleads _ (statusOpen_bypassClosed (s := s.heard .field) h) hdue
  · exact hleads _ (statusOpen_other (s := s.heard .field) h) hdue

/-- What a STATUS CLOSED answers, by its cannon's state (R109, R111). -/
theorem exec_statusClosed (s : State) (f : Frame) (c : CannonId) (l3 l2 l1 l0 : Byte)
    (hh : s.Hears f 17 (.valve c) [0, l3, l2, l1, l0]) :
    let o := exec (.frameCompletion .field f) s
    let litres := nat32 l3 l2 l1 l0
    let t := s.passedOn f
    (∀ b, (s.cannon c).state = .spraying → (s.cannon c).burst = some b →
      s.Frees o c { t.ended c .idle litres with
        notices := s.notices.place (.unexpectedClose c (drawn (s.cannonEntry c).flow b.openSeconds litres)) s.stamp }) ∧
    ((s.cannon c).state = .closing → s.Frees o c (t.ended c (if (s.cannon c).faultPending then .fault else .idle) litres)) ∧
    ((s.cannon c).state = .stuck → s.Frees o c (t.ended c .fault litres)) ∧
    ((s.cannon c).state = .unknown →
      o = .next (transmitBoth { t with
        cannons := updAt s.cannons c fun k => { k with state := .idle }
        stations := s.stations.map fun g => { g with waiting := g.waiting.filter (· ≠ c) }
        commands := if (s.cannon c).openMark ∧ s.hasCommand c = false then
            s.commands ++ [{ cannon := c, verb := .closeValve }]
          else s.commands })) ∧
    ((s.cannon c).state = .idle ∨ (s.cannon c).state = .fault →
      o = .next (transmitBoth
        { t with stations := s.stations.map fun g => { g with waiting := g.waiting.filter (· ≠ c) } })) ∧
    (∀ w rest, (s.cannon c).state = .bypassOpen → (s.stationEntry (s.stationOf c)).prefs = w :: rest →
      s.Frees o c { t with
        cannons := updAt s.cannons c fun k => { k with state := .bypassClosed }
        sources := updAt s.sources w fun x =>
          x.drew (s.sourceEntry w).metered (drawn (s.cannonEntry c).flow (s.cannon c).bypassSeconds litres) }) ∧
    ((s.cannon c).state ∈ [.opening, .bypassClosed, .retired] → o = .next (transmitBoth t)) := by
  have hv : readValveStatus [0, l3, l2, l1, l0] = some (.closed, nat32 l3 l2 l1 l0) := rfl
  have hdue : s.dueCapacity = [] := hh.2.1.1
  have hleads := exec_valveStatus_leads hh hv
  have hfrees := exec_valveStatus_frees hh hv
  refine ⟨fun b h hb => ?_, fun h => ?_, fun h => ?_, fun h => ?_, fun h => ?_, fun w rest h hw => ?_, fun h => ?_⟩
  · exact hfrees _ (statusClosed_spraying (s := s.heard .field) _ h hb) hdue (placeEvent_ended _ c _ _ _)
  · exact hfrees _ (statusClosed_closing (s := s.heard .field) _ h) hdue (placeEvent_ended _ c _ _ s.notices)
  · exact hfrees _ (statusClosed_stuck (s := s.heard .field) _ h) hdue (placeEvent_ended _ c _ _ s.notices)
  · exact hleads _ (statusClosed_unknown (s := s.heard .field) _ h) hdue
  · exact hleads _ (statusClosed_grounded (s := s.heard .field) _ h) hdue
  · refine hfrees _ (statusClosed_bypassOpen (s := s.heard .field) _ h hw) hdue ⟨by constructor <;> rfl, fun _ => rfl, ?_, ?_⟩
    · exact fun d => (cannons_updAt_keep (s := s) (f := fun k => { k with state := .bypassClosed }) rfl (fun _ => ⟨rfl, rfl⟩) d).1
    · exact fun d => (cannons_updAt_keep (s := s) (f := fun k => { k with state := .bypassClosed }) rfl (fun _ => ⟨rfl, rfl⟩) d).2
  · exact hleads _ (statusClosed_other (s := s.heard .field) _ h) hdue

/-- What a STATUS FAULT answers, by its cannon's state (R110, R111). -/
theorem exec_statusFault (s : State) (f : Frame) (c : CannonId) (l3 l2 l1 l0 : Byte)
    (hh : s.Hears f 17 (.valve c) [2, l3, l2, l1, l0]) :
    let o := exec (.frameCompletion .field f) s
    let leads := fun u : State => o = .next (transmitBoth u)
    let litres := nat32 l3 l2 l1 l0
    let t := s.passedOn f
    ((s.cannon c).state = .opening → s.openQueued c → s.Frees o c (s.faultNoted c (t.unsent c .fault))) ∧
    ((s.cannon c).state = .opening → s.openQueued c = false → leads (s.faultNoted c (t.shut c true))) ∧
    ((s.cannon c).state = .spraying → leads (s.faultNoted c (t.shut c true))) ∧
    ((s.cannon c).state = .closing ∨ (s.cannon c).state = .stuck →
      s.Frees o c (if (s.cannon c).faultPending then t.ended c .fault litres
        else s.faultNoted c (t.ended c .fault litres))) ∧
    ((s.cannon c).state = .unknown ∨ (s.cannon c).state = .idle →
      leads (s.faultNoted c { t with cannons := updAt s.cannons c fun k => { k with state := .fault } })) ∧
    ((s.cannon c).state ∈ [.fault, .bypassClosed, .bypassOpen, .retired] → leads t) := by
  have hv : readValveStatus [2, l3, l2, l1, l0] = some (.fault, nat32 l3 l2 l1 l0) := rfl
  have hdue : s.dueCapacity = [] := hh.2.1.1
  have hleads := exec_valveStatus_leads hh hv
  have hfrees := exec_valveStatus_frees hh hv
  refine ⟨fun h hq => ?_, fun h hq => ?_, fun h => ?_, fun h => ?_, fun h => ?_, fun h => ?_⟩
  · exact hfrees _ (statusFault_unsent (s := s.heard .field) _ h hq) hdue (placeEvent_unsent _ c _ _)
  · exact hleads _ (statusFault_sent (s := s.heard .field) _ h hq) hdue
  · exact hleads _ (statusFault_spraying (s := s.heard .field) _ h) hdue
  · have hevent := statusFault_closing (s := s.heard .field) (nat32 l3 l2 l1 l0) h
    have hpending : ((s.heard .field).cannon c).faultPending = (s.cannon c).faultPending := rfl
    rw [hpending] at hevent
    by_cases hp : (s.cannon c).faultPending = true
    · rw [if_pos hp] at hevent ⊢
      exact hfrees _ hevent hdue (placeEvent_ended _ c _ _ s.notices)
    · rw [if_neg hp] at hevent ⊢
      exact hfrees _ hevent hdue (placeEvent_ended _ c _ _ _)
  · exact hleads _ (statusFault_grounded (s := s.heard .field) _ h) hdue
  · exact hleads _ (statusFault_other (s := s.heard .field) _ h) hdue

/-- Settles O15: each state's event written out, with the capacity event that follows one that ends a place. -/
theorem valveOpenStartsSpraying : Obligations.ValveOpenStartsSpraying := fun s f c l3 l2 l1 l0 =>
  ⟨exec_statusOpen s f c l3 l2 l1 l0, exec_statusClosed s f c l3 l2 l1 l0, exec_statusFault s f c l3 l2 l1 l0⟩

end Sys2Proof.Machine
end

section
namespace Sys2Proof.Machine

/-! ## Close waiting lists (R89) -/

theorem closeWaiting_iff (s : State) (c : CannonId) : s.closeWaiting c = true ↔ ∃ g, c ∈ (s.station g).waiting := by
  simp only [State.closeWaiting, List.any_eq_true, decide_eq_true_iff, Vector.mem_toList_iff, Vector.mem_iff_getElem]
  constructor
  · rintro ⟨x, ⟨i, hi, rfl⟩, hc⟩
    exact ⟨⟨i, hi⟩, hc⟩
  · rintro ⟨g, hc⟩
    exact ⟨_, ⟨g.val, g.isLt, rfl⟩, hc⟩

/-- A cannon that waits for a close is in UNKNOWN, IDLE or FAULT (R89). -/
theorem grounded_of_closeWaiting {s : State} (h : s.WaitingHeld) {c : CannonId} (hc : s.closeWaiting c = true) :
    (s.cannon c).state = .unknown ∨ (s.cannon c).state = .idle ∨ (s.cannon c).state = .fault := by
  obtain ⟨g, hg⟩ := (closeWaiting_iff s c).mp hc
  exact ((h g).2 c hg).2

/-- A cannon in flight does not wait for a close. -/
theorem not_closeWaiting_of_inFlight {s : State} (h : s.WaitingHeld) {c : CannonId} (hc : (s.cannon c).inFlight = true) :
    s.closeWaiting c = false := by
  refine Bool.eq_false_iff.mpr fun hw => ?_
  simp only [Cannon.inFlight, decide_eq_true_iff] at hc
  obtain hg | hg | hg := grounded_of_closeWaiting h hw <;> rw [hg] at hc <;> simp at hc

/-- Lists that only lose cannons, and cannons that stay as they were while they wait. -/
theorem waitingHeld_of_sublist {s t : State} (h : s.WaitingHeld)
    (hsub : ∀ g, (t.station g).waiting.Sublist (s.station g).waiting)
    (hkept : ∀ c, t.closeWaiting c = true → t.cannon c = s.cannon c) : t.WaitingHeld := by
  refine fun g => ⟨(h g).1.sublist (hsub g), fun c hc => ?_⟩
  have hsame := hkept c ((closeWaiting_iff t c).mpr ⟨g, hc⟩)
  rw [State.stationOf, hsame]
  exact (h g).2 c ((hsub g).subset hc)

/-! ## What capacity events do to a cannon (R90) -/

/-- What capacity events may have done to a cannon: nothing, the admission of its waiting close, a grant of its FIRE request, or
an early close of its burst for one. -/
inductive State.Moved (s t : State) (c : CannonId) : Prop
  | kept (h : t.cannon c = s.cannon c)
  | admitted (hwaits : s.closeWaiting c = true)
      (h : t.cannon c = { s.cannon c with state := .closing, faultPending := decide ((s.cannon c).state = .fault) })
      (hleft : t.closeWaiting c = false)
  | granted (hfire : (s.cannon c).holds .fire = true) (hidle : (s.cannon c).state = .idle)
      (hopening : (t.cannon c).state = .opening) (hroutine : (t.cannon c).routine = false)
      (hleft : t.closeWaiting c = false)
  | preempted (hroutine : (s.cannon c).routine = true) (h : t.cannon c = (s.shut c false).cannon c)

/-- The cannons, the close waiting lists and the commands after capacity events. -/
structure State.Moves (s t : State) : Prop where
  held : t.WaitingHeld
  waiting : ∀ c, t.closeWaiting c = true → s.closeWaiting c = true
  commands : ∀ c, s.hasCommand c = true → t.hasCommand c = true
  cannons : ∀ c, s.Moved t c

theorem shut_cannon (s : State) (c : CannonId) (forFault : Bool) :
    (s.shut c forFault).cannon c = { s.cannon c with
      state := .closing, burstTimer := none, ackTimer := none
      faultPending := (s.cannon c).faultPending || forFault } := updAt_get_self _ _ _

theorem shut_cannon_ne (s : State) {c d : CannonId} (forFault : Bool) (h : d ≠ c) :
    (s.shut c forFault).cannon d = s.cannon d := updAt_get_ne _ _ _ _ h

theorem routine_inFlight {k : Cannon} (h : k.routine = true) : k.inFlight = true := ((routine_iff k).mp h).1

theorem inFlight_eq_false_of_closing {k : Cannon} (h : k.state = .closing) : k.inFlight = false := by
  rw [Cannon.inFlight, h]; rfl

theorem State.Moved.trans {s t u : State} (ht : t.WaitingHeld) (hshrinks : u.closeWaiting c = true → t.closeWaiting c = true)
    (hst : t.closeWaiting c = true → s.closeWaiting c = true) (h : s.Moved t c) (k : t.Moved u c) : s.Moved u c := by
  have hleft (hl : t.closeWaiting c = false) : u.closeWaiting c = false :=
    Bool.eq_false_iff.mpr fun hu => absurd (hl.symm.trans (hshrinks hu)) Bool.false_ne_true
  cases h with
  | kept h =>
    cases k with
    | kept k => exact .kept (k.trans h)
    | admitted hw k hl => exact .admitted (hst hw) (by rw [k, h]) hl
    | granted hf hi ho hr hl => exact .granted (by rwa [h] at hf) (by rwa [h] at hi) ho hr hl
    | preempted hr k => exact .preempted (by rwa [h] at hr) (by rw [k, shut_cannon, shut_cannon, h])
  | admitted hw h hl =>
    cases k with
    | kept k => exact .admitted hw (k.trans h) (hleft hl)
    | admitted hw' => exact absurd (hl.symm.trans hw') Bool.false_ne_true
    | granted _ hi => rw [h] at hi; cases hi
    | preempted hr =>
      have := inFlight_eq_false_of_closing (congrArg Cannon.state h)
      exact absurd (this.symm.trans (routine_inFlight hr)) Bool.false_ne_true
  | granted hf hi ho hr hl =>
    cases k with
    | kept k => exact .granted hf hi (by rwa [k]) (by rwa [k]) (hleft hl)
    | admitted hw' => exact absurd (hl.symm.trans hw') Bool.false_ne_true
    | granted _ hi' => rw [ho] at hi'; cases hi'
    | preempted hr' => exact absurd (hr.symm.trans hr') Bool.false_ne_true
  | preempted hr h =>
    have hclosing : (t.cannon c).state = .closing := by rw [h, shut_cannon]
    cases k with
    | kept k => exact .preempted hr (k.trans h)
    | admitted hw' =>
      obtain hg | hg | hg := grounded_of_closeWaiting ht hw' <;> rw [hclosing] at hg <;> cases hg
    | granted _ hi => rw [hclosing] at hi; cases hi
    | preempted hr' =>
      exact absurd ((inFlight_eq_false_of_closing hclosing).symm.trans (routine_inFlight hr')) Bool.false_ne_true

theorem State.Moves.trans {s t u : State} (h : s.Moves t) (k : t.Moves u) : s.Moves u where
  held := k.held
  waiting c hc := h.waiting c (k.waiting c hc)
  commands c hc := k.commands c (h.commands c hc)
  cannons c := (h.cannons c).trans h.held (k.waiting c) (h.waiting c) (k.cannons c)

/-- A change that leaves the cannons, the waiting lists and the commands. -/
theorem State.Moves.ofSame {s t : State} (h : s.WaitingHeld) (hcannons : ∀ c, t.cannon c = s.cannon c)
    (hwaiting : ∀ g, (t.station g).waiting = (s.station g).waiting) (hcommands : t.commands = s.commands) : s.Moves t where
  held := waitingHeld_of_sublist h (fun g => by rw [hwaiting g]) fun c _ => hcannons c
  waiting c hc := by
    obtain ⟨g, hg⟩ := (closeWaiting_iff t c).mp hc
    exact (closeWaiting_iff s c).mpr ⟨g, hwaiting g ▸ hg⟩
  commands c hc := by rw [State.hasCommand, hcommands]; exact hc
  cannons c := .kept (hcannons c)

theorem State.Moves.refl {s : State} (h : s.WaitingHeld) : s.Moves s := .ofSame h (fun _ => rfl) (fun _ => rfl) rfl

/-! ## Admissions (R89, R90) -/

theorem waiting_updStation (s : State) (e : StationId) (f : Station → Station) (hf : ∀ x, (f x).waiting = x.waiting)
    (g : StationId) : ((s.updStation e f).station g).waiting = (s.station g).waiting := by
  rw [State.station_updStation]
  split
  · rename_i h; subst h; exact hf _
  · rfl

theorem waiting_mapStations (s : State) (f : Station → Station) (hf : ∀ x, (f x).waiting = x.waiting) (g : StationId) :
    ((s.mapStations f).station g).waiting = (s.station g).waiting := by
  have hget : (s.mapStations f).station g = f (s.station g) := vector_map_get _ _ _
  rw [hget, hf]

theorem waiting_takePlace (c : CannonId) (s : State) (g : StationId) :
    ((takePlace c s).station g).waiting = (s.station g).waiting := waiting_updStation s _ _ (by exact fun _ => rfl) g

/-- An admitted close leaves every waiting list, and the others wait as before (R89). -/
theorem waiting_takeClose (c : CannonId) (s : State) (g : StationId) :
    ((takeClose c s).station g).waiting = (s.station g).waiting.filter (· ≠ c) := by
  have hqueued (t : State) : (queueClose c t).station g = t.station g := by rw [queueClose_eq]; rfl
  have hstopped (t : State) : ((stopWaiting c t).station g).waiting = (t.station g).waiting.filter (· ≠ c) :=
    congrArg Station.waiting (vector_map_get t.stations (fun x => { x with waiting := x.waiting.filter (· ≠ c) }) g)
  unfold takeClose
  rw [hqueued, waiting_takePlace, hstopped]
  rfl

theorem closeWaiting_takeClose (c d : CannonId) (s : State) :
    (takeClose c s).closeWaiting d = true ↔ d ≠ c ∧ s.closeWaiting d = true := by
  simp only [closeWaiting_iff, waiting_takeClose, List.mem_filter, decide_eq_true_iff, exists_and_right]
  exact and_comm

theorem hasCommand_append {s : State} {q : List Command} {c : CannonId} (h : s.hasCommand c = true) :
    State.hasCommand { s with commands := s.commands ++ q } c = true := by
  rw [State.hasCommand, List.any_append, Bool.or_eq_true]
  exact .inl h

theorem hasCommand_takeClose {c d : CannonId} {s : State} (h : s.hasCommand d = true) : (takeClose c s).hasCommand d = true := by
  rw [takeClose_eq]
  by_cases hc : s.hasCommand c = true
  · rw [if_pos hc]; exact h
  · rw [if_neg hc]; exact hasCommand_append h

theorem moves_takeClose {c : CannonId} {s : State} (h : s.WaitingHeld) (hc : s.closeWaiting c = true) :
    s.Moves (takeClose c s) where
  held := waitingHeld_of_sublist h (fun g => by rw [waiting_takeClose]; exact List.filter_sublist) fun d hd =>
    takeClose_cannon_ne s c d ((closeWaiting_takeClose c d s).mp hd).1
  waiting d hd := ((closeWaiting_takeClose c d s).mp hd).2
  commands d hd := hasCommand_takeClose hd
  cannons d := by
    by_cases hd : d = c
    · subst hd
      exact .admitted hc (takeClose_cannon s d)
        (Bool.eq_false_iff.mpr fun e => ((closeWaiting_takeClose d d s).mp e).1 rfl)
    · exact .kept (takeClose_cannon_ne s c d hd)

theorem moves_walkWaiting (g : StationId) {s : State} (h : s.WaitingHeld) : s.Moves (walkWaiting g s) := by
  have hwalk : ∀ (cs : List CannonId) (t : State), t.WaitingHeld → cs.Nodup → (∀ c ∈ cs, t.closeWaiting c = true) →
      t.Moves (cs.foldl (fun t c => if t.canClose c then takeClose c t else t) t) := by
    intro cs
    induction cs with
    | nil => exact fun t ht _ _ => .refl ht
    | cons c cs ih =>
      intro t ht hnodup hcs
      obtain ⟨hc, hrest⟩ := List.nodup_cons.mp hnodup
      rw [List.foldl_cons]
      split
      · have hone := moves_takeClose ht (hcs c List.mem_cons_self)
        refine hone.trans (ih _ hone.held hrest fun d hd => ?_)
        exact (closeWaiting_takeClose c d t).mpr ⟨fun e => hc (e ▸ hd), hcs d (List.mem_cons_of_mem c hd)⟩
      · exact ih t ht hrest fun d hd => hcs d (List.mem_cons_of_mem c hd)
  exact hwalk _ s h (h g).1 fun c hc => (closeWaiting_iff s c).mpr ⟨g, hc⟩

/-! ## Grants and preemptions (R97, R99, R100) -/

/-- A cannon whose FIRE request may be granted: it holds one, is IDLE, and does not wait for a close (R93, R99). -/
structure State.MayFire (s : State) (c : CannonId) : Prop where
  fire : (s.cannon c).holds .fire = true
  idle : (s.cannon c).state = .idle
  free : s.closeWaiting c = false

theorem mayFire_of_candidate {s : State} {g : StationId} {c : CannonId} (h : s.fireCandidate g c = true) : s.MayFire c := by
  simp only [State.fireCandidate, State.ready, Bool.and_eq_true, decide_eq_true_iff, Bool.not_eq_true'] at h
  obtain ⟨⟨-, ⟨⟨⟨-, hidle⟩, hfree⟩, -⟩, -⟩, hfire⟩ := h
  exact ⟨hfire, hidle, hfree⟩

/-- A grant leaves the waiting lists. -/
theorem waiting_grant (g : StationId) (c : CannonId) (r : CannonRequest) (w : SourceId) (s : State) (d : StationId) :
    ((grant g c r w s).station d).waiting = (s.station d).waiting := by
  have hended (t : State) : ((endPreemption c t).station d).waiting = (t.station d).waiting :=
    waiting_mapStations t _ (by exact fun _ => rfl) d
  have hpointed (t : State) : ((t.updStation g fun x => { x with pointer := nextCannon c }).station d).waiting =
      (t.station d).waiting := waiting_updStation t g _ (by exact fun _ => rfl) d
  have hqueued (t : State) : (queueOpen c t).station d = t.station d := rfl
  have hcommitted (t : State) (planned : Nat) : (commit w planned t).station d = t.station d := rfl
  have hopened (t : State) (f : Cannon → Cannon) : (t.updCannon c f).station d = t.station d := rfl
  cases r <;> simp only [grant, hended, hpointed, waiting_takePlace, hqueued, hcommitted, hopened]

theorem commands_grant (g : StationId) (c : CannonId) (r : CannonRequest) (w : SourceId) (s : State) :
    (grant g c r w s).commands = s.commands ++ [{ cannon := c, verb := .openValve }] := by
  cases r <;> rfl

end Sys2Proof.Machine
end

section
namespace Sys2Proof.Machine

/-! ## Arbitration of FIRE requests (R97, R99, R100) -/

theorem closeWaiting_congr {s t : State} (h : ∀ g, (t.station g).waiting = (s.station g).waiting) (c : CannonId) :
    t.closeWaiting c = s.closeWaiting c := by
  rw [Bool.eq_iff_iff, closeWaiting_iff, closeWaiting_iff]
  simp only [h]

/-- A change that leaves the waiting lists, and of the cannons those that wait. -/
theorem State.Moves.ofWaiting {s t : State} (h : s.WaitingHeld) (hwaiting : ∀ g, (t.station g).waiting = (s.station g).waiting)
    (hkept : ∀ c, s.closeWaiting c = true → t.cannon c = s.cannon c)
    (hcommands : ∀ c, s.hasCommand c = true → t.hasCommand c = true) (hcannons : ∀ c, s.Moved t c) : s.Moves t where
  held := waitingHeld_of_sublist h (fun g => by rw [hwaiting g]) fun c hc =>
    hkept c (by rwa [closeWaiting_congr hwaiting] at hc)
  waiting c hc := by rwa [closeWaiting_congr hwaiting] at hc
  commands := hcommands
  cannons := hcannons

theorem moves_grant (g : StationId) {c : CannonId} {r : CannonRequest} (w : SourceId) {s : State} (h : s.WaitingHeld)
    (hc : s.MayFire c) (hr : (s.cannon c).request = some r) : s.Moves (grant g c r w s) := by
  have hcls : r.cls = .fire := fireOnly_of_holds s c hc.fire r hr
  have hwaiting := waiting_grant g c r w s
  refine .ofWaiting h hwaiting (fun d hd => ?_) (fun d hd => ?_) fun d => ?_
  · rw [grant_cannon, if_neg]
    rintro rfl
    exact absurd (hc.free.symm.trans hd) Bool.false_ne_true
  · rw [State.hasCommand, commands_grant]
    exact hasCommand_append hd
  · by_cases hd : d = c
    · subst hd
      refine .granted hc.fire hc.idle ?_ ?_ ((closeWaiting_congr hwaiting d).trans hc.free) <;> rw [grant_cannon, if_pos rfl]
      simp [Cannon.routine, Cannon.flying, newBurst, hcls]
    · exact .kept (by rw [grant_cannon, if_neg hd])

theorem hasCommand_shut {s : State} {c d : CannonId} {forFault : Bool} (h : s.hasCommand d = true) :
    (s.shut c forFault).hasCommand d = true := by
  by_cases hc : s.hasCommand c = true
  · rw [State.shut, if_pos hc]; exact h
  · rw [State.shut, if_neg hc]; exact hasCommand_append h

theorem hasCommand_shut_self (s : State) (c : CannonId) (forFault : Bool) : (s.shut c forFault).hasCommand c = true := by
  rw [← startClosing_eq]
  exact hasCommand_queueClose c _

theorem moves_preempted (g : StationId) (c : CannonId) {v : CannonId} {s : State} (h : s.WaitingHeld)
    (hv : (s.cannon v).routine = true) : s.Moves (s.preempted g c v) := by
  refine .ofWaiting h (fun d => ?_) (fun d hd => ?_) (fun d hd => hasCommand_shut (c := v) (forFault := false) hd) fun d => ?_
  · exact waiting_updStation (s.shut v false) g _ (by exact fun _ => rfl) d
  · refine shut_cannon_ne s false fun e => ?_
    subst e
    exact absurd ((not_closeWaiting_of_inFlight h (routine_inFlight hv)).symm.trans hd) Bool.false_ne_true
  · by_cases hd : d = v
    · subst hd; exact .preempted hv rfl
    · exact .kept (shut_cannon_ne s false hd)

/-- A denial changes no cannon that holds a FIRE request (R98). -/
theorem owe_cannon_of_fire {c : CannonId} {s : State} (hc : (s.cannon c).holds .fire = true) (d : CannonId) :
    (owe c s).cannon d = s.cannon d := by
  have hauto : (s.cannon c).holds .auto = false := by
    unfold Cannon.holds at hc ⊢
    split
    · rename_i r hr
      have hfire : r.cls = .fire := by simpa [hr] using hc
      rw [hfire]
      rfl
    · rfl
  have hget : (owe c s).cannon d = if d = c then (if (s.cannon c).holds .auto then
      { s.cannon c with owed := min 2 ((s.cannon c).owed + 1) } else s.cannon c) else s.cannon d := State.cannon_updCannon s c _ d
  rw [hget, hauto]
  split
  · rename_i e; subst e; rfl
  · rfl

theorem moves_arbitrate (g : StationId) {c : CannonId} {s : State} (h : s.WaitingHeld) (hc : s.MayFire c) :
    s.Moves (arbitrate g c s) := by
  obtain he | he | ⟨r, w, hr, he⟩ | ⟨v, hv, he⟩ := arbitrate_cases g c s <;> rw [he]
  · exact .refl h
  · exact .ofSame h (owe_cannon_of_fire hc.fire) (fun _ => rfl) rfl
  · exact moves_grant g w h hc hr
  · exact moves_preempted g c h (of_mem_victims hv).1

/-- Another cannon's arbitration leaves a cannon that may fire as it was. -/
theorem mayFire_arbitrate (g : StationId) {c d : CannonId} {s : State} (h : s.WaitingHeld) (hc : s.MayFire c)
    (hd : s.MayFire d) (hne : d ≠ c) : (arbitrate g c s).MayFire d := by
  have hcannon : (arbitrate g c s).cannon d = s.cannon d := by
    obtain he | he | ⟨r, w, -, he⟩ | ⟨v, hv, he⟩ := arbitrate_cases g c s <;> rw [he]
    · exact owe_cannon_of_fire hc.fire d
    · rw [grant_cannon, if_neg hne]
    · refine shut_cannon_ne s false fun e => ?_
      subst e
      have hflies := routine_inFlight (of_mem_victims hv).1
      rw [Cannon.inFlight, hd.idle] at hflies
      exact absurd hflies (by decide)
  refine ⟨by rw [hcannon]; exact hd.fire, by rw [hcannon]; exact hd.idle, Bool.eq_false_iff.mpr fun hw => ?_⟩
  exact absurd (hd.free.symm.trans ((moves_arbitrate g h hc).waiting d hw)) Bool.false_ne_true

theorem moves_arbitrateAll (g : StationId) (cs : List CannonId) {s : State} (h : s.WaitingHeld) (hnodup : cs.Nodup)
    (hcs : ∀ c ∈ cs, s.MayFire c) : s.Moves (arbitrateAll g cs s) := by
  induction cs generalizing s with
  | nil => exact .refl h
  | cons c cs ih =>
    obtain ⟨hc, hrest⟩ := List.nodup_cons.mp hnodup
    have hfirst := hcs c List.mem_cons_self
    have hone := moves_arbitrate g h hfirst
    exact hone.trans (ih hone.held hrest fun d hd =>
      mayFire_arbitrate g h hfirst (hcs d (List.mem_cons_of_mem c hd)) fun e => hc (e ▸ hd))

theorem moves_arbitrateFires (g : StationId) {s : State} (h : s.WaitingHeld) : s.Moves (arbitrateFires g s) := by
  unfold arbitrateFires
  split
  · refine moves_arbitrateAll g _ h ?_ fun c hc => ?_
    · exact (List.perm_insertionSort _ _).nodup_iff.mpr ((List.nodup_finRange 48).filter _)
    · rw [State.ranked, List.mem_insertionSort] at hc
      exact mayFire_of_candidate (List.mem_filter.mp hc).2
  · exact .refl h

/-! ## Capacity events (R90) -/

theorem moves_capacityEvent (g : StationId) {s : State} (h : s.WaitingHeld) : s.Moves (capacityEvent g s) :=
  have hwalk := moves_walkWaiting g h
  hwalk.trans (moves_arbitrateFires g hwalk.held)

/-- What the capacity events of a step may do to the cannons. -/
theorem moves_settle {s : State} (h : s.WaitingHeld) : s.Moves (settle s) := by
  have hall : ∀ (gs : List StationId) (t : State), t.WaitingHeld → t.Moves (gs.foldl (fun t g => capacityEvent g t) t) := by
    intro gs
    induction gs with
    | nil => exact fun t ht => .refl ht
    | cons g gs ih =>
      intro t ht
      have hone := moves_capacityEvent g ht
      exact hone.trans (ih _ hone.held)
  have hordered : s.Moves { (dueOrder s).2 with dueCapacity := [] } := by
    have hsame : (dueOrder s).2.cannons = s.cannons ∧ (dueOrder s).2.stations = s.stations ∧
        (dueOrder s).2.commands = s.commands := by
      unfold dueOrder
      dsimp only
      split
      · obtain ⟨cs, k, he⟩ := shuffle_state s.dueCapacity.dedup s
        rw [he]
        exact ⟨rfl, rfl, rfl⟩
      · exact ⟨rfl, rfl, rfl⟩
    obtain ⟨hcannons, hstations, hcommands⟩ := hsame
    exact .ofSame h (fun c => congrArg (fun v : Vector Cannon 48 => v[c]) hcannons)
      (fun g => congrArg (fun v : Vector Station 4 => v[g].waiting) hstations) hcommands
  exact hordered.trans (hall _ _ hordered.held)

end Sys2Proof.Machine
end

section
namespace Sys2Proof.Machine

/-! ## Early closes, one after another (R112) -/

/-- One early close of a list, judged as state `s` was before the list: an OPEN still queued is removed, another burst closed. -/
def State.endEarly (s t : State) (c : CannonId) : State :=
  if (s.cannon c).state = .opening ∧ s.openQueued c then t.unsent c .idle else t.shut c false

/-- An operation that commutes with the two closes commutes with the early closes of a list. -/
theorem foldl_endEarly_comm (s : State) (h : State → State) (hunsent : ∀ t c n, h (State.unsent t c n) = (h t).unsent c n)
    (hshut : ∀ t c b, h (State.shut t c b) = (h t).shut c b) (cs : List CannonId) (t : State) :
    cs.foldl s.endEarly (h t) = h (cs.foldl s.endEarly t) := by
  induction cs generalizing t with
  | nil => rfl
  | cons c cs ih =>
    have hone : s.endEarly (h t) c = h (s.endEarly t c) := by
      unfold State.endEarly
      split
      · exact (hunsent t c _).symm
      · exact (hshut t c _).symm
    rw [List.foldl_cons, List.foldl_cons, hone]
    exact ih _

theorem endEarly_cannon_self (s t : State) (c : CannonId) :
    (s.endEarly t c).cannon c =
      if (s.cannon c).state = .opening ∧ s.openQueued c then (t.unsent c .idle).cannon c else (t.shut c false).cannon c := by
  unfold State.endEarly
  split <;> rfl

theorem unsent_cannon (s : State) (c : CannonId) (next : CannonState) :
    (s.unsent c next).cannon c = { s.cannon c with
      state := next, burst := none, burstTimer := none, ackTimer := none, faultPending := false } := updAt_get_self _ _ _

theorem endEarly_cannon_ne (s t : State) {c d : CannonId} (h : d ≠ c) : (s.endEarly t c).cannon d = t.cannon d := by
  unfold State.endEarly
  split
  · exact updAt_get_ne _ _ _ _ h
  · exact shut_cannon_ne t false h

/-- Another cannon's OPEN stays queued as it was. -/
theorem openQueued_endEarly_ne (s t : State) {c d : CannonId} (h : d ≠ c) : (s.endEarly t c).openQueued d = t.openQueued d := by
  unfold State.endEarly
  split
  · have hany : (t.unsent c .idle).openQueued d =
        (t.commands.filter fun q => ¬ (q.cannon = c ∧ q.verb = .openValve)).any fun q => q.cannon = d ∧ q.verb = .openValve := rfl
    rw [hany, List.any_filter, State.openQueued]
    refine congrArg t.commands.any (funext fun q => ?_)
    by_cases hq : q.cannon = d
    · have hqc : q.cannon ≠ c := hq ▸ h
      simp [hq, h]
    · simp [hq]
  · have hany : (t.shut c false).openQueued d = (if t.hasCommand c then t.commands
        else t.commands ++ [{ cannon := c, verb := .closeValve }]).any fun q => q.cannon = d ∧ q.verb = .openValve := rfl
    rw [hany, State.openQueued]
    split
    · rfl
    · simp

/-- A cannon outside the list stays as it was. -/
theorem foldl_endEarly_cannon_ne (s : State) (cs : List CannonId) (t : State) {d : CannonId} (h : d ∉ cs) :
    (cs.foldl s.endEarly t).cannon d = t.cannon d := by
  induction cs generalizing t with
  | nil => rfl
  | cons c cs ih =>
    obtain ⟨hne, hrest⟩ := not_or.mp fun e => h (List.mem_cons.mpr e)
    rw [List.foldl_cons, ih _ hrest, endEarly_cannon_ne s t hne]

/-- A cannon of the list is closed as its own burst demands. -/
theorem foldl_endEarly_cannon (s : State) (cs : List CannonId) (hnodup : cs.Nodup) (t : State) {c : CannonId} (h : c ∈ cs)
    (ht : t.cannon c = s.cannon c) :
    (cs.foldl s.endEarly t).cannon c =
      if (s.cannon c).state = .opening ∧ s.openQueued c then (s.unsent c .idle).cannon c else (s.shut c false).cannon c := by
  induction cs generalizing t with
  | nil => cases h
  | cons d cs ih =>
    obtain ⟨hd, hrest⟩ := List.nodup_cons.mp hnodup
    rw [List.foldl_cons]
    by_cases hcd : c = d
    · subst hcd
      rw [foldl_endEarly_cannon_ne s cs _ hd, endEarly_cannon_self, unsent_cannon, unsent_cannon, shut_cannon, shut_cannon, ht]
    · exact ih hrest _ ((List.mem_cons.mp h).resolve_left hcd) ((endEarly_cannon_ne s t hcd).trans ht)

theorem hasCommand_endEarly_ne (s t : State) {c d : CannonId} (h : d ≠ c) (hd : t.hasCommand d = true) :
    (s.endEarly t c).hasCommand d = true := by
  unfold State.endEarly
  split
  · obtain ⟨q, hq, hqd⟩ := List.any_eq_true.mp hd
    have hqd := of_decide_eq_true hqd
    refine List.any_eq_true.mpr ⟨q, List.mem_filter.mpr ⟨hq, decide_eq_true fun e => ?_⟩, decide_eq_true hqd⟩
    exact h (hqd.symm.trans e.1)
  · exact hasCommand_shut hd

/-- A burst of the list whose OPEN was sent has its CLOSE queued. -/
theorem hasCommand_foldl_endEarly (s : State) (cs : List CannonId) (hnodup : cs.Nodup) (t : State) {c : CannonId}
    (h : c ∈ cs) (hc : ¬ ((s.cannon c).state = .opening ∧ s.openQueued c = true)) :
    (cs.foldl s.endEarly t).hasCommand c = true := by
  have hkeep : ∀ (l : List CannonId) (u : State), c ∉ l → u.hasCommand c = true →
      (l.foldl s.endEarly u).hasCommand c = true := by
    intro l
    induction l with
    | nil => exact fun _ _ hu => hu
    | cons d l ih =>
      intro u hl hu
      obtain ⟨hne, hrest⟩ := not_or.mp fun e => hl (List.mem_cons.mpr e)
      exact ih _ hrest (hasCommand_endEarly_ne s u hne hu)
  induction cs generalizing t with
  | nil => cases h
  | cons d cs ih =>
    obtain ⟨hd, hrest⟩ := List.nodup_cons.mp hnodup
    rw [List.foldl_cons]
    by_cases hcd : c = d
    · subst hcd
      refine hkeep cs _ hd ?_
      rw [State.endEarly, if_neg hc]
      exact hasCommand_shut_self t c false
    · exact ih hrest _ ((List.mem_cons.mp h).resolve_left hcd)

/-- The state with the capacity events of the stations `gs` due. -/
def State.withDue (s : State) (gs : List StationId) : State := { s with dueCapacity := gs }

/-- An early close of a burst in flight, written out (R112). -/
theorem earlyClose_eq {s t : State} {c : CannonId} (hfly : (s.cannon c).inFlight = true) (hcannon : t.cannon c = s.cannon c)
    (hqueued : t.openQueued c = s.openQueued c) :
    ∃ gs, earlyClose c t = (s.endEarly t c).withDue (t.dueCapacity ++ gs) ∧
      ((s.cannon c).state = .spraying ∨ s.openQueued c = false → gs = []) := by
  have hnone (u : State) : u = u.withDue (u.dueCapacity ++ []) := by rw [List.append_nil]; rfl
  simp only [Cannon.inFlight, decide_eq_true_iff] at hfly
  obtain hopening | hspraying := hfly
  · cases hq : s.openQueued c with
    | true =>
      refine ⟨[t.stationOf c], ?_, fun h => ?_⟩
      · rw [earlyClose_unsent t c (hcannon ▸ hopening) (hqueued.trans hq), dropUnsent_eq, State.endEarly,
          if_pos ⟨hopening, hq⟩]
        rfl
      · rw [hopening] at h
        simp at h
    | false =>
      refine ⟨[], ?_, fun _ => rfl⟩
      rw [earlyClose_sent t c (hcannon ▸ hopening) (hqueued.trans hq), startClosing_eq, State.endEarly,
        if_neg (by simp [hq])]
      exact hnone _
  · refine ⟨[], ?_, fun _ => rfl⟩
    rw [earlyClose_spraying t c (hcannon ▸ hspraying), startClosing_eq, State.endEarly, if_neg (by simp [hspraying])]
    exact hnone _

/-- The early closes of bursts in flight are those that statements write out, with the capacity events of the places freed. -/
theorem closeEach_eq (s : State) (cs : List CannonId) (hnodup : cs.Nodup) (t : State)
    (hfly : ∀ c ∈ cs, (s.cannon c).inFlight = true)
    (hsame : ∀ c ∈ cs, t.cannon c = s.cannon c ∧ t.openQueued c = s.openQueued c) :
    ∃ gs, closeEach cs t = (cs.foldl s.endEarly t).withDue (t.dueCapacity ++ gs) ∧
      ((∀ c ∈ cs, (s.cannon c).state = .spraying ∨ s.openQueued c = false) → gs = []) := by
  induction cs generalizing t with
  | nil => exact ⟨[], by rw [List.append_nil]; rfl, fun _ => rfl⟩
  | cons c cs ih =>
    obtain ⟨hc, hrest⟩ := List.nodup_cons.mp hnodup
    obtain ⟨hcannon, hqueued⟩ := hsame c List.mem_cons_self
    obtain ⟨gs, hone, hnone⟩ := earlyClose_eq (hfly c List.mem_cons_self) hcannon hqueued
    have hne : ∀ d ∈ cs, d ≠ c := fun d hd e => hc (e ▸ hd)
    obtain ⟨gs', hmore, hnone'⟩ := ih hrest (earlyClose c t) (fun d hd => hfly d (List.mem_cons_of_mem c hd)) fun d hd => by
      obtain ⟨hdc, hdq⟩ := hsame d (List.mem_cons_of_mem c hd)
      rw [hone]
      exact ⟨(endEarly_cannon_ne s t (hne d hd)).trans hdc, (openQueued_endEarly_ne s t (hne d hd)).trans hdq⟩
    refine ⟨gs ++ gs', ?_, fun h => ?_⟩
    · have hstep : closeEach (c :: cs) t = closeEach cs (earlyClose c t) := rfl
      rw [hstep, hmore, hone, foldl_endEarly_comm s (fun u => u.withDue (t.dueCapacity ++ gs)) (fun _ _ _ => rfl)
        (fun _ _ _ => rfl), List.foldl_cons]
      exact congrArg (State.withDue _) (List.append_assoc _ _ _)
    · rw [hnone (h c List.mem_cons_self), hnone' fun d hd => h d (List.mem_cons_of_mem c hd)]
      rfl

end Sys2Proof.Machine
end

section
namespace Sys2Proof.Machine

/-! ## Early closes with their capacity events (R90, R99, R112) -/

theorem State.PlaceEvent.refl (s : State) : s.PlaceEvent s :=
  ⟨by constructor <;> rfl, fun _ => rfl, fun _ => rfl, fun _ => rfl⟩

theorem State.PlaceEvent.trans {s t u : State} (h : s.PlaceEvent t) (k : t.PlaceEvent u) : s.PlaceEvent u :=
  ⟨h.records.trans k.records, fun g => (k.waiting g).trans (h.waiting g), fun d => (k.station d).trans (h.station d),
    fun d => (k.request d).trans (h.request d)⟩

theorem placeEvent_shut (s : State) (c : CannonId) (forFault : Bool) : s.PlaceEvent (s.shut c forFault) := by
  have hcannon (d : CannonId) : ((s.shut c forFault).cannon d).station = (s.cannon d).station ∧
      ((s.shut c forFault).cannon d).request = (s.cannon d).request := by
    by_cases hd : d = c
    · subst hd; rw [shut_cannon]; exact ⟨rfl, rfl⟩
    · rw [shut_cannon_ne s forFault hd]; exact ⟨rfl, rfl⟩
  exact ⟨by constructor <;> rfl, fun _ => rfl, fun d => (hcannon d).1, fun d => (hcannon d).2⟩

theorem placeEvent_foldl_endEarly (s : State) (cs : List CannonId) (t : State) : t.PlaceEvent (cs.foldl s.endEarly t) := by
  induction cs generalizing t with
  | nil => exact .refl t
  | cons c cs ih =>
    refine State.PlaceEvent.trans ?_ (ih _)
    unfold State.endEarly
    split
    · exact placeEvent_unsent t c .idle t.notices
    · exact placeEvent_shut t c false

/-- The bursts that an early close of `cs` reaches: each once, in flight, and not FIRE. -/
structure State.Closable (s : State) (cs : List CannonId) : Prop where
  nodup : cs.Nodup
  routine : ∀ c ∈ cs, (s.cannon c).routine = true

variable {s : State} {cs : List CannonId}

theorem State.Closable.inFlight (h : s.Closable cs) {c : CannonId} (hc : c ∈ cs) : (s.cannon c).inFlight = true :=
  routine_inFlight (h.routine c hc)

theorem State.Closable.closeEach (h : s.Closable cs) (hdue : s.dueCapacity = []) :
    ∃ gs, closeEach cs s = (s.endedEarly cs).withDue gs ∧
      ((∀ c ∈ cs, (s.cannon c).state = .spraying ∨ s.openQueued c = false) → gs = []) := by
  obtain ⟨gs, hclosed, hnone⟩ := closeEach_eq s cs h.nodup s (fun c hc => h.inFlight hc) fun _ _ => ⟨rfl, rfl⟩
  exact ⟨gs, by rw [hclosed, hdue]; rfl, hnone⟩

theorem dueCapacity_endedEarly (s : State) (cs : List CannonId) : (s.endedEarly cs).dueCapacity = s.dueCapacity := by
  refine dueCapacity_foldl s.endEarly (fun t c => ?_) cs s
  unfold State.endEarly
  split <;> rfl

/-- At quiet stations, or where no OPEN is removed, nothing follows the early closes (R90, R112). -/
theorem settle_closeEach_quiet (h : s.Closable cs) (hdue : s.dueCapacity = [])
    (hquiet : (∀ g, s.Quiet g) ∨ ∀ c ∈ cs, (s.cannon c).state = .spraying ∨ s.openQueued c = false) :
    settle (closeEach cs s) = s.endedEarly cs := by
  obtain ⟨gs, hclosed, hnone⟩ := h.closeEach hdue
  have hended : (s.endedEarly cs).withDue [] = s.endedEarly cs := by
    have hkept := dueCapacity_endedEarly s cs
    rw [hdue] at hkept
    rw [State.withDue, ← hkept]
  rw [hclosed]
  obtain hquiet | hsent := hquiet
  · have hdue' : (s.endedEarly cs).PlaceEvent ((s.endedEarly cs).withDue gs) :=
      ⟨by constructor <;> rfl, fun _ => rfl, fun _ => rfl, fun _ => rfl⟩
    have hevent := (placeEvent_foldl_endEarly s cs s).trans hdue'
    rw [settle_of_quiet _ fun g _ => hevent.quiet (hquiet g)]
    exact hended
  · rw [hnone hsent, hended]
    exact settle_of_nothing_due _ ((dueCapacity_endedEarly s cs).trans hdue)

/-- The early closes keep the waiting lists, whose cannons are not in flight. -/
theorem waitingHeld_closeEach (h : s.Closable cs) (hdue : s.dueCapacity = []) (hheld : s.WaitingHeld) :
    (closeEach cs s).WaitingHeld ∧ ∀ c, (closeEach cs s).closeWaiting c = s.closeWaiting c := by
  obtain ⟨gs, hclosed, -⟩ := h.closeEach hdue
  have hwaiting : ∀ g, ((closeEach cs s).station g).waiting = (s.station g).waiting := fun g => by
    rw [hclosed]; exact (placeEvent_foldl_endEarly s cs s).waiting g
  refine ⟨waitingHeld_of_sublist hheld (fun g => by rw [hwaiting g]) fun c hc => ?_, closeWaiting_congr hwaiting⟩
  rw [closeWaiting_congr hwaiting] at hc
  refine (closeEach_cannon cs s c).2 fun hmem => ?_
  exact absurd ((not_closeWaiting_of_inFlight hheld (h.inFlight hmem)).symm.trans hc) Bool.false_ne_true

/-- What became of a cannon of the list, whose own close stands whatever the capacity events do to others (R90, R112). -/
theorem settle_closeEach_mem (h : s.Closable cs) (hdue : s.dueCapacity = []) (hheld : s.WaitingHeld) {c : CannonId}
    (hc : c ∈ cs) :
    ((s.cannon c).state = .spraying ∨ s.openQueued c = false →
      (settle (closeEach cs s)).cannon c = (s.shut c false).cannon c ∧ (settle (closeEach cs s)).hasCommand c = true) ∧
    ((s.cannon c).state = .opening → s.openQueued c = true → (s.cannon c).holds .fire = false →
      (settle (closeEach cs s)).cannon c = (s.unsent c .idle).cannon c) := by
  obtain ⟨hheld', hwaits⟩ := waitingHeld_closeEach h hdue hheld
  have hmoves := moves_settle hheld'
  obtain ⟨gs, hclosed, -⟩ := h.closeEach hdue
  have hcannon : (closeEach cs s).cannon c =
      if (s.cannon c).state = .opening ∧ s.openQueued c then (s.unsent c .idle).cannon c else (s.shut c false).cannon c := by
    rw [hclosed]; exact foldl_endEarly_cannon s cs h.nodup s hc rfl
  have hfree : (closeEach cs s).closeWaiting c = false := (hwaits c).trans (not_closeWaiting_of_inFlight hheld (h.inFlight hc))
  have hlanded : ((closeEach cs s).cannon c).inFlight = false := (closeEach_cannon cs s c).1 hc
  have hkept (hnot : ¬ (((closeEach cs s).cannon c).holds .fire = true ∧ ((closeEach cs s).cannon c).state = .idle)) :
      (settle (closeEach cs s)).cannon c = (closeEach cs s).cannon c := by
    cases hmoves.cannons c with
    | kept hk => exact hk
    | admitted hw => exact absurd (hfree.symm.trans hw) Bool.false_ne_true
    | granted hf hi => exact absurd ⟨hf, hi⟩ hnot
    | preempted hr => exact absurd (hlanded.symm.trans (routine_inFlight hr)) Bool.false_ne_true
  refine ⟨fun hsent => ?_, fun hopening hqueued hfire => ?_⟩
  · have hnot : ¬ ((s.cannon c).state = .opening ∧ s.openQueued c = true) := by
      rintro ⟨ho, hq⟩
      rw [ho, hq] at hsent
      simp at hsent
    rw [if_neg hnot] at hcannon
    refine ⟨(hkept fun ⟨_, hi⟩ => ?_).trans hcannon, hmoves.commands c ?_⟩
    · rw [hcannon, shut_cannon] at hi
      cases hi
    · rw [hclosed]
      exact hasCommand_foldl_endEarly s cs h.nodup s hc hnot
  · rw [if_pos ⟨hopening, hqueued⟩] at hcannon
    refine (hkept fun ⟨hf, _⟩ => ?_).trans hcannon
    have hsame : ((s.unsent c .idle).cannon c).holds .fire = (s.cannon c).holds .fire := by rw [unsent_cannon]; rfl
    rw [hcannon, hsame, hfire] at hf
    cases hf

/-- What became of any other cannon (R89, R90, R99, R100). -/
theorem settle_closeEach_not_mem (h : s.Closable cs) (hdue : s.dueCapacity = []) (hheld : s.WaitingHeld) {c : CannonId}
    (hc : c ∉ cs) :
    (settle (closeEach cs s)).cannon c = s.cannon c ∨
    (s.closeWaiting c = true ∧ (settle (closeEach cs s)).cannon c =
      { s.cannon c with state := .closing, faultPending := decide ((s.cannon c).state = .fault) }) ∨
    ((s.cannon c).holds .fire = true ∧ ((settle (closeEach cs s)).cannon c).state = .opening) ∨
    ((s.cannon c).routine = true ∧ (settle (closeEach cs s)).cannon c = (s.shut c false).cannon c) := by
  obtain ⟨hheld', hwaits⟩ := waitingHeld_closeEach h hdue hheld
  have hsame : (closeEach cs s).cannon c = s.cannon c := (closeEach_cannon cs s c).2 hc
  cases (moves_settle hheld').cannons c with
  | kept hk => exact .inl (hk.trans hsame)
  | admitted hw hk _ => exact .inr (.inl ⟨(hwaits c).symm.trans hw, by rw [hk, hsame]⟩)
  | granted hf _ ho _ _ => exact .inr (.inr (.inl ⟨by rwa [hsame] at hf, ho⟩))
  | preempted hr hk => exact .inr (.inr (.inr ⟨by rwa [hsame] at hr, by rw [hk, shut_cannon, shut_cannon, hsame]⟩))

/-- After the closes and what follows no burst of the list but FIRE is in flight. -/
theorem settle_closeEach_routine (cs : List CannonId) (s : State) {c : CannonId} (hc : c ∈ cs) :
    ((settle (closeEach cs s)).cannon c).routine = false := by
  refine Bool.eq_false_iff.mpr fun hr => ?_
  have hflies := routine_inFlight ((tame_settle (closeEach cs s)).routine c hr)
  exact absurd (((closeEach_cannon cs s c).1 hc).symm.trans hflies) Bool.false_ne_true

/-- The early closes of a step, with the reply that follows them (R90, R99, R100, R112). -/
theorem closesEarly_written {o : Host.Outcome State Fault Refusal} (h : s.Closable cs) (hdue : s.dueCapacity = [])
    (source tag : Byte) (ho : o = .next (transmitBoth ((settle (closeEach cs s)).repliedWritten source tag))) :
    ClosesEarly o (s.repliedWritten source tag) cs := by
  refine ⟨fun hquiet => ?_, _, ho, ?_⟩
  · have hended : (s.endedEarly cs).repliedWritten source tag = (s.repliedWritten source tag).endedEarly cs :=
      (foldl_endEarly_comm s (fun t => t.repliedWritten source tag) (fun _ _ _ => rfl) (fun _ _ _ => rfl) cs s).symm
    rw [ho, settle_closeEach_quiet h hdue hquiet, hended]
  have hyard := (yard_closeEach cs s).trans (yard_settle _)
  have hdispatch := hyard.dispatch
  refine ⟨?_, hdispatch.zones, hdispatch.mode, hyard.notices, hdispatch.requests, ?_, hdispatch.controlPort,
    hdispatch.fieldPort, hyard.source, hyard.station, fun c hc => settle_closeEach_routine cs s hc, fun hheld => ⟨fun c hc => ?_,
    fun c hc => ?_⟩⟩
  · obtain ⟨h1, h2, h3, h4, h5, h6, h7, h8, h9, h10, h11, h12, h13, h14⟩ := hdispatch.records
    exact ⟨h1, h2, h3, h4, h5, h6, h7, h8, h9, h10, h11, h12, h13, h14⟩
  · exact congrArg (· ++ [{ dest := source, code := 3, tag := tag, status := .done, body := [1, 255, 255, 0] }]) hdispatch.replies
  · exact settle_closeEach_mem h hdue hheld hc
  · exact settle_closeEach_not_mem h hdue hheld hc

end Sys2Proof.Machine
end

section
namespace Sys2Proof.Machine

/-! ## Sendings leave the zones (R105, R158) -/

theorem zones_updPort (p : Port) (f : PortState → PortState) (s : State) : (s.updPort p f).zones = s.zones := by
  cases p <;> rfl

theorem zones_sendForward (p : Port) (s : State) : (sendForward p s).zones = s.zones := by
  unfold sendForward
  split
  · rfl
  · rw [startSending, zones_updPort, zones_updPort]

theorem zones_sendCommand (s : State) : (sendCommand s).zones = s.zones := by
  unfold sendCommand
  split
  · exact zones_sendForward .field _
  · split
    · rw [startSending, zones_updPort, commandSent]
      split <;> rfl
    · exact zones_sendForward .field _

theorem zones_sendReplyOrNotice (s : State) : (sendReplyOrNotice s).zones = s.zones := by
  unfold sendReplyOrNotice
  split
  · exact zones_updPort _ _ _
  · unfold sendNotice
    split
    · exact zones_updPort _ _ _
    · exact zones_updPort _ _ _
    · rfl
  · rfl

theorem zones_sendFrom (p : Port) (t : Turn) (s : State) : (sendFrom p t s).zones = s.zones := by
  cases t with
  | forward => exact zones_sendForward p s
  | insertion =>
    cases p with
    | field => exact zones_sendCommand s
    | control => exact zones_sendReplyOrNotice s

theorem zones_transmitBoth (s : State) : (transmitBoth s).zones = s.zones := by
  have hport (p : Port) (t : State) : (transmit p t).zones = t.zones := by
    unfold transmit decideIdle
    split
    · split
      · exact zones_sendFrom p _ t.choose
      · exact zones_sendFrom p _ t
      · exact zones_sendFrom p _ t
      · rfl
    · rfl
  exact (hport .control _).trans (hport .field s)

/-! ## Reading back a zone entry (R195) -/

theorem yesNo_byte (b : Bool) : yesNo (byte (boolCode b)).toNat = some b := by cases b <;> rfl

theorem below_byte {n : Nat} (hn : n ≤ 256) (i : Fin n) : below n (byte i.val).toNat = some i := by
  have hi : (byte i.val).toNat = i.val := byte_toNat (by omega)
  rw [hi, below_of_lt i.isLt]

theorem belowOrNone_byte {n : Nat} (hn : n ≤ 255) (x : Option (Fin n)) :
    belowOrNone n (byte ((x.map (·.val)).getD 255)).toNat = some x := by
  cases x with
  | none => rfl
  | some i =>
    have hi : (byte i.val).toNat = i.val := byte_toNat (by omega)
    have hne : ¬ i.val = 255 := by omega
    rw [Option.map_some, Option.getD_some, belowOrNone, hi, if_neg hne, below_of_lt i.isLt, Option.map_some]

/-- A zone entry in range is read from the bytes that lay it out. -/
theorem readZoneEntry_bytes (e : ZoneEntry) (h : e.ok = true) : readZoneEntry e.bytes = some e := by
  obtain ⟨-, h1, -, h2, -, h3⟩ := of_decide_eq_true h
  have hmask := e.sensitive.isLt
  have h0 : yesNo (u8 e.bytes 0) = some e.enabled := yesNo_byte e.enabled
  have h1' : below 8 (u8 e.bytes 1) = some e.primary := below_byte (by decide) e.primary
  have h2' : belowOrNone 8 (u8 e.bytes 2) = some e.fallback := belowOrNone_byte (by decide) e.fallback
  have h3' : belowOrNone 12 (u8 e.bytes 3) = some e.dust := belowOrNone_byte (by decide) e.dust
  have h10 : below 4 (u8 e.bytes 10) = some e.profile := below_byte (by decide) e.profile
  have h13 : yesNo (u8 e.bytes 13) = some e.policy := yesNo_byte e.policy
  have h14 : yesNo (u8 e.bytes 14) = some e.watch := yesNo_byte e.watch
  have hwide : u16 e.bytes 4 = e.threshold ∧ u16 e.bytes 6 = e.mref ∧ u16 e.bytes 8 = e.area ∧
      u16 e.bytes 11 = e.sensitive.toNat :=
    ⟨u16_at _ 4 (by omega) rfl rfl, u16_at _ 6 (by omega) rfl rfl, u16_at _ 8 (by omega) rfl rfl,
      u16_at _ 11 (by omega) rfl rfl⟩
  obtain ⟨h4, h6, h8, h11⟩ := hwide
  simp only [readZoneEntry, h0, h1', h2', h3', h10, h13, h14, h4, h6, h8, h11, BitVec.ofNat_toNat, BitVec.setWidth_eq, h,
    checked, if_true, Option.bind_eq_bind, Option.bind_some]

/-! ## A zone written (R40) -/

/-- The state with the entry of zone `z` written as `e`, its request taken. -/
def State.withZoneEntry (s : State) (rest : List MgmtRequest) (z : ZoneId) (e : ZoneEntry) : State :=
  { s with requests := rest, cfg := { s.cfg with zones := updAt s.cfg.zones z fun _ => e } }

/-- That state after the zone has been enabled or disabled with it (R40). -/
def State.zoneSwitched (s : State) (rest : List MgmtRequest) (z : ZoneId) (e : ZoneEntry) : State :=
  if (s.zoneEntry z).enabled = e.enabled then s.withZoneEntry rest z e
  else if e.enabled then
    { s.withZoneEntry rest z e with
      zones := updAt s.zones z fun x =>
        { x with timer := some { remaining := s.settings.evalPeriod, period := s.settings.evalPeriod } } }
  else
    { s.withZoneEntry rest z e with
      zones := updAt s.zones z fun x =>
        { x with timer := none, blind := false, forecastOnly := false, uplift := false, risk := 0, band := .calm }
      cannons := s.cannons.map fun k => if k.request.any (·.ownedBy z) then { k with request := none, owed := 0 } else k
      notices := if (s.zone z).band = .calm then s.notices
        else s.notices.place (.bandChange z .calm 0) s.stamp }

/-- That state after the re-banding that a new profile number brings (R40, R52). -/
def State.zoneBanded (s : State) (rest : List MgmtRequest) (z : ZoneId) (e : ZoneEntry) : State :=
  if e.profile = (s.zoneEntry z).profile then s.zoneSwitched rest z e else rebandAll [z] (s.zoneSwitched rest z e)

theorem enabledEffect_eq (s : State) (rest : List MgmtRequest) (z : ZoneId) (e : ZoneEntry) :
    enabledEffect z (s.zoneEntry z).enabled e.enabled (s.withZoneEntry rest z e) = s.zoneSwitched rest z e := by
  unfold State.zoneSwitched
  cases ho : (s.zoneEntry z).enabled with
  | true =>
    cases he : e.enabled with
    | true => rfl
    | false => exact disableZone_eq z (s.withZoneEntry rest z e)
  | false =>
    cases he : e.enabled with
    | true => rfl
    | false => rfl

/-- What the switch leaves: all but the entry, the zone, the withdrawn requests and a notice (R40). -/
theorem zoneSwitched_state (s : State) (rest : List MgmtRequest) (z : ZoneId) (e : ZoneEntry) :
    ∃ zones cannons notices, s.zoneSwitched rest z e =
      { s.withZoneEntry rest z e with zones := zones, cannons := cannons, notices := notices } := by
  unfold State.zoneSwitched
  split
  · exact ⟨_, _, _, rfl⟩
  · split <;> exact ⟨_, _, _, rfl⟩

theorem zone_zoneSwitched_ne (s : State) (rest : List MgmtRequest) {z y : ZoneId} (e : ZoneEntry) (h : y ≠ z) :
    (s.zoneSwitched rest z e).zone y = s.zone y := by
  unfold State.zoneSwitched
  split
  · rfl
  · split <;> exact updAt_get_ne _ _ _ _ h

/-- The switch changes no burst (R40, R57). -/
theorem flying_zoneSwitched (s : State) (rest : List MgmtRequest) (z : ZoneId) (e : ZoneEntry) (c : CannonId)
    (p : Burst → Bool) : ((s.zoneSwitched rest z e).cannon c).flying p = (s.cannon c).flying p := by
  unfold State.zoneSwitched
  split
  · rfl
  · split
    · rfl
    · refine (congrArg (Cannon.flying · p) (vector_map_get s.cannons (fun k : Cannon =>
        if k.request.any (·.ownedBy z) then { k with request := none, owed := 0 } else k) c)).trans ?_
      split <;> rfl

/-- What the re-banding leaves of the switched state (R52, R54). -/
theorem zoneBanded_state (s : State) (rest : List MgmtRequest) (z : ZoneId) (e : ZoneEntry) :
    ∃ zones mode lastChange notices choices choiceCount, s.zoneBanded rest z e = { s.zoneSwitched rest z e with
      zones := zones, mode := mode, lastChange := lastChange, notices := notices
      choices := choices, choiceCount := choiceCount } := by
  unfold State.zoneBanded
  split
  · exact ⟨_, _, _, _, _, _, rfl⟩
  · obtain ⟨mode, lastChange, notices, choices, choiceCount, h⟩ := (rebandAll_rebanded z (s.zoneSwitched rest z e)).state
    exact ⟨_, mode, lastChange, notices, choices, choiceCount, h⟩

theorem zone_zoneBanded_ne (s : State) (rest : List MgmtRequest) {z y : ZoneId} (e : ZoneEntry) (h : y ≠ z) :
    (s.zoneBanded rest z e).zone y = s.zone y := by
  unfold State.zoneBanded
  split
  · exact zone_zoneSwitched_ne s rest e h
  · obtain ⟨mode, lastChange, notices, choices, choiceCount, hb⟩ := (rebandAll_rebanded z (s.zoneSwitched rest z e)).state
    rw [hb]
    exact (updAt_get_ne _ _ _ _ h).trans (zone_zoneSwitched_ne s rest e h)

/-- The records that the write's later effects go by. -/
theorem zoneBanded_frame (s : State) (rest : List MgmtRequest) (z : ZoneId) (e : ZoneEntry) :
    (s.zoneBanded rest z e).cfg = (s.withZoneEntry rest z e).cfg ∧
    (s.zoneBanded rest z e).machineCounts = s.machineCounts ∧ (s.zoneBanded rest z e).dueCapacity = s.dueCapacity ∧
    ∀ c p, ((s.zoneBanded rest z e).cannon c).flying p = (s.cannon c).flying p := by
  obtain ⟨zones, mode, lastChange, notices, choices, choiceCount, hb⟩ := zoneBanded_state s rest z e
  obtain ⟨zones', cannons', notices', hs⟩ := zoneSwitched_state s rest z e
  refine ⟨by rw [hb, hs], by rw [hb, hs]; rfl, by rw [hb, hs]; rfl, fun c p => ?_⟩
  rw [hb]
  exact flying_zoneSwitched s rest z e c p

end Sys2Proof.Machine
end

section
namespace Sys2Proof.Machine

/-! ## Exclusion at a zone write (R143) -/

/-- The write starts the exclusion of the zone (R142, R143). -/
abbrev State.ExclusionStarts (s : State) (z : ZoneId) (e : ZoneEntry) : Prop :=
  s.machineCount z ≠ 0 ∧ (s.zoneEntry z).policy = true ∧ e.policy = false

theorem zoneEntry_withZoneEntry (s : State) (rest : List MgmtRequest) (z : ZoneId) (e : ZoneEntry) :
    (s.withZoneEntry rest z e).zoneEntry z = e := updAt_get_self s.cfg.zones z _

theorem excluded_zoneBanded (s : State) (rest : List MgmtRequest) (z : ZoneId) (e : ZoneEntry) :
    (s.zoneBanded rest z e).excluded z = (decide (0 < s.machineCount z) && !e.policy) := by
  obtain ⟨hcfg, hcounts, -, -⟩ := zoneBanded_frame s rest z e
  have hcount : (s.zoneBanded rest z e).machineCount z = s.machineCount z :=
    congrArg (fun v : Vector Nat 32 => v[z]) hcounts
  have hentry : (s.zoneBanded rest z e).zoneEntry z = e :=
    (congrArg (fun t : Tables => t.zones[z]) hcfg).trans (zoneEntry_withZoneEntry s rest z e)
  rw [State.excluded, hcount, hentry]

theorem exclusionStarts_iff (s : State) (rest : List MgmtRequest) (z : ZoneId) (e : ZoneEntry) :
    ((s.zoneBanded rest z e).excluded z && !s.excluded z) = true ↔ s.ExclusionStarts z e := by
  rw [excluded_zoneBanded, State.excluded]
  simp only [Bool.and_eq_true, Bool.not_eq_true', decide_eq_true_iff, Bool.and_eq_false_iff, decide_eq_false_iff_not,
    Bool.not_eq_false', Nat.pos_iff_ne_zero]
  tauto

/-- The bursts that the exclusion closes, as they stood before the write (R143). -/
theorem creditingZone_zoneBanded (s : State) (rest : List MgmtRequest) (z : ZoneId) (e : ZoneEntry) :
    (s.zoneBanded rest z e).creditingZone z = (List.finRange 48).filter fun c =>
      (s.cannon c).flying fun b => decide (b.credited = some z ∧ b.cls ≠ .fire) :=
  List.filter_congr fun c _ => (zoneBanded_frame s rest z e).2.2.2 c _

theorem closable_creditingZone (s : State) (z : ZoneId) : s.Closable (s.creditingZone z) := by
  refine ⟨List.Nodup.filter (fun c => (s.cannon c).flying fun b => decide (b.credited = some z ∧ b.cls ≠ .fire))
    (List.nodup_finRange 48), fun c hc => ?_⟩
  have hflies := (List.mem_filter.mp hc).2
  simp only [Cannon.flying, Bool.and_eq_true, Option.any_eq_true, decide_eq_true_iff] at hflies
  obtain ⟨hfly, b, hb, -, hcls⟩ := hflies
  exact (routine_iff _).mpr ⟨hfly, b.cls, by rw [hb]; rfl, hcls⟩

theorem exclusionAfter_of_starts {s : State} {rest : List MgmtRequest} {z : ZoneId} {e : ZoneEntry}
    (h : s.ExclusionStarts z e) :
    exclusionAfter (s.excluded z) z (s.zoneBanded rest z e) =
      closeEach ((s.zoneBanded rest z e).creditingZone z) (s.zoneBanded rest z e) := by
  rw [exclusionAfter, if_pos ((exclusionStarts_iff s rest z e).mpr h)]

theorem exclusionAfter_of_not_starts {s : State} {rest : List MgmtRequest} {z : ZoneId} {e : ZoneEntry}
    (h : ¬ s.ExclusionStarts z e) :
    exclusionAfter (s.excluded z) z (s.zoneBanded rest z e) = s.zoneBanded rest z e := by
  rw [exclusionAfter, if_neg fun hs => h ((exclusionStarts_iff s rest z e).mp hs)]

/-! ## The zone write (R40, R184) -/

/-- The effect of a zone entry written: the switch, the re-banding and the exclusion, in this order (R40, R143). -/
theorem writeZoneEntry_eq (s : State) (rest : List MgmtRequest) (z : ZoneId) (e : ZoneEntry) (he : e.ok = true) :
    writeZoneEntry z e.bytes { s with requests := rest } = .ok (exclusionAfter (s.excluded z) z (s.zoneBanded rest z e)) := by
  unfold writeZoneEntry
  rw [readZoneEntry_bytes e he]
  dsimp only
  by_cases hold : e = s.zoneEntry z
  · have hkept : s.withZoneEntry rest z e = { s with requests := rest } := by
      rw [State.withZoneEntry, updAt_id s.cfg.zones z _ hold]
    have hbanded : s.zoneBanded rest z e = { s with requests := rest } := by
      rw [State.zoneBanded, if_pos (congrArg ZoneEntry.profile hold), State.zoneSwitched,
        if_pos (congrArg ZoneEntry.enabled hold.symm), hkept]
    have hstarts : ¬ s.ExclusionStarts z e := fun ⟨_, hyes, hno⟩ => by rw [← hold, hno] at hyes; cases hyes
    rw [exclusionAfter_of_not_starts hstarts, hbanded]
    exact if_pos hold
  · refine (if_neg hold).trans ?_
    have hswitched := enabledEffect_eq s rest z e
    unfold State.zoneBanded
    rw [← hswitched]
    rfl

/-- The step of a zone write is its effect, the capacity events that follow, and the reply (R40, R184). -/
theorem exec_writeZone (s : State) (source tag : Byte) (rest : List MgmtRequest) (z : ZoneId) (e : ZoneEntry)
    (hsave : s.saving = none) (ht : s.Takes source ([3, tag, 2, 0, byte z.val, 1] ++ e.bytes) rest) (he : e.ok = true) :
    exec .writeZone s = .next (transmitBoth
      ((settle (exclusionAfter (s.excluded z) z (s.zoneBanded rest z e))).repliedWritten source tag)) := by
  have hz : (byte z.val).toNat = z.val := byte_toNat (by omega)
  have hone : (atEntry (byte z.val).toNat fun i => writeZoneEntry i e.bytes { s with requests := rest }) =
      .ok (exclusionAfter (s.excluded z) z (s.zoneBanded rest z e)) := by
    rw [atEntry_of_lt _ _ (by omega)]
    have hindex : (⟨(byte z.val).toNat, by omega⟩ : ZoneId) = z := Fin.ext hz
    rw [hindex, writeZoneEntry_eq s rest z e he]
  have hin : inTable 2 (byte z.val).toNat = true := by
    have := z.isLt
    rw [hz, inTable, decide_eq_true_iff]
    exact ⟨Nat.zero_le _, this⟩
  exact congrArg _ (stepOf_writeOne .writeZone 2 (fun e l s => atEntry e fun i => writeZoneEntry i l s) s source tag 2
    (byte z.val) rest e.bytes _ hsave ht rfl (by decide) hin rfl rfl hone (dueCapacity_settle _))

section
variable {s : State} {source tag : Byte} {rest : List MgmtRequest} {z : ZoneId} {e : ZoneEntry}

/-- Where no exclusion starts, the write is the switch and the re-banding. -/
theorem exec_writeZone_of_not_starts (hsave : s.saving = none)
    (ht : s.Takes source ([3, tag, 2, 0, byte z.val, 1] ++ e.bytes) rest) (he : e.ok = true) (h : ¬ s.ExclusionStarts z e) :
    exec .writeZone s = .next (transmitBoth ((s.zoneBanded rest z e).repliedWritten source tag)) := by
  have hdue : (s.zoneBanded rest z e).dueCapacity = [] := (zoneBanded_frame s rest z e).2.2.1.trans ht.2.1.1
  rw [exec_writeZone s source tag rest z e hsave ht he, exclusionAfter_of_not_starts h, settle_of_nothing_due _ hdue]

/-- Where one starts, the zone's bursts are closed early (R143). -/
theorem exec_writeZone_of_starts (hsave : s.saving = none)
    (ht : s.Takes source ([3, tag, 2, 0, byte z.val, 1] ++ e.bytes) rest) (he : e.ok = true) (h : s.ExclusionStarts z e) :
    ClosesEarly (exec .writeZone s) ((s.zoneBanded rest z e).repliedWritten source tag)
      ((List.finRange 48).filter fun c =>
        (s.cannon c).flying fun b => decide (b.credited = some z ∧ b.cls ≠ .fire)) := by
  have hdue : (s.zoneBanded rest z e).dueCapacity = [] := (zoneBanded_frame s rest z e).2.2.1.trans ht.2.1.1
  rw [← creditingZone_zoneBanded s rest z e]
  refine closesEarly_written (closable_creditingZone _ z) hdue source tag ?_
  rw [exec_writeZone s source tag rest z e hsave ht he, exclusionAfter_of_starts h]

/-- The write changes no configuration but the entry, and no other zone. -/
theorem writeZone_others (hsave : s.saving = none)
    (ht : s.Takes source ([3, tag, 2, 0, byte z.val, 1] ++ e.bytes) rest) (he : e.ok = true) :
    ∃ t, exec .writeZone s = .next t ∧ t.cfg = (s.withZoneEntry rest z e).cfg ∧ ∀ y, y ≠ z → t.zone y = s.zone y := by
  have hframe : (s.zoneBanded rest z e).DispatchFrame
      (settle (exclusionAfter (s.excluded z) z (s.zoneBanded rest z e))) := by
    refine State.DispatchFrame.trans ?_ (frame_settle _)
    unfold exclusionAfter
    split
    · exact frame_closeEach _ _
    · exact .refl _
  have hexec := exec_writeZone s source tag rest z e hsave ht he
  have hcfg := hframe.cfg.trans (zoneBanded_frame s rest z e).1
  have hzones := hframe.zones
  generalize settle (exclusionAfter (s.excluded z) z (s.zoneBanded rest z e)) = u at hexec hcfg hzones
  have hsent : (transmitBoth (u.repliedWritten source tag)).cfg = u.cfg := (tame_transmitBoth _).cfg
  have hsent' : (transmitBoth (u.repliedWritten source tag)).zones = u.zones := zones_transmitBoth _
  refine ⟨_, hexec, hsent.trans hcfg, fun y hy => ?_⟩
  exact (congrArg (fun v : Vector Zone 32 => v[y]) (hsent'.trans hzones)).trans (zone_zoneBanded_ne s rest e hy)

end

/-! ## The re-banding of a zone write (R52, R54, R173) -/

/-- The switch leaves the mode, the last change and the clock. -/
theorem zoneSwitched_mode (s : State) (rest : List MgmtRequest) (z : ZoneId) (e : ZoneEntry) :
    (s.zoneSwitched rest z e).mode = s.mode ∧ (s.zoneSwitched rest z e).lastChange = s.lastChange ∧
    (s.zoneSwitched rest z e).stamp = s.stamp ∧ (s.zoneSwitched rest z e).zoneEntry z = e ∧
    (s.zoneSwitched rest z e).profileOf z = s.cfg.profiles[e.profile] := by
  obtain ⟨zones, cannons, notices, hs⟩ := zoneSwitched_state s rest z e
  have hentry : (s.zoneSwitched rest z e).zoneEntry z = e := by
    rw [hs]; exact zoneEntry_withZoneEntry s rest z e
  refine ⟨by rw [hs]; rfl, by rw [hs]; rfl, by rw [hs]; rfl, hentry, ?_⟩
  rw [State.profileOf, hentry, hs]
  rfl

/-- A new profile number's band, its notices and its wake (R40, R52, R54). -/
theorem zoneBanded_rebands (s : State) (rest : List MgmtRequest) (z : ZoneId) (e : ZoneEntry)
    (hp : e.profile ≠ (s.zoneEntry z).profile) :
    let x := (s.zoneSwitched rest z e).zone z
    let v := s.zoneBanded rest z e
    ∃ band, (s.cfg.profiles[e.profile]).BandAfter x.risk x.band band ∧
      v.zones = updAt (s.zoneSwitched rest z e).zones z (fun x => { x with band := band }) ∧
      let wakes := s.mode = .watch ∧ e.watch = true ∧ band ≠ x.band ∧ (band = .act ∨ band = .severe)
      (wakes → v.mode = .run ∧ v.lastChange = some { previous := .watch, cause := .wake } ∧
        ∃ l : List Report, l.Perm [.bandChange z band x.risk, .wake z band, .dispatchMode .run .watch .wake] ∧
          v.notices = l.foldl (fun k r => k.place r s.stamp) (s.zoneSwitched rest z e).notices) ∧
      (¬ wakes → v.mode = s.mode ∧ v.lastChange = s.lastChange ∧
        v.notices = if band = x.band then (s.zoneSwitched rest z e).notices
          else (s.zoneSwitched rest z e).notices.place (.bandChange z band x.risk) s.stamp) := by
  intro x v
  obtain ⟨hmode, hlast, hstamp, hentry, hprofile⟩ := zoneSwitched_mode s rest z e
  have hv : v = rebandAll [z] (s.zoneSwitched rest z e) := if_neg hp
  obtain ⟨hwaking, hquiet, ⟨mode, lastChange, notices, choices, choiceCount, hstate⟩⟩ :=
    rebandAll_rebanded z (s.zoneSwitched rest z e)
  rw [← hv, hmode, hstamp] at hwaking
  rw [← hv, hmode, hlast, hstamp] at hquiet
  rw [← hv] at hstate
  have hwakes : (s.zoneSwitched rest z e).wakes z ((s.zoneSwitched rest z e).nextBand z) = true ↔
      s.mode = .watch ∧ e.watch = true ∧
        ((s.zoneSwitched rest z e).nextBand z = .act ∨ (s.zoneSwitched rest z e).nextBand z = .severe) := by
    rw [wakes_iff, hmode, hentry]
  refine ⟨(s.zoneSwitched rest z e).nextBand z, ?_, by rw [hstate], fun ⟨hm, hw, hne, hb⟩ => ?_, fun hnot => ?_⟩
  · rw [State.nextBand, hprofile]
    exact decideBand_bandAfter _ _ _
  · have hwoken := hwaking hne (hwakes.mpr ⟨hm, hw, hb⟩)
    rw [hm] at hwoken
    exact hwoken
  · refine hquiet ?_
    by_cases hb : (s.zoneSwitched rest z e).nextBand z = x.band
    · exact .inl hb
    · exact .inr (Bool.eq_false_iff.mpr fun hw =>
        have ⟨hm, hflag, hband⟩ := hwakes.mp hw
        hnot ⟨hm, hflag, hb, hband⟩)

/-- Settles O34: the entry's switch, its re-banding and the exclusion that a withdrawn policy starts, in the order of the write. -/
theorem zoneWrite : Obligations.ZoneWrite := by
  intro s source tag rest z e hsave ht he old done switched starts
  have hswitched : switched = (s.zoneSwitched rest z e).repliedWritten source tag := by
    unfold State.zoneSwitched
    by_cases hsame : (s.zoneEntry z).enabled = e.enabled
    · exact (if_pos hsame).trans (by rw [if_pos hsame]; rfl)
    · refine (if_neg hsame).trans ?_
      rw [if_neg hsame]
      by_cases hon : e.enabled = true
      · exact (if_pos hon).trans (by rw [if_pos hon]; rfl)
      · exact (if_neg hon).trans (by rw [if_neg hon]; rfl)
  clear_value switched
  subst hswitched
  have hkept (hp : e.profile = old.profile) : s.zoneBanded rest z e = s.zoneSwitched rest z e := if_pos hp
  refine ⟨writeZone_others hsave ht he, fun hnot hp => ?_, (s.zoneBanded rest z e).repliedWritten source tag, ?_, fun hp => ?_,
    fun hp => zoneBanded_rebands s rest z e hp, exec_writeZone_of_not_starts hsave ht he,
    exec_writeZone_of_starts hsave ht he⟩
  · rw [exec_writeZone_of_not_starts hsave ht he hnot, hkept hp]
  · obtain ⟨zones, mode, lastChange, notices, choices, choiceCount, hb⟩ := zoneBanded_state s rest z e
    rw [hb]
    rfl
  · rw [hkept hp]

end Sys2Proof.Machine
end

section
namespace Sys2Proof.Machine

/-! ## The laws of one cannon (R66, R73, R78, R103, R106, R107) -/

/-- A cannon in mode `m` agrees with its state: its mode, its burst and its two valve timers (R66, R103, R106, R107). -/
abbrev Cannon.Agrees (k : Cannon) (m : CannonMode) : Prop :=
  k.state.belongs m ∧ (k.inFlight → k.burst.isSome) ∧ (k.burst.isSome → k.state.holdsPlace) ∧
  (k.burstTimer.isSome → k.state = .spraying) ∧
  (k.ackTimer.isSome → k.state = .opening ∨ k.state = .closing ∨ k.state = .stuck)

theorem cannonsAgree_iff (s : State) : s.CannonsAgree ↔ ∀ c, (s.cannon c).Agrees (s.cannonEntry c).mode := Iff.rfl

/-- A cannon without a place agrees where it belongs to its mode and has neither burst nor timers. -/
theorem agrees_of_grounded {k : Cannon} {m : CannonMode} (hplace : k.state.holdsPlace = false) :
    k.Agrees m ↔ k.state.belongs m = true ∧ k.burst = none ∧ k.burstTimer = none ∧ k.ackTimer = none := by
  cases hstate : k.state <;> simp_all [Cannon.Agrees, Cannon.inFlight, CannonState.holdsPlace]

/-- In the states of AUTOMATIC a cannon belongs to that mode alone (R66). -/
theorem belongs_automatic {x y : CannonState} {m : CannonMode}
    (hx : x ≠ .bypassClosed ∧ x ≠ .bypassOpen ∧ x ≠ .retired) (hy : y ≠ .bypassClosed ∧ y ≠ .bypassOpen ∧ y ≠ .retired) :
    x.belongs m = y.belongs m := by
  obtain ⟨hx1, hx2, hx3⟩ := hx
  obtain ⟨hy1, hy2, hy3⟩ := hy
  have hmode : ∀ z : CannonState, z ≠ .bypassClosed → z ≠ .bypassOpen → z ≠ .retired →
      z.belongs m = decide (m = .automatic) := fun z h1 h2 h3 => by
    cases z <;> first | rfl | contradiction
  rw [hmode x hx1 hx2 hx3, hmode y hy1 hy2 hy3]

/-- A cannon in CLOSING or STUCK agrees where it belongs to its mode and no burst timer runs. -/
theorem agrees_of_closing {k : Cannon} {m : CannonMode} (hstate : k.state = .closing ∨ k.state = .stuck)
    (hmode : k.state.belongs m = true) (htimer : k.burstTimer = none) : k.Agrees m := by
  refine ⟨hmode, fun h => ?_, fun _ => ?_, fun h => ?_, fun _ => .inr hstate⟩
  · obtain e | e := hstate <;> simp [Cannon.inFlight, e] at h
  · obtain e | e := hstate <;> rw [e] <;> rfl
  · rw [htimer] at h; cases h

/-- The sweep aim lies within the cannon's pattern (R78). -/
abbrev Cannon.AimFits (k : Cannon) (patterns : Vector Pattern 8) : Prop :=
  k.column < patterns[k.target.pattern].cols ∧ k.row < patterns[k.target.pattern].rows

theorem aimsFit_iff (s : State) : s.AimsFit ↔ ∀ c, (s.cannon c).AimFits s.cfg.patterns := Iff.rfl

/-- The owed count is 0, 1 or 2, and 0 without an AUTO request (R73). -/
abbrev Cannon.OwedFits (k : Cannon) : Prop := k.owed ≤ 2 ∧ (k.holds .auto = false → k.owed = 0)

theorem owedHeld_iff (s : State) : s.OwedHeld ↔ ∀ c, (s.cannon c).OwedFits := Iff.rfl

/-- A cannon that holds no request owes nothing. -/
theorem owedFits_of_zero {k : Cannon} (h : k.owed = 0) : k.OwedFits := ⟨by omega, fun _ => h⟩

/-- Patterns have at least one column and one row (R78). -/
abbrev PatternsSized (patterns : Vector Pattern 8) : Prop :=
  ∀ p : PatternId, 0 < patterns[p].cols ∧ 0 < patterns[p].rows

theorem patternsSized_of_ok {t : Tables} (h : t.ok = true) : PatternsSized t.patterns := fun p => by
  have hp := Vector.all_eq_true.mp ((tables_ok_iff t).mp h).patterns p.val p.isLt
  simp only [Pattern.ok, decide_eq_true_iff] at hp
  obtain ⟨-, -, -, hcols, -, -, -, hrows, -⟩ := hp
  exact ⟨hcols, hrows⟩

/-! ## Steady changes: the laws of aims and owed counts (R73, R78) -/

/-- A change of a cannon that keeps its aim within its pattern and its owed count within its law. -/
structure Cannon.Steady (k k' : Cannon) : Prop where
  aim : ∀ patterns, PatternsSized patterns → k.AimFits patterns → k'.AimFits patterns
  owed : k.OwedFits → k'.OwedFits

theorem Cannon.Steady.refl (k : Cannon) : k.Steady k := ⟨fun _ _ => id, id⟩

theorem Cannon.Steady.trans {k k' k'' : Cannon} (h : k.Steady k') (h' : k'.Steady k'') : k.Steady k'' :=
  ⟨fun ps hps hk => h'.aim ps hps (h.aim ps hps hk), fun hk => h'.owed (h.owed hk)⟩

/-- A change that leaves the target and the aim, and the request with its owed count. -/
theorem Cannon.Steady.same {k k' : Cannon} (ht : k'.target = k.target) (hc : k'.column = k.column) (hr : k'.row = k.row)
    (hq : k'.request = k.request) (ho : k'.owed = k.owed) : k.Steady k' := by
  refine ⟨fun ps _ hk => ?_, fun hk => ?_⟩
  · simpa only [Cannon.AimFits, ht, hc, hr] using hk
  · simpa only [Cannon.OwedFits, Cannon.holds, hq, ho] using hk

/-- A change that leaves the target and the aim, after which nothing is owed. -/
theorem Cannon.Steady.cleared {k k' : Cannon} (ht : k'.target = k.target) (hc : k'.column = k.column) (hr : k'.row = k.row)
    (ho : k'.owed = 0) : k.Steady k' :=
  ⟨fun ps _ hk => by simpa only [Cannon.AimFits, ht, hc, hr] using hk, fun _ => owedFits_of_zero ho⟩

/-- From `s` to `t` a configuration in range stays so with every aim within its pattern, and the law of owed counts holds on. -/
structure State.Steady (s t : State) : Prop where
  aims : s.cfg.ok = true → s.AimsFit → t.cfg.ok = true ∧ t.AimsFit
  owed : s.OwedHeld → t.OwedHeld

theorem State.Steady.refl (s : State) : s.Steady s := ⟨fun hok h => ⟨hok, h⟩, id⟩

theorem State.Steady.trans {s t u : State} (h : s.Steady t) (h' : t.Steady u) : s.Steady u :=
  ⟨fun hok ha => h'.aims (h.aims hok ha).1 (h.aims hok ha).2, fun ho => h'.owed (h.owed ho)⟩

/-- Steady changes of the cannons while the configuration stays in range and the patterns stay. -/
theorem State.Steady.written {s t : State} (hok : s.cfg.ok = true → t.cfg.ok = true) (hpatterns : t.cfg.patterns = s.cfg.patterns)
    (hc : ∀ c, (s.cannon c).Steady (t.cannon c)) : s.Steady t := by
  refine ⟨fun h ha => ⟨hok h, (aimsFit_iff t).mpr fun c => ?_⟩, fun ho c => (hc c).owed (ho c)⟩
  rw [hpatterns]
  exact (hc c).aim _ (patternsSized_of_ok h) (ha c)

/-- Steady changes of the cannons under one configuration. -/
theorem State.Steady.ofCannons {s t : State} (hcfg : t.cfg = s.cfg) (hc : ∀ c, (s.cannon c).Steady (t.cannon c)) :
    s.Steady t := .written (by rw [hcfg]; exact id) (by rw [hcfg]) hc

/-- The same, with one cannon changed. -/
theorem State.Steady.ofCannon {s t : State} (c : CannonId) (hcfg : t.cfg = s.cfg)
    (hc : (s.cannon c).Steady (t.cannon c)) (hne : ∀ d, d ≠ c → t.cannon d = s.cannon d) : s.Steady t :=
  .ofCannons hcfg fun d => by
    by_cases hd : d = c
    · subst hd; exact hc
    · rw [hne d hd]; exact .refl _

/-! ## The places at a station (R88) -/

/-- What the cannons that hold a place at station `g` weigh together. -/
def State.placedWeight (s : State) (g : StationId) (w : CannonId → Nat) : Nat :=
  ∑ c : CannonId, if s.stationOf c = g ∧ (s.cannon c).state.holdsPlace = true then w c else 0

theorem sum_map_filter {α : Type} (l : List α) (p : α → Bool) (w : α → Nat) :
    ((l.filter p).map w).sum = (l.map fun a => if p a then w a else 0).sum := by
  induction l with
  | nil => rfl
  | cons a l ih => cases hp : p a <;> simp [hp, ih]

theorem sum_map_placed (s : State) (g : StationId) (w : CannonId → Nat) :
    ((s.placed g).map w).sum = s.placedWeight g w := by
  simp only [State.placed, State.cannonsWhere, sum_map_filter, State.placedWeight, Fin.sum_univ_def, Bool.and_eq_true,
    decide_eq_true_iff]

/-- The law of R88 in weights: each placed cannon counts as one, and with its flow. -/
theorem placesHeld_iff (s : State) :
    s.PlacesHeld ↔ ∀ g, (s.station g).inUse = s.placedWeight g (fun _ => 1) ∧
      (s.station g).inUseFlow = s.placedWeight g (fun c => (s.cannonEntry c).flow) ∧
      (s.station g).inUse ≤ (s.stationEntry g).limit ∧ (s.station g).inUseFlow ≤ (s.stationEntry g).maxFlow := by
  have hcount (g : StationId) : (s.placed g).length = s.placedWeight g fun _ => 1 := by
    rw [← sum_map_placed]; simp
  simp only [State.PlacesHeld, hcount, sum_map_placed]

/-- Cannons that hold the places they held weigh what they weighed. -/
theorem placedWeight_congr {s t : State} {g : StationId} {w v : CannonId → Nat}
    (hplace : ∀ c, (t.cannon c).state.holdsPlace = (s.cannon c).state.holdsPlace)
    (hsame : ∀ c, (s.cannon c).state.holdsPlace = true → t.stationOf c = s.stationOf c ∧ w c = v c) :
    t.placedWeight g w = s.placedWeight g v := by
  refine Finset.sum_congr rfl fun c _ => ?_
  rw [hplace c]
  by_cases hc : (s.cannon c).state.holdsPlace = true
  · rw [(hsame c hc).1, (hsame c hc).2]
  · simp [hc]

/-- A cannon that takes a place adds its weight at its station. -/
theorem placedWeight_enter {s t : State} (c : CannonId) (g : StationId) (w : CannonId → Nat)
    (hne : ∀ d, d ≠ c → t.cannon d = s.cannon d) (hout : (s.cannon c).state.holdsPlace = false)
    (hin : (t.cannon c).state.holdsPlace = true) :
    t.placedWeight g w = s.placedWeight g w + if t.stationOf c = g then w c else 0 := by
  have hothers : (∑ d ∈ Finset.univ.erase c, if t.stationOf d = g ∧ (t.cannon d).state.holdsPlace = true then w d else 0) =
      ∑ d ∈ Finset.univ.erase c, if s.stationOf d = g ∧ (s.cannon d).state.holdsPlace = true then w d else 0 :=
    Finset.sum_congr rfl fun d hd => by
      rw [State.stationOf, State.stationOf, hne d (Finset.ne_of_mem_erase hd)]
  have hself : (if s.stationOf c = g ∧ (s.cannon c).state.holdsPlace = true then w c else 0) = 0 := by simp [hout]
  rw [State.placedWeight, State.placedWeight, ← Finset.sum_erase_add _ _ (Finset.mem_univ c), hothers,
    ← Finset.sum_erase_add _ _ (Finset.mem_univ c), hself]
  simp only [hin, and_true, Nat.add_zero]

/-- The in-use figures are kept with the places, their stations and their flows, where the limits still allow them. -/
theorem placesHeld_of_same {s t : State} (hs : s.PlacesHeld)
    (hplace : ∀ c, (t.cannon c).state.holdsPlace = (s.cannon c).state.holdsPlace)
    (hsame : ∀ c, (s.cannon c).state.holdsPlace = true →
      t.stationOf c = s.stationOf c ∧ (t.cannonEntry c).flow = (s.cannonEntry c).flow)
    (hfigures : ∀ g, (t.station g).inUse = (s.station g).inUse ∧ (t.station g).inUseFlow = (s.station g).inUseFlow)
    (hlimits : ∀ g, (s.station g).inUse ≤ (s.stationEntry g).limit → (s.station g).inUseFlow ≤ (s.stationEntry g).maxFlow →
      (s.station g).inUse ≤ (t.stationEntry g).limit ∧ (s.station g).inUseFlow ≤ (t.stationEntry g).maxFlow) :
    t.PlacesHeld := by
  rw [placesHeld_iff] at hs ⊢
  intro g
  obtain ⟨hcount, hflow, hlimit, hmax⟩ := hs g
  rw [(hfigures g).1, (hfigures g).2]
  exact ⟨hcount.trans (placedWeight_congr hplace fun c hc => ⟨(hsame c hc).1, rfl⟩).symm,
    hflow.trans (placedWeight_congr hplace hsame).symm, hlimits g hlimit hmax⟩

/-! ## The frame of dispatch and the configuration's entries -/

theorem State.DispatchFrame.cannonEntry {s t : State} (h : s.DispatchFrame t) (c : CannonId) :
    t.cannonEntry c = s.cannonEntry c := congrArg (fun g : Tables => g.cannons[c]) h.cfg

theorem State.DispatchFrame.stationEntry {s t : State} (h : s.DispatchFrame t) (g : StationId) :
    t.stationEntry g = s.stationEntry g := congrArg (fun f : Tables => f.stations[g]) h.cfg

/-- The figures of each station after cannon `c` has taken a place at its own. -/
abbrev State.Entered (s t : State) (c : CannonId) : Prop :=
  ∀ g, (t.station g).inUse = (s.station g).inUse + (if s.stationOf c = g then 1 else 0) ∧
    (t.station g).inUseFlow = (s.station g).inUseFlow + if s.stationOf c = g then (s.cannonEntry c).flow else 0

/-- A cannon that takes a place where there is room is counted (R88, R89, R95). -/
theorem placesHeld_enter {s t : State} (c : CannonId) (hs : s.PlacesHeld) (hframe : s.DispatchFrame t)
    (hne : ∀ d, d ≠ c → t.cannon d = s.cannon d) (hstation : (t.cannon c).station = (s.cannon c).station)
    (hout : (s.cannon c).state.holdsPlace = false) (hin : (t.cannon c).state.holdsPlace = true) (hfigures : s.Entered t c)
    (hroom : (s.station (s.stationOf c)).inUse + 1 ≤ (s.stationEntry (s.stationOf c)).limit ∧
      (s.station (s.stationOf c)).inUseFlow + (s.cannonEntry c).flow ≤ (s.stationEntry (s.stationOf c)).maxFlow) :
    t.PlacesHeld := by
  rw [placesHeld_iff] at hs ⊢
  intro g
  obtain ⟨hcount, hflow, hlimit, hmax⟩ := hs g
  have hof : t.stationOf c = s.stationOf c := hstation
  have hentries : (fun d => (t.cannonEntry d).flow) = fun d => (s.cannonEntry d).flow :=
    funext fun d => congrArg CannonEntry.flow (hframe.cannonEntry d)
  rw [hentries, placedWeight_enter c g _ hne hout hin, placedWeight_enter c g _ hne hout hin, hof, (hfigures g).1,
    (hfigures g).2, ← hcount, ← hflow, hframe.stationEntry]
  refine ⟨rfl, rfl, ?_⟩
  by_cases hg : s.stationOf c = g
  · subst hg; simpa using hroom
  · simpa [hg] using And.intro hlimit hmax

/-- The figures of each station after cannon `c` has given its place back. -/
abbrev State.Left (s t : State) (c : CannonId) : Prop :=
  ∀ g, (t.station g).inUse = (s.station g).inUse - (if s.stationOf c = g then 1 else 0) ∧
    (t.station g).inUseFlow = (s.station g).inUseFlow - if s.stationOf c = g then (s.cannonEntry c).flow else 0

/-- A cannon that gives its place back is no longer counted (R88). -/
theorem placesHeld_leave {s t : State} (c : CannonId) (hs : s.PlacesHeld) (hcfg : t.cfg = s.cfg)
    (hne : ∀ d, d ≠ c → t.cannon d = s.cannon d) (hin : (s.cannon c).state.holdsPlace = true) (hout : (t.cannon c).state.holdsPlace = false) (hfigures : s.Left t c) :
    t.PlacesHeld := by
  rw [placesHeld_iff] at hs ⊢
  intro g
  obtain ⟨hcount, hflow, hlimit, hmax⟩ := hs g
  have hne' : ∀ d, d ≠ c → s.cannon d = t.cannon d := fun d hd => (hne d hd).symm
  have hentries : (fun d => (t.cannonEntry d).flow) = fun d => (s.cannonEntry d).flow :=
    funext fun d => congrArg (fun f : Tables => f.cannons[d].flow) hcfg
  have hstationEntry : t.stationEntry g = s.stationEntry g := congrArg (fun f : Tables => f.stations[g]) hcfg
  rw [placedWeight_enter c g _ hne' hout hin] at hcount hflow
  rw [hentries, (hfigures g).1, (hfigures g).2, hstationEntry]
  omega

end Sys2Proof.Machine
end

section
namespace Sys2Proof.Machine

/-! ## Waiting lists and commands (R89, R104) -/

/-- The states in which a close without a burst arises or waits (R89). -/
abbrev CannonState.Grounded (x : CannonState) : Prop := x = .unknown ∨ x = .idle ∨ x = .fault

theorem CannonState.Grounded.noPlace {x : CannonState} (h : x.Grounded) : x.holdsPlace = false := by
  obtain rfl | rfl | rfl := h <;> rfl

/-- Lists that only lose cannons, while those that stay on one keep their station and stay in a waiting state. -/
theorem waitingHeld_of_kept {s t : State} (h : s.WaitingHeld)
    (hsub : ∀ g, (t.station g).waiting.Sublist (s.station g).waiting)
    (hkept : ∀ g, ∀ c ∈ (t.station g).waiting, (s.cannon c).state.Grounded →
      (t.cannon c).station = (s.cannon c).station ∧ (t.cannon c).state.Grounded) : t.WaitingHeld := by
  refine fun g => ⟨(h g).1.sublist (hsub g), fun c hc => ?_⟩
  obtain ⟨hof, hstate⟩ := (h g).2 c ((hsub g).subset hc)
  obtain ⟨hstation, hgrounded⟩ := hkept g c hc hstate
  exact ⟨hstation.trans hof, hgrounded⟩

theorem openQueued_iff (s : State) (c : CannonId) :
    s.openQueued c = true ↔ { cannon := c, verb := .openValve } ∈ s.commands := by
  simp only [State.openQueued, List.any_eq_true, decide_eq_true_iff]
  exact ⟨fun ⟨q, hq, hc, hv⟩ => by subst hc; cases q; cases hv; exact hq, fun h => ⟨_, h, rfl, rfl⟩⟩

theorem hasCommand_eq_false_iff (s : State) (c : CannonId) :
    s.hasCommand c = false ↔ ∀ q ∈ s.commands, q.cannon ≠ c := by
  simp [State.hasCommand]

/-- A queued OPEN finds its cannon in OPENING with its acknowledgement timer stopped (R104). -/
theorem opening_of_openQueued {s : State} (h : s.CommandsHeld) {c : CannonId} (hc : s.openQueued c = true) :
    (s.cannon c).state = .opening ∧ (s.cannon c).ackTimer = none :=
  h.2.1 _ ((openQueued_iff s c).mp hc) rfl

/-- A cannon in another state has no OPEN queued. -/
theorem not_openQueued {s : State} (h : s.CommandsHeld) {c : CannonId} (hc : (s.cannon c).state ≠ .opening) :
    s.openQueued c = false := Bool.eq_false_iff.mpr fun e => hc (opening_of_openQueued h e).1

/-- Commands that only leave the queue, while each OPEN left finds its cannon as it was and no cannon leaves RETIRED. -/
theorem commandsHeld_of_kept {s t : State} (h : s.CommandsHeld) (hphase : t.phase = .loading → s.phase = .loading)
    (hsub : t.commands.Sublist s.commands)
    (hopen : ∀ c, t.openQueued c = true → (s.cannon c).state = .opening → (s.cannon c).ackTimer = none →
      (t.cannon c).state = .opening ∧ (t.cannon c).ackTimer = none)
    (hretired : ∀ c, (s.cannon c).state = .retired → (t.cannon c).state = .retired) : t.CommandsHeld := by
  obtain ⟨hnodup, hopens, hloading⟩ := h
  refine ⟨hnodup.sublist (hsub.map _), fun q hq hv => ?_, fun hp => ?_⟩
  · obtain ⟨hstate, hack⟩ := hopens q (hsub.subset hq) hv
    exact hopen q.cannon ((openQueued_iff t q.cannon).mpr (by cases q; cases hv; exact hq)) hstate hack
  · obtain ⟨hnone, hall⟩ := hloading (hphase hp)
    rw [hnone] at hsub
    exact ⟨List.sublist_nil.mp hsub, fun c => hretired c (hall c)⟩

/-- A command that joins the queue for a cannon that has none and is not in RETIRED; the other cannons stay. -/
theorem commandsHeld_of_join {s t : State} (h : s.CommandsHeld) (c : CannonId) (v : Verb) (hphase : t.phase = s.phase)
    (hcommands : t.commands = s.commands ++ [{ cannon := c, verb := v }]) (hfree : s.hasCommand c = false)
    (hlive : (s.cannon c).state ≠ .retired) (hne : ∀ d, d ≠ c → t.cannon d = s.cannon d)
    (hopen : v = .openValve → (t.cannon c).state = .opening ∧ (t.cannon c).ackTimer = none) : t.CommandsHeld := by
  obtain ⟨hnodup, hopens, hloading⟩ := h
  have hothers := (hasCommand_eq_false_iff s c).mp hfree
  rw [State.CommandsHeld, hcommands, hphase]
  refine ⟨?_, fun q hq hv => ?_, fun hp => absurd ((hloading hp).2 c) hlive⟩
  · rw [List.map_append, List.nodup_append]
    refine ⟨hnodup, List.nodup_singleton _, fun a ha b hb => ?_⟩
    obtain ⟨q, hq, rfl⟩ := List.mem_map.mp ha
    rw [List.mem_singleton.mp hb]
    exact hothers q hq
  · obtain hq | hq := List.mem_append.mp hq
    · rw [hne q.cannon (hothers q hq)]
      exact hopens q hq hv
    · rw [List.mem_singleton.mp hq] at hv ⊢
      exact hopen hv

/-- A CLOSE queued for a cannon that is not in RETIRED, unless it has a command (R104). -/
theorem commandsHeld_of_close {s t : State} (h : s.CommandsHeld) (c : CannonId) (hphase : t.phase = s.phase)
    (hcommands : t.commands =
      if s.hasCommand c then s.commands else s.commands ++ [{ cannon := c, verb := .closeValve }])
    (hlive : (s.cannon c).state ≠ .retired) (hne : ∀ d, d ≠ c → t.cannon d = s.cannon d)
    (hopen : s.openQueued c = true → (t.cannon c).state = .opening ∧ (t.cannon c).ackTimer = none) : t.CommandsHeld := by
  by_cases hc : s.hasCommand c = true
  · rw [if_pos hc] at hcommands
    refine commandsHeld_of_kept h (fun hp => hphase ▸ hp) (by rw [hcommands]) (fun d hd hstate hack => ?_) fun d hd => ?_
    · by_cases e : d = c
      · subst e
        rw [State.openQueued, hcommands] at hd
        exact hopen hd
      · rw [hne d e]; exact ⟨hstate, hack⟩
    · rw [hne d (fun e => hlive (e ▸ hd)), hd]
  · rw [if_neg hc] at hcommands
    exact commandsHeld_of_join h c .closeValve hphase hcommands (Bool.eq_false_iff.mpr hc) hlive hne (by rintro ⟨⟩)

/-! ## What keeps the yard's laws -/

/-- Every cannon agrees with its state, and the close waiting lists hold their own cannons (R66, R89). -/
abbrev State.Agreed (s : State) : Prop := s.CannonsAgree ∧ s.WaitingHeld

/-- From `s` to `t` the laws of places and of commands hold on, and at `t` its records agree (R66, R88, R89, R104). -/
structure State.KeepsPlaces (s t : State) : Prop where
  agreed : t.Agreed
  places : s.PlacesHeld → t.PlacesHeld
  commands : s.CommandsHeld → t.CommandsHeld

theorem State.KeepsPlaces.trans {s t u : State} (h : s.KeepsPlaces t) (k : t.KeepsPlaces u) : s.KeepsPlaces u :=
  ⟨k.agreed, fun hs => k.places (h.places hs), fun hs => k.commands (h.commands hs)⟩

/-- From `s` to `t` the laws of aims and owed counts hold on, no store load begins, and where the records of `s` agree the other
laws hold on. -/
structure State.KeepsYard (s t : State) : Prop where
  steady : s.Steady t
  live : s.phase ≠ .loading → t.phase ≠ .loading
  held : s.Agreed → s.KeepsPlaces t

theorem State.KeepsYard.refl (s : State) : s.KeepsYard s := ⟨.refl s, id, fun h => ⟨h, id, id⟩⟩

theorem State.KeepsYard.trans {s t u : State} (h : s.KeepsYard t) (k : t.KeepsYard u) : s.KeepsYard u :=
  ⟨h.steady.trans k.steady, fun hl => k.live (h.live hl), fun ha => (h.held ha).trans (k.held (h.held ha).agreed)⟩

/-- The same, with the last change first. -/
theorem State.KeepsYard.after {s t u : State} (k : t.KeepsYard u) (h : s.KeepsYard t) : s.KeepsYard u := h.trans k

theorem yardKept_ite {p : Prop} [Decidable p] {s a b : State} (ha : p → s.KeepsYard a) (hb : ¬ p → s.KeepsYard b) :
    s.KeepsYard (if p then a else b) := by
  split
  · exact ha ‹_›
  · exact hb ‹_›

theorem yardKept_foldl {α : Type} (f : State → α → State) (hf : ∀ (s : State) (a : α), s.KeepsYard (f s a)) (l : List α)
    (s : State) : s.KeepsYard (l.foldl f s) := by
  induction l generalizing s with
  | nil => exact .refl s
  | cons a l ih => exact (hf s a).trans (ih _)

/-! ## Changes that leave every place (R66, R88) -/

/-- A change of a cannon that leaves its state, its station and the laws of its records. -/
structure Cannon.Stays (k k' : Cannon) : Prop where
  state : k'.state = k.state
  station : k'.station = k.station
  agrees : ∀ m, k.Agrees m → k'.Agrees m
  ack : k.ackTimer = none → k'.ackTimer = none
  steady : k.Steady k'

theorem Cannon.Stays.refl (k : Cannon) : k.Stays k := ⟨rfl, rfl, fun _ => id, id, .refl k⟩

/-- A change that leaves all that the laws of places speak of, but for timers that may have stopped. -/
theorem Cannon.Stays.ofSame {k k' : Cannon} (hs : k'.state = k.state) (hg : k'.station = k.station)
    (hb : k'.burst.isSome = k.burst.isSome) (hbt : k'.burstTimer.isSome → k.burstTimer.isSome)
    (hat : k'.ackTimer.isSome → k.ackTimer.isSome) (hsteady : k.Steady k') : k.Stays k' := by
  refine ⟨hs, hg, fun m ⟨h1, h2, h3, h4, h5⟩ => ?_, fun h => ?_, hsteady⟩
  · refine ⟨by rw [hs]; exact h1, fun hf => ?_, fun hf => ?_, fun hf => ?_, fun hf => ?_⟩
    · rw [hb]; exact h2 (by rwa [Cannon.inFlight, hs] at hf)
    · rw [hs]; exact h3 (hb ▸ hf)
    · rw [hs]; exact h4 (hbt hf)
    · rw [hs]; exact h5 (hat hf)
  · by_contra hne
    rw [← ne_eq, ← Option.isSome_iff_ne_none] at hne
    rw [h] at hat
    exact absurd (hat hne) Bool.false_ne_true

/-- A change of what the laws of places do not speak of. -/
theorem Cannon.Stays.ofSteady {k k' : Cannon} (hs : k'.state = k.state) (hg : k'.station = k.station)
    (hb : k'.burst = k.burst) (hbt : k'.burstTimer = k.burstTimer) (hat : k'.ackTimer = k.ackTimer) (hsteady : k.Steady k') :
    k.Stays k' := .ofSame hs hg (by rw [hb]) (by rw [hbt]; exact id) (by rw [hat]; exact id) hsteady

/-- The figures and the close waiting list of a station stay. -/
abbrev Station.SamePlaces (x y : Station) : Prop := y.inUse = x.inUse ∧ y.inUseFlow = x.inUseFlow ∧ y.waiting = x.waiting

/-- A change under which every cannon keeps its place, and with it the figures, the lists and the commands. -/
theorem State.KeepsYard.quiet {s t : State} (hphase : t.phase = s.phase) (hcfg : t.cfg = s.cfg)
    (hc : ∀ c, (s.cannon c).Stays (t.cannon c)) (hg : ∀ g, (s.station g).SamePlaces (t.station g))
    (hq : t.commands = s.commands) : s.KeepsYard t := by
  have hentry (c : CannonId) : t.cannonEntry c = s.cannonEntry c := congrArg (fun f : Tables => f.cannons[c]) hcfg
  have hlimits (g : StationId) : t.stationEntry g = s.stationEntry g := congrArg (fun f : Tables => f.stations[g]) hcfg
  refine ⟨.ofCannons hcfg fun c => (hc c).steady, hphase ▸ id, fun ⟨ha, hw⟩ => ⟨⟨fun c => ?_, ?_⟩, fun hp => ?_, fun hcom => ?_⟩⟩
  · rw [hentry]
    exact (hc c).agrees _ (ha c)
  · refine waitingHeld_of_kept hw (fun g => by rw [(hg g).2.2]) fun g c _ hground => ⟨(hc c).station, ?_⟩
    rw [(hc c).state]
    exact hground
  · exact placesHeld_of_same hp (fun c => by rw [(hc c).state])
      (fun c _ => ⟨(hc c).station, by rw [hentry]⟩) (fun g => ⟨(hg g).1, (hg g).2.1⟩)
      fun g h1 h2 => by rw [hlimits]; exact ⟨h1, h2⟩
  · refine commandsHeld_of_kept hcom (by rw [hphase]; exact id) (by rw [hq]) (fun c _ hstate hack => ?_) fun c hret => ?_
    · exact ⟨(hc c).state.trans hstate, (hc c).ack hack⟩
    · exact (hc c).state.trans hret

/-- A change of other records alone. -/
theorem State.KeepsYard.books {s t : State} (hphase : t.phase = s.phase) (hcfg : t.cfg = s.cfg) (hc : t.cannons = s.cannons)
    (hg : t.stations = s.stations) (hq : t.commands = s.commands) : s.KeepsYard t :=
  .quiet hphase hcfg
    (fun c => by rw [show t.cannon c = s.cannon c from congrArg (fun v : Vector Cannon 48 => v[c]) hc]; exact .refl _)
    (fun g => by rw [show t.station g = s.station g from congrArg (fun v : Vector Station 4 => v[g]) hg]; exact ⟨rfl, rfl, rfl⟩)
    hq

theorem yardKept_updCannon (c : CannonId) (f : Cannon → Cannon) (s : State) (h : (s.cannon c).Stays (f (s.cannon c))) :
    s.KeepsYard (s.updCannon c f) := by
  refine .quiet rfl rfl (fun d => ?_) (fun _ => ⟨rfl, rfl, rfl⟩) rfl
  rw [State.cannon_updCannon]
  split
  · rename_i hd; subst hd; exact h
  · exact .refl _

theorem yardKept_updStation (g : StationId) (f : Station → Station) (s : State) (h : ∀ x : Station, x.SamePlaces (f x)) :
    s.KeepsYard (s.updStation g f) := by
  refine .quiet rfl rfl (fun _ => .refl _) (fun e => ?_) rfl
  rw [State.station_updStation]
  split
  · rename_i he; subst he; exact h _
  · exact ⟨rfl, rfl, rfl⟩

theorem station_mapStations (s : State) (f : Station → Station) (g : StationId) :
    (s.mapStations f).station g = f (s.station g) := vector_map_get _ _ _

theorem yardKept_mapStations (f : Station → Station) (s : State) (h : ∀ x : Station, x.SamePlaces (f x)) :
    s.KeepsYard (s.mapStations f) :=
  .quiet rfl rfl (fun _ => .refl _) (fun g => by rw [station_mapStations]; exact h _) rfl

theorem yardKept_raise (r : Report) (s : State) : s.KeepsYard (raise r s) := .books rfl rfl rfl rfl rfl

theorem yardKept_capacityDue (g : StationId) (s : State) : s.KeepsYard (capacityDue g s) := .books rfl rfl rfl rfl rfl

theorem yardKept_dueCapacity (gs : List StationId) (s : State) : s.KeepsYard { s with dueCapacity := gs } :=
  .books rfl rfl rfl rfl rfl

theorem yardKept_updSource (w : SourceId) (f : Source → Source) (s : State) : s.KeepsYard (s.updSource w f) :=
  .books rfl rfl rfl rfl rfl

theorem yardKept_updZone (z : ZoneId) (f : Zone → Zone) (s : State) : s.KeepsYard (s.updZone z f) :=
  .books rfl rfl rfl rfl rfl

theorem yardKept_updPort (p : Port) (f : PortState → PortState) (s : State) : s.KeepsYard (s.updPort p f) := by
  cases p <;> exact .books rfl rfl rfl rfl rfl

theorem yardKept_shuffle {α : Type} (l : List α) (s : State) : s.KeepsYard (shuffle l s).2 := by
  obtain ⟨cs, k, h⟩ := shuffle_state l s
  rw [h]; exact .books rfl rfl rfl rfl rfl

theorem yardKept_endClosing (c : CannonId) (s : State) : s.KeepsYard (endClosing c s) :=
  yardKept_mapStations _ s fun _ => ⟨rfl, rfl, rfl⟩

theorem yardKept_endPreemption (c : CannonId) (s : State) : s.KeepsYard (endPreemption c s) :=
  yardKept_mapStations _ s fun _ => ⟨rfl, rfl, rfl⟩

/-- A request removed with its owed count, and the preemption it had outstanding (R75, R101). -/
theorem yardKept_dropRequest (c : CannonId) (s : State) : s.KeepsYard (dropRequest c s) :=
  (yardKept_updCannon c _ s (.ofSteady rfl rfl rfl rfl rfl (.cleared rfl rfl rfl rfl))).trans (yardKept_endPreemption c _)

end Sys2Proof.Machine
end

section
namespace Sys2Proof.Machine

/-! ## Closes without a burst (R89) -/

theorem yardKept_queueClose (c : CannonId) (s : State) (hlive : (s.cannon c).state ≠ .retired) : s.KeepsYard (queueClose c s) := by
  have hcannon (d : CannonId) : (queueClose c s).cannon d = s.cannon d := by rw [queueClose_eq]; rfl
  have hstation (g : StationId) : (queueClose c s).station g = s.station g := by rw [queueClose_eq]; rfl
  have hframe := frame_queueClose c s
  refine ⟨.ofCannons hframe.cfg fun d => by rw [hcannon]; exact .refl _, hframe.phase ▸ id, fun ⟨ha, hw⟩ => ⟨⟨fun d => ?_, ?_⟩, fun hp => ?_, fun hq => ?_⟩⟩
  · rw [hcannon, hframe.cannonEntry]; exact ha d
  · exact waitingHeld_of_kept hw (fun g => by rw [hstation]) fun g d _ hd => by rw [hcannon]; exact ⟨rfl, hd⟩
  · exact placesHeld_of_same hp (fun d => by rw [hcannon])
      (fun d _ => ⟨congrArg Cannon.station (hcannon d), by rw [hframe.cannonEntry]⟩) (fun g => by rw [hstation]; exact ⟨rfl, rfl⟩)
      fun g h1 h2 => by rw [hframe.stationEntry]; exact ⟨h1, h2⟩
  · exact commandsHeld_of_close hq c hframe.phase (by rw [queueClose_eq]) hlive (fun d _ => hcannon d)
      fun ho => by rw [hcannon]; exact opening_of_openQueued hq ho

/-- The confirming CLOSE of an IDLE cannon (R114). -/
theorem yardKept_confirmingClose (c : CannonId) (s : State) : s.KeepsYard (confirmingClose c s) :=
  yardKept_ite (fun h => yardKept_queueClose c s (by rw [h.1]; decide)) fun _ => .refl s

/-- The places after a station's figures were raised for cannon `c`. -/
theorem entered_of_updAt {s t : State} (c : CannonId) {v : Vector Station 4}
    (ht : t.stations = updAt v (s.stationOf c) fun x =>
      { x with inUse := x.inUse + 1, inUseFlow := x.inUseFlow + (s.cannonEntry c).flow })
    (hv : ∀ g : StationId, v[g].inUse = (s.station g).inUse ∧ v[g].inUseFlow = (s.station g).inUseFlow) : s.Entered t c := by
  intro g
  have hget : t.station g = _ := (congrArg (fun x : Vector Station 4 => x[g]) ht).trans (updAt_get _ _ _ _)
  rw [hget]
  by_cases hg : g = s.stationOf c
  · subst hg; rw [if_pos rfl, if_pos rfl, if_pos rfl, ← (hv _).1, ← (hv _).2]; exact ⟨rfl, rfl⟩
  · rw [if_neg hg, if_neg (Ne.symm hg), if_neg (Ne.symm hg)]; exact hv g

/-- An admitted close: the cannon takes a place of its station, leaves the waiting lists and has its CLOSE queued (R89). -/
theorem yardKept_takeClose {c : CannonId} {s : State} (hground : (s.cannon c).state.Grounded) (hfits : s.canClose c = true) :
    s.KeepsYard (takeClose c s) := by
  have hne := takeClose_cannon_ne s c
  have hself := takeClose_cannon s c
  have hframe := frame_takeClose c s
  have hplace : ((takeClose c s).cannon c).state.holdsPlace = true := by rw [hself]; rfl
  refine ⟨.ofCannon c hframe.cfg (by rw [hself]; exact .same rfl rfl rfl rfl rfl) hne, hframe.phase ▸ id,
    fun ⟨ha, hw⟩ => ⟨⟨fun d => ?_, ?_⟩, fun hp => ?_, fun hq => ?_⟩⟩
  · by_cases hd : d = c
    · subst hd
      obtain ⟨hmode, -, htimer, -⟩ := (agrees_of_grounded hground.noPlace).mp (ha d)
      have hauto : CannonState.belongs .closing (s.cannonEntry d).mode = true := by
        rw [← hmode]
        refine belongs_automatic (by decide) ?_
        obtain h | h | h := hground <;> rw [h] <;> decide
      rw [hself, hframe.cannonEntry]
      exact agrees_of_closing (.inl rfl) hauto htimer
    · rw [hne d hd, hframe.cannonEntry]; exact ha d
  · refine waitingHeld_of_kept hw (fun g => by rw [waiting_takeClose]; exact List.filter_sublist) fun g d hd hstate => ?_
    rw [waiting_takeClose, List.mem_filter, decide_eq_true_iff] at hd
    rw [hne d hd.2]
    exact ⟨rfl, hstate⟩
  · obtain ⟨-, -, hroom, hflow⟩ := (canClose_iff s c).mp hfits
    refine placesHeld_enter c hp hframe hne (by rw [hself]) hground.noPlace hplace ?_ ⟨hroom, hflow⟩
    exact entered_of_updAt c (by rw [takeClose_eq]) fun g => by simp [State.station]
  · refine commandsHeld_of_close hq c hframe.phase (by rw [takeClose_eq]) ?_ hne fun ho => ?_
    · obtain h | h | h := hground <;> rw [h] <;> decide
    · have := (opening_of_openQueued hq ho).1
      rw [this] at hground
      obtain h | h | h := hground <;> cases h

theorem waiting_joinWaiting {c : CannonId} {s : State} (h : s.closeWaiting c = false) (g : StationId) :
    ((joinWaiting c s).station g).waiting =
      if g = s.stationOf c then (s.station g).waiting ++ [c] else (s.station g).waiting := by
  rw [joinWaiting, if_neg (by rw [h]; decide), State.station_updStation]
  by_cases hg : g = s.stationOf c
  · subst hg; rw [if_pos rfl, if_pos rfl]
  · rw [if_neg hg, if_neg hg]

/-- A cannon that joins its station's waiting list, once (R89). -/
theorem yardKept_joinWaiting {c : CannonId} {s : State} (hground : (s.cannon c).state.Grounded) :
    s.KeepsYard (joinWaiting c s) := by
  cases hwaits : s.closeWaiting c with
  | true => rw [joinWaiting, if_pos hwaits]; exact .refl s
  | false =>
    have hframe := frame_joinWaiting c s
    have hcannon (d : CannonId) : (joinWaiting c s).cannon d = s.cannon d :=
      congrArg (fun v : Vector Cannon 48 => v[d]) (joinWaiting_cannons s c)
    have hqueue : (joinWaiting c s).commands = s.commands := by rw [joinWaiting, if_neg (by rw [hwaits]; decide)]; rfl
    have hfigures (g : StationId) : ((joinWaiting c s).station g).inUse = (s.station g).inUse ∧
        ((joinWaiting c s).station g).inUseFlow = (s.station g).inUseFlow := by
      rw [joinWaiting, if_neg (by rw [hwaits]; decide), State.station_updStation]
      split
      · rename_i hg; subst hg; exact ⟨rfl, rfl⟩
      · exact ⟨rfl, rfl⟩
    refine ⟨.ofCannons hframe.cfg fun d => by rw [hcannon]; exact .refl _, hframe.phase ▸ id, fun ⟨ha, hw⟩ => ⟨⟨fun d => ?_, fun g => ?_⟩, fun hp => ?_, fun hq => ?_⟩⟩
    · rw [hcannon, hframe.cannonEntry]; exact ha d
    · have hout : ∀ h, c ∉ (s.station h).waiting := fun h hc =>
        Bool.eq_false_iff.mp hwaits ((closeWaiting_iff s c).mpr ⟨h, hc⟩)
      simp only [State.stationOf, hcannon]
      rw [waiting_joinWaiting hwaits]
      obtain ⟨hnodup, hall⟩ := hw g
      split
      · rename_i hg
        refine ⟨List.nodup_append.mpr ⟨hnodup, List.nodup_singleton _, fun a ha b hb => ?_⟩, fun d hd => ?_⟩
        · rw [List.mem_singleton.mp hb]
          exact fun e => hout g (e ▸ ha)
        · obtain hd | hd := List.mem_append.mp hd
          · exact hall d hd
          · rw [List.mem_singleton.mp hd]; exact ⟨hg.symm, hground⟩
      · exact ⟨hnodup, hall⟩
    · exact placesHeld_of_same hp (fun d => by rw [hcannon])
        (fun d _ => ⟨congrArg Cannon.station (hcannon d), by rw [hframe.cannonEntry]⟩) hfigures
        fun g h1 h2 => by rw [hframe.stationEntry]; exact ⟨h1, h2⟩
    · exact commandsHeld_of_kept hq (by rw [hframe.phase]; exact id) (by rw [hqueue])
        (fun d _ h1 h2 => by rw [hcannon]; exact ⟨h1, h2⟩) fun d h => by rw [hcannon]; exact h

theorem yardKept_closeWithoutBurst (c : CannonId) (s : State) : s.KeepsYard (closeWithoutBurst c s) := by
  unfold closeWithoutBurst
  split
  case h_1 h | h_2 h | h_3 h =>
    have hground : (s.cannon c).state.Grounded := by rw [h]; decide
    exact yardKept_ite (fun hfits => yardKept_takeClose hground hfits) fun _ => yardKept_joinWaiting hground
  all_goals exact .refl s

/-- Cannons that leave the waiting lists (R89). -/
theorem yardKept_stopWaiting (c : CannonId) (s : State) : s.KeepsYard (stopWaiting c s) := by
  have hwaiting (g : StationId) : (stopWaiting c s).station g =
      { s.station g with waiting := (s.station g).waiting.filter (· ≠ c) } := station_mapStations s _ g
  refine ⟨.ofCannons rfl fun _ => .refl _, id, fun ⟨ha, hw⟩ => ⟨⟨ha, ?_⟩, fun hp => ?_, id⟩⟩
  · exact waitingHeld_of_kept hw (fun g => by rw [hwaiting]; exact List.filter_sublist) fun _ _ _ h => ⟨rfl, h⟩
  · exact placesHeld_of_same hp (fun _ => rfl) (fun _ _ => ⟨rfl, rfl⟩) (fun g => by rw [hwaiting]; exact ⟨rfl, rfl⟩)
      fun _ h1 h2 => ⟨h1, h2⟩

/-- An admitted close is steady, whatever its cannon's state. -/
theorem steady_takeClose (c : CannonId) (s : State) : s.Steady (takeClose c s) :=
  .ofCannon c (frame_takeClose c s).cfg (by rw [takeClose_cannon]; exact .same rfl rfl rfl rfl rfl) (takeClose_cannon_ne s c)

theorem steady_foldl {α : Type} (f : State → α → State) (hf : ∀ (s : State) (a : α), s.Steady (f s a)) (l : List α) (s : State) :
    s.Steady (l.foldl f s) := by
  induction l generalizing s with
  | nil => exact .refl s
  | cons a l ih => exact (hf s a).trans (ih _)

/-- The walk of a close waiting list admits cannons that wait, each once (R89). -/
theorem yardKept_walkWaiting (g : StationId) (s : State) : s.KeepsYard (walkWaiting g s) := by
  have hwalk : ∀ (cs : List CannonId) (t : State), cs.Nodup → (∀ c ∈ cs, (t.cannon c).state.Grounded) →
      t.KeepsYard (cs.foldl (fun t c => if t.canClose c then takeClose c t else t) t) := by
    intro cs
    induction cs with
    | nil => exact fun t _ _ => .refl t
    | cons c cs ih =>
      intro t hnodup hcs
      obtain ⟨hc, hrest⟩ := List.nodup_cons.mp hnodup
      rw [List.foldl_cons]
      split
      · next hfits =>
        refine (yardKept_takeClose (hcs c List.mem_cons_self) hfits).trans (ih _ hrest fun d hd => ?_)
        rw [takeClose_cannon_ne t c d fun e => hc (e ▸ hd)]
        exact hcs d (List.mem_cons_of_mem c hd)
      · exact ih t hrest fun d hd => hcs d (List.mem_cons_of_mem c hd)
  refine ⟨steady_foldl _ (fun t c => ?_) _ s, (frame_walkWaiting g s).phase ▸ id, fun ha => (hwalk _ s (ha.2 g).1 fun c hc => ((ha.2 g).2 c hc).2).held ha⟩
  split
  · exact steady_takeClose c t
  · exact .refl t

/-! ## Early closes (R112) -/

/-- A burst in flight that is closed keeps its place; its cannon's OPEN has been sent (R106, R107, R110, R112). -/
theorem yardKept_startClosing (forFault : Bool) {c : CannonId} {s : State} (hflies : (s.cannon c).inFlight = true)
    (hsent : s.CommandsHeld → s.openQueued c = false) : s.KeepsYard (startClosing forFault c s) := by
  have hne := startClosing_cannon_ne s c forFault
  have hself := startClosing_cannon s c forFault
  have hframe := frame_startClosing forFault c s
  have hstation (g : StationId) : (startClosing forFault c s).station g = s.station g := by rw [startClosing_eq]; rfl
  have hstate : (s.cannon c).state = .opening ∨ (s.cannon c).state = .spraying := by simpa [Cannon.inFlight] using hflies
  have hplace : (s.cannon c).state.holdsPlace = true := by obtain h | h := hstate <;> rw [h] <;> rfl
  refine ⟨.ofCannon c hframe.cfg (by rw [hself]; exact .same rfl rfl rfl rfl rfl) hne, hframe.phase ▸ id,
    fun ⟨ha, hw⟩ => ⟨⟨fun d => ?_, ?_⟩, fun hp => ?_, fun hq => ?_⟩⟩
  · by_cases hd : d = c
    · subst hd
      have hauto : CannonState.belongs .closing (s.cannonEntry d).mode = true := by
        rw [← (ha d).1]
        refine belongs_automatic (by decide) ?_
        obtain h | h := hstate <;> rw [h] <;> decide
      rw [hself, hframe.cannonEntry]
      exact agrees_of_closing (.inl rfl) hauto rfl
    · rw [hne d hd, hframe.cannonEntry]; exact ha d
  · refine waitingHeld_of_kept hw (fun g => by rw [hstation]) fun g d _ hground => ?_
    have hd : d ≠ c := by rintro rfl; rw [hground.noPlace] at hplace; cases hplace
    rw [hne d hd]
    exact ⟨rfl, hground⟩
  · have hkept (d : CannonId) : ((startClosing forFault c s).cannon d).state.holdsPlace = (s.cannon d).state.holdsPlace ∧
        ((startClosing forFault c s).cannon d).station = (s.cannon d).station := by
      by_cases hd : d = c
      · subst hd; rw [hself, hplace]; exact ⟨rfl, rfl⟩
      · rw [hne d hd]; exact ⟨rfl, rfl⟩
    exact placesHeld_of_same hp (fun d => (hkept d).1) (fun d _ => ⟨(hkept d).2, by rw [hframe.cannonEntry]⟩)
      (fun g => by rw [hstation]; exact ⟨rfl, rfl⟩) fun g h1 h2 => by rw [hframe.stationEntry]; exact ⟨h1, h2⟩
  · refine commandsHeld_of_close hq c hframe.phase (by rw [startClosing_eq]; rfl) ?_ hne fun ho => ?_
    · obtain h | h := hstate <;> rw [h] <;> decide
    · rw [hsent hq] at ho; cases ho

/-- A cannon leaves the four states: its burst and its timers are gone, and its place is given back (R109, R110, R112). -/
structure State.Lands (s t : State) (c : CannonId) (next : CannonState) : Prop where
  phase : t.phase = s.phase
  cfg : t.cfg = s.cfg
  cannon : t.cannon c = (s.cannon c).landed next
  others : ∀ d, d ≠ c → t.cannon d = s.cannon d
  waiting : ∀ g, (t.station g).waiting = (s.station g).waiting
  figures : s.Left t c

/-- Such a cannon keeps the laws, if no OPEN of it stays queued. -/
theorem State.Lands.keeps {s t : State} {c : CannonId} {next : CannonState} (h : s.Lands t c next)
    (hplace : (s.cannon c).state.holdsPlace = true) (hnext : next.Grounded)
    (hcommands : t.commands.Sublist s.commands) (hopen : s.CommandsHeld → t.openQueued c = false) : s.KeepsYard t := by
  have hentry (d : CannonId) : t.cannonEntry d = s.cannonEntry d := congrArg (fun f : Tables => f.cannons[d]) h.cfg
  refine ⟨.ofCannon c h.cfg (by rw [h.cannon]; exact .same rfl rfl rfl rfl rfl) h.others, h.phase ▸ id,
    fun ⟨ha, hw⟩ => ⟨⟨fun d => ?_, ?_⟩, fun hp => ?_, fun hq => ?_⟩⟩
  · rw [hentry]
    by_cases hd : d = c
    · subst hd
      have hauto : next.belongs (s.cannonEntry d).mode = true := by
        rw [← (ha d).1]
        refine belongs_automatic (by obtain rfl | rfl | rfl := hnext <;> decide) ?_
        cases hstate : (s.cannon d).state <;> rw [hstate] at hplace <;> first | decide | cases hplace
      rw [h.cannon]
      exact (agrees_of_grounded (k := (s.cannon d).landed next) hnext.noPlace).mpr ⟨hauto, rfl, rfl, rfl⟩
    · rw [h.others d hd]; exact ha d
  · refine waitingHeld_of_kept hw (fun g => by rw [h.waiting]) fun g d _ hground => ?_
    have hd : d ≠ c := by rintro rfl; rw [hground.noPlace] at hplace; cases hplace
    rw [h.others d hd]
    exact ⟨rfl, hground⟩
  · exact placesHeld_leave c hp h.cfg h.others hplace (by rw [h.cannon]; exact hnext.noPlace) h.figures
  · refine commandsHeld_of_kept hq (by rw [h.phase]; exact id) hcommands (fun d hd h1 h2 => ?_) fun d hd => ?_
    · by_cases e : d = c
      · subst e; rw [hopen hq] at hd; cases hd
      · rw [h.others d e]; exact ⟨h1, h2⟩
    · have e : d ≠ c := by rintro rfl; rw [hd] at hplace; cases hplace
      rw [h.others d e]; exact hd

/-- The end of a landing: the place given back and the preemption that closed the cannon ended. -/
theorem lands_of_landed {s u : State} {c : CannonId} {next : CannonState} (hphase : u.phase = s.phase) (hcfg : u.cfg = s.cfg)
    (hstations : u.stations = s.stations) (hcannons : u.cannons = updAt s.cannons c (Cannon.landed next)) :
    s.Lands (endClosing c (leavePlace c u)) c next := by
  have hcannon (d : CannonId) : u.cannon d = if d = c then (s.cannon c).landed next else s.cannon d :=
    (congrArg (fun v : Vector Cannon 48 => v[d]) hcannons).trans (updAt_get _ _ _ _)
  have hkept (d : CannonId) : (endClosing c (leavePlace c u)).cannon d = u.cannon d := rfl
  have hof : u.stationOf c = s.stationOf c := by rw [State.stationOf, hcannon, if_pos rfl]; rfl
  have hflow : u.cannonEntry c = s.cannonEntry c := congrArg (fun f : Tables => f.cannons[c]) hcfg
  have hstation (g : StationId) : (endClosing c (leavePlace c u)).station g =
      { (leavePlace c u).station g with preempt := ((leavePlace c u).station g).preempt.filter fun p => p.2 ≠ c } :=
    station_mapStations _ _ g
  have hleft (g : StationId) : (leavePlace c u).station g = if g = s.stationOf c then
      { s.station g with
        inUse := (s.station g).inUse - 1, inUseFlow := (s.station g).inUseFlow - (s.cannonEntry c).flow }
      else s.station g := by
    have hsame (h : StationId) : u.station h = s.station h := congrArg (fun v : Vector Station 4 => v[h]) hstations
    rw [leavePlace_of_station hof, State.station_updStation, hflow, hsame, hsame]
    split
    · rename_i hg; subst hg; rfl
    · rfl
  refine ⟨hphase, hcfg, by rw [hkept, hcannon, if_pos rfl], fun d hd => by rw [hkept, hcannon, if_neg hd], fun g => ?_, fun g => ?_⟩
  · rw [hstation, hleft]
    split <;> rfl
  · rw [hstation, hleft]
    by_cases hg : g = s.stationOf c
    · subst hg; simp
    · rw [if_neg hg, if_neg (Ne.symm hg), if_neg (Ne.symm hg)]; exact ⟨rfl, rfl⟩

/-- An OPEN removed unsent lands its cannon (R110, R112). -/
theorem yardKept_dropUnsent {next : CannonState} (hnext : next.Grounded) {c : CannonId} {s : State}
    (hopening : (s.cannon c).state = .opening) : s.KeepsYard (dropUnsent next c s) := by
  have hfreed (u : State) (hu : u.phase = s.phase ∧ u.cfg = s.cfg ∧ u.stations = s.stations ∧ u.cannons = s.cannons ∧
      u.commands = s.commands) : s.KeepsYard (endClosing c (leavePlace c (removeOpen c (u.updCannon c (Cannon.landed next))))) := by
    obtain ⟨hphase, hcfg, hstations, hcannons, hcommands⟩ := hu
    have hremoved : (removeOpen c (u.updCannon c (Cannon.landed next))).commands =
        s.commands.filter fun q => ¬ (q.cannon = c ∧ q.verb = .openValve) := by rw [← hcommands]; rfl
    have hlands := lands_of_landed (u := removeOpen c (u.updCannon c (Cannon.landed next))) (next := next) hphase hcfg
      hstations (by rw [← hcannons]; rfl)
    refine hlands.keeps (by rw [hopening]; rfl) hnext (hremoved ▸ List.filter_sublist) fun _ => ?_
    refine Bool.eq_false_iff.mpr fun h => ?_
    rw [openQueued_iff] at h
    have hmem := List.mem_filter.mp (hremoved ▸ h)
    simp at hmem
  unfold dropUnsent
  dsimp only
  refine .after (yardKept_capacityDue _ _) (hfreed _ ?_)
  split <;> exact ⟨rfl, rfl, rfl, rfl, rfl⟩

theorem yardKept_earlyClose (c : CannonId) (s : State) : s.KeepsYard (earlyClose c s) := by
  unfold earlyClose
  split
  case h_1 h =>
    exact yardKept_ite (fun _ => yardKept_dropUnsent (.inr (.inl rfl)) h) fun hq =>
      yardKept_startClosing false (by simp [Cannon.inFlight, h]) fun _ => Bool.eq_false_iff.mpr hq
  case h_2 h =>
    exact yardKept_startClosing false (by simp [Cannon.inFlight, h]) fun hq => not_openQueued hq (by rw [h]; decide)
  all_goals exact .refl s

theorem yardKept_closeEach (cs : List CannonId) (s : State) : s.KeepsYard (closeEach cs s) :=
  yardKept_foldl _ (fun t c => yardKept_earlyClose c t) cs s

theorem yardKept_closeAnyOrder (cs : List CannonId) (s : State) : s.KeepsYard (closeAnyOrder cs s) :=
  (yardKept_shuffle cs s).trans (yardKept_closeEach _ _)

end Sys2Proof.Machine
end

section
namespace Sys2Proof.Machine

/-! ## Completion and changes of state (R109 to R114) -/

/-- The records that completion accounting leaves, and the burst it removes (R113). -/
theorem complete_frame (c : CannonId) (litres : Nat) (s : State) :
    (complete c litres s).phase = s.phase ∧ (complete c litres s).cfg = s.cfg ∧ (complete c litres s).stations = s.stations ∧
    (complete c litres s).commands = s.commands ∧
    (complete c litres s).cannons = updAt s.cannons c fun k => { k with burst := none } := by
  rw [complete_eq]
  exact ⟨rfl, rfl, rfl, rfl, rfl⟩

/-- A valve's status lands a cannon in SPRAYING, CLOSING or STUCK (R109, R110, R113, R114). -/
theorem yardKept_leaveBurst {next : CannonState} (hnext : next.Grounded) {c : CannonId} (litres : Nat) {s : State}
    (hplace : (s.cannon c).state.holdsPlace = true) (hstate : (s.cannon c).state ≠ .opening) :
    s.KeepsYard (leaveBurst next c litres s) := by
  obtain ⟨hphase, hcfg, hstations, hcommands, hcannons⟩ := complete_frame c litres s
  have hlands := lands_of_landed (s := s) (next := next) (c := c)
    (u := (complete c litres s).updCannon c fun k =>
      { k with state := next, burstTimer := none, ackTimer := none, faultPending := false })
    hphase hcfg hstations (by rw [State.updCannon_cannons, hcannons, updAt_updAt]; rfl)
  refine .after (yardKept_capacityDue _ _) (.after (yardKept_confirmingClose c _)
    (hlands.keeps hplace hnext ?_ fun hq => ?_))
  · exact hcommands ▸ List.Sublist.refl _
  · exact (congrArg (fun l : List Command => l.any fun q => q.cannon = c ∧ q.verb = .openValve) hcommands).trans
      (not_openQueued hq hstate)

/-- A cannon whose state changes and that keeps its place or its lack of one. -/
theorem placesKept_restate {c : CannonId} {f : Cannon → Cannon} {s : State}
    (hplace : (f (s.cannon c)).state.holdsPlace = (s.cannon c).state.holdsPlace)
    (hstation : (f (s.cannon c)).station = (s.cannon c).station)
    (hagrees : (s.cannon c).Agrees (s.cannonEntry c).mode → (f (s.cannon c)).Agrees (s.cannonEntry c).mode)
    (hwaits : s.closeWaiting c = true → (s.cannon c).state.Grounded → (f (s.cannon c)).state.Grounded)
    (hsent : s.CommandsHeld → s.openQueued c = false)
    (hlive : s.phase = .loading → (s.cannon c).state ≠ .retired) (ha : s.Agreed) : s.KeepsPlaces (s.updCannon c f) := by
  obtain ⟨ha, hw⟩ := ha
  have hne (d : CannonId) (hd : d ≠ c) : (s.updCannon c f).cannon d = s.cannon d := State.cannon_updCannon_ne _ _ _ _ hd
  have hself : (s.updCannon c f).cannon c = f (s.cannon c) := State.cannon_updCannon_self _ _ _
  have hkept (d : CannonId) : ((s.updCannon c f).cannon d).state.holdsPlace = (s.cannon d).state.holdsPlace ∧
      ((s.updCannon c f).cannon d).station = (s.cannon d).station := by
    by_cases hd : d = c
    · subst hd; rw [hself]; exact ⟨hplace, hstation⟩
    · rw [hne d hd]; exact ⟨rfl, rfl⟩
  refine ⟨⟨fun d => ?_, ?_⟩, fun hp => ?_, fun hq => ?_⟩
  · by_cases hd : d = c
    · subst hd; rw [hself]; exact hagrees (ha d)
    · rw [hne d hd]; exact ha d
  · refine waitingHeld_of_kept hw (fun _ => .refl _) fun g d hmem hground => ⟨(hkept d).2, ?_⟩
    by_cases hd : d = c
    · subst hd
      rw [hself]
      exact hwaits ((closeWaiting_iff s d).mpr ⟨g, hmem⟩) hground
    · rw [hne d hd]; exact hground
  · exact placesHeld_of_same hp (fun d => (hkept d).1) (fun d _ => ⟨(hkept d).2, rfl⟩) (fun _ => ⟨rfl, rfl⟩)
      fun _ h1 h2 => ⟨h1, h2⟩
  · obtain ⟨hnodup, hopens, hloading⟩ := hq
    refine ⟨hnodup, fun q hmem hv => ?_, fun hp => ⟨(hloading hp).1, fun d => ?_⟩⟩
    · have hd : q.cannon ≠ c := by
        rintro rfl
        refine Bool.eq_false_iff.mp (hsent ⟨hnodup, hopens, hloading⟩) ((openQueued_iff s _).mpr ?_)
        cases q; cases hv; exact hmem
      rw [hne _ hd]
      exact hopens q hmem hv
    · exact absurd ((hloading hp).2 c) (hlive hp)

/-- The same with the laws of aims and owed counts. -/
theorem yardKept_restate {c : CannonId} {f : Cannon → Cannon} {s : State}
    (hplace : (f (s.cannon c)).state.holdsPlace = (s.cannon c).state.holdsPlace)
    (hstation : (f (s.cannon c)).station = (s.cannon c).station)
    (hagrees : (s.cannon c).Agrees (s.cannonEntry c).mode → (f (s.cannon c)).Agrees (s.cannonEntry c).mode)
    (hsteady : (s.cannon c).Steady (f (s.cannon c)))
    (hwaits : s.closeWaiting c = true → (s.cannon c).state.Grounded → (f (s.cannon c)).state.Grounded)
    (hsent : s.CommandsHeld → s.openQueued c = false)
    (hlive : s.phase = .loading → (s.cannon c).state ≠ .retired) : s.KeepsYard (s.updCannon c f) :=
  ⟨.ofCannon c rfl (by rw [State.cannon_updCannon_self]; exact hsteady) fun _ hd => State.cannon_updCannon_ne _ _ _ _ hd, id,
    placesKept_restate hplace hstation hagrees hwaits hsent hlive⟩

/-- A cannon without a place that agreed, in another state without one that belongs to the mode. -/
theorem agrees_restated {k k' : Cannon} {m m' : CannonMode} (hk : k.state.holdsPlace = false) (hk' : k'.state.holdsPlace = false)
    (hmode : k.state.belongs m = true → k'.state.belongs m' = true) (hburst : k'.burst = k.burst)
    (htimer : k'.burstTimer = k.burstTimer) (hack : k'.ackTimer = k.ackTimer) (h : k.Agrees m) : k'.Agrees m' := by
  obtain ⟨h1, h2, h3, h4⟩ := (agrees_of_grounded hk).mp h
  exact (agrees_of_grounded hk').mpr ⟨hmode h1, hburst.trans h2, htimer.trans h3, hack.trans h4⟩

/-- A cannon that passes from one waiting state to another (R110, R111, R117). -/
theorem yardKept_toGrounded {next : CannonState} (hnext : next.Grounded) {c : CannonId} {s : State}
    (hground : (s.cannon c).state.Grounded) : s.KeepsYard (s.updCannon c fun k => { k with state := next }) := by
  have hauto : next ≠ .bypassClosed ∧ next ≠ .bypassOpen ∧ next ≠ .retired := by
    obtain rfl | rfl | rfl := hnext <;> decide
  refine yardKept_restate (hnext.noPlace.trans hground.noPlace.symm) rfl (agrees_restated hground.noPlace hnext.noPlace
    (fun h => ?_) rfl rfl rfl) (.same rfl rfl rfl rfl rfl) (fun _ _ => hnext) (fun hq => not_openQueued hq ?_) fun _ => ?_
  · rw [← h]
    refine belongs_automatic hauto ?_
    obtain e | e | e := hground <;> rw [e] <;> decide
  all_goals obtain e | e | e := hground <;> rw [e] <;> decide

/-! ## Grants (R95, R97) -/

/-- Cannon `c` may be granted a burst at station `g`: it is IDLE in AUTOMATIC there, waits for no close and has no command
queued (R93). -/
structure State.MayOpen (s : State) (g : StationId) (c : CannonId) : Prop where
  station : s.stationOf c = g
  automatic : (s.cannonEntry c).mode = .automatic
  idle : (s.cannon c).state = .idle
  free : s.closeWaiting c = false
  quiet : s.hasCommand c = false

theorem mayOpen_of_ready {s : State} {g : StationId} {c : CannonId} (hg : s.stationOf c = g) (h : s.ready c = true) :
    s.MayOpen g c := by
  simp only [State.ready, Bool.and_eq_true, decide_eq_true_iff, Bool.not_eq_true'] at h
  obtain ⟨⟨⟨⟨hauto, hidle⟩, hfree⟩, -⟩, hquiet⟩ := h
  exact ⟨hg, hauto, hidle, hfree, hquiet⟩

theorem mayOpen_of_candidate {s : State} {g : StationId} {c : CannonId} (h : s.candidate g c = true) : s.MayOpen g c := by
  simp only [State.candidate, Bool.and_eq_true, decide_eq_true_iff] at h
  exact mayOpen_of_ready h.1.1 h.1.2

theorem mayOpen_of_fireCandidate {s : State} {g : StationId} {c : CannonId} (h : s.fireCandidate g c = true) :
    s.MayOpen g c := by
  simp only [State.fireCandidate, Bool.and_eq_true, decide_eq_true_iff] at h
  exact mayOpen_of_ready h.1.1 h.1.2

theorem entered_takePlace (c : CannonId) (s : State) : s.Entered (takePlace c s) c :=
  entered_of_updAt c rfl fun _ => ⟨rfl, rfl⟩

/-- A grant takes a place at the cannon's own station (R88, R97). -/
theorem entered_grant (g : StationId) (c : CannonId) (r : CannonRequest) (w : SourceId) (s : State) :
    s.Entered (grant g c r w s) c := by
  intro d
  have hended (t : State) : ((endPreemption c t).station d).inUse = (t.station d).inUse ∧
      ((endPreemption c t).station d).inUseFlow = (t.station d).inUseFlow := by
    rw [endPreemption, station_mapStations]; exact ⟨rfl, rfl⟩
  have hpointed (t : State) : ((t.updStation g fun x => { x with pointer := nextCannon c }).station d).inUse =
      (t.station d).inUse ∧ ((t.updStation g fun x => { x with pointer := nextCannon c }).station d).inUseFlow =
      (t.station d).inUseFlow := by
    rw [State.station_updStation]
    split
    · rename_i hd; subst hd; exact ⟨rfl, rfl⟩
    · exact ⟨rfl, rfl⟩
  have hplaced (planned duration : Nat) :
      let t := queueOpen c (commit w planned (s.updCannon c fun k =>
        { k.afterGrant r with state := .opening, burst := some (newBurst r k.target w planned duration) }))
      ((takePlace c t).station d).inUse = (s.station d).inUse + (if s.stationOf c = d then 1 else 0) ∧
      ((takePlace c t).station d).inUseFlow =
        (s.station d).inUseFlow + if s.stationOf c = d then (s.cannonEntry c).flow else 0 := by
    intro t
    have hof : t.stationOf c = s.stationOf c := State.stationOf_updCannon_keep s c _ c (by cases r <;> rfl)
    exact hof ▸ entered_takePlace c t d
  cases r with
  | manual p => simp only [grant, hpointed]; exact hplaced _ _
  | fire p => simp only [grant, hended, hpointed]; exact hplaced _ _
  | auto p z => simp only [grant, hpointed]; exact hplaced _ _

/-- A grant where there is room, to a cannon that may open on its request (R95, R97). -/
theorem yardKept_grant {g : StationId} {c : CannonId} {r : CannonRequest} (w : SourceId) {s : State} (hc : s.MayOpen g c)
    (hr : (s.cannon c).request = some r) (hcount : s.countFits g = true) (hflow : s.flowFits g c = true) :
    s.KeepsYard (grant g c r w s) := by
  have hne (d : CannonId) (hd : d ≠ c) : (grant g c r w s).cannon d = s.cannon d := by rw [grant_cannon, if_neg hd]
  have hself := (grant_cannon g c r w s c).trans (if_pos rfl)
  have hframe := frame_grant g c r w s
  have hkept : ((s.cannon c).afterGrant r).station = (s.cannon c).station ∧
      ((s.cannon c).afterGrant r).target = (s.cannon c).target ∧ ((s.cannon c).afterGrant r).column = (s.cannon c).column ∧
      ((s.cannon c).afterGrant r).row = (s.cannon c).row ∧ ((s.cannon c).afterGrant r).burstTimer = (s.cannon c).burstTimer ∧
      ((s.cannon c).afterGrant r).ackTimer = (s.cannon c).ackTimer := by
    cases r <;> exact ⟨rfl, rfl, rfl, rfl, rfl, rfl⟩
  obtain ⟨hof, htarget, hcolumn, hrow, htimer, hack⟩ := hkept
  have howed : (s.cannon c).OwedFits → ((s.cannon c).afterGrant r).OwedFits := fun ⟨h1, h2⟩ => by
    cases r with
    | auto p z => exact ⟨Nat.le_trans (Nat.sub_le _ _) h1, fun h => by simp [Cannon.holds, Cannon.afterGrant, hr, CannonRequest.cls] at h⟩
    | manual | fire => exact owedFits_of_zero rfl
  have hout : (s.cannon c).state.holdsPlace = false := by rw [hc.idle]; rfl
  refine ⟨.ofCannon c hframe.cfg (by rw [hself]; exact ⟨fun ps _ h => by simpa only [Cannon.AimFits, htarget, hcolumn, hrow] using h, howed⟩) hne,
    hframe.phase ▸ id,
    fun ⟨ha, hw⟩ => ⟨⟨fun d => ?_, ?_⟩, fun hp => ?_, fun hq => ?_⟩⟩
  · by_cases hd : d = c
    · subst hd
      obtain ⟨-, -, hnone, hnone'⟩ := (agrees_of_grounded hout).mp (ha d)
      rw [hself, hframe.cannonEntry, hc.automatic]
      refine ⟨rfl, fun _ => rfl, fun _ => rfl, fun h => ?_, fun _ => .inl rfl⟩
      rw [show _ = (s.cannon d).burstTimer from htimer, hnone] at h
      cases h
    · rw [hne d hd, hframe.cannonEntry]; exact ha d
  · refine waitingHeld_of_kept hw (fun h => by rw [waiting_grant]) fun h d hmem hground => ?_
    have hd : d ≠ c := by
      rintro rfl
      rw [waiting_grant] at hmem
      exact Bool.eq_false_iff.mp hc.free ((closeWaiting_iff s d).mpr ⟨h, hmem⟩)
    rw [hne d hd]
    exact ⟨rfl, hground⟩
  · refine placesHeld_enter c hp hframe hne (by rw [hself]; exact hof) hout (by rw [hself]; rfl) (entered_grant g c r w s) ?_
    have hplaces : s.arbiterCount g < (s.stationEntry g).limit := of_decide_eq_true hcount
    have hlitres : s.arbiterFlow g + (s.cannonEntry c).flow ≤ (s.stationEntry g).maxFlow := of_decide_eq_true hflow
    unfold State.arbiterCount at hplaces
    unfold State.arbiterFlow at hlitres
    rw [hc.station]
    exact ⟨by omega, by omega⟩
  · obtain ⟨-, -, -, hnone⟩ := (agrees_of_grounded hout).mp (ha c)
    refine commandsHeld_of_join hq c .openValve hframe.phase (commands_grant g c r w s) hc.quiet (by rw [hc.idle]; decide) hne
      fun _ => ?_
    rw [hself]
    exact ⟨rfl, hack.trans hnone⟩

/-! ## Arbitration (R95, R98, R100) -/

theorem yardKept_owe (c : CannonId) (s : State) : s.KeepsYard (owe c s) := by
  refine yardKept_updCannon c _ s ?_
  split
  · next hauto =>
    exact .ofSteady rfl rfl rfl rfl rfl ⟨fun _ _ h => h, fun _ => ⟨Nat.min_le_left _ _, fun h =>
      absurd (hauto.symm.trans h) (by decide)⟩⟩
  · exact .refl _

/-- The burst that a preemption closes has its OPEN sent (R100). -/
theorem yardKept_preempted {g : StationId} (c : CannonId) {v : CannonId} {s : State} (hv : v ∈ s.victims g) :
    s.KeepsYard (s.preempted g c v) := by
  have hflies := routine_inFlight (of_mem_victims hv).1
  simp only [State.victims, State.cannonsWhere, List.mem_filter, Bool.and_eq_true, decide_eq_true_iff] at hv
  obtain ⟨-, ⟨-, hstate⟩, -⟩ := hv
  have hshut : s.KeepsYard (s.shut v false) := by
    rw [← startClosing_eq]
    refine yardKept_startClosing false hflies fun hq => ?_
    obtain hspraying | ⟨-, hsent⟩ := hstate
    · exact not_openQueued hq (by rw [hspraying]; decide)
    · exact hsent
  exact hshut.trans (yardKept_updStation g _ _ fun _ => ⟨rfl, rfl, rfl⟩)

/-- What one arbitration does, with the room that a grant has found (R95, R98, R100). -/
theorem arbitrate_room_cases (g : StationId) (c : CannonId) (s : State) :
    arbitrate g c s = s ∨ arbitrate g c s = owe c s ∨
    (∃ r w, (s.cannon c).request = some r ∧ s.countFits g = true ∧ s.flowFits g c = true ∧ arbitrate g c s = grant g c r w s) ∨
    ∃ v ∈ s.victims g, arbitrate g c s = s.preempted g c v := by
  unfold arbitrate
  split
  · exact .inl rfl
  · rename_i r hr
    dsimp only
    split
    · next hroom _ =>
      rw [Bool.and_eq_true] at hroom
      exact .inr (.inr (.inl ⟨r, _, hr, hroom.1, hroom.2, rfl⟩))
    · split
      · exact (preempt_cases g c s).elim .inl fun h => .inr (.inr (.inr h))
      · exact .inr (.inl rfl)
      · exact .inl rfl
    · exact .inr (.inl rfl)

theorem yardKept_arbitrate {g : StationId} {c : CannonId} {s : State} (hc : s.MayOpen g c) : s.KeepsYard (arbitrate g c s) := by
  obtain h | h | ⟨r, w, hr, hcount, hflow, h⟩ | ⟨v, hv, h⟩ := arbitrate_room_cases g c s <;> rw [h]
  · exact .refl s
  · exact yardKept_owe c s
  · exact yardKept_grant w hc hr hcount hflow
  · exact yardKept_preempted c hv

/-- An arbitration changes no other IDLE cannon, and no waiting list. -/
theorem arbitrate_leaves (g : StationId) {c d : CannonId} {s : State} (hd : (s.cannon d).state = .idle) (hne : d ≠ c) :
    (arbitrate g c s).cannon d = s.cannon d ∧ (arbitrate g c s).hasCommand d = s.hasCommand d ∧
    ∀ h, ((arbitrate g c s).station h).waiting = (s.station h).waiting := by
  obtain he | he | ⟨r, w, -, he⟩ | ⟨v, hv, he⟩ := arbitrate_cases g c s <;> rw [he]
  · exact ⟨rfl, rfl, fun _ => rfl⟩
  · exact ⟨State.cannon_updCannon_ne _ _ _ _ hne, rfl, fun _ => rfl⟩
  · refine ⟨by rw [grant_cannon, if_neg hne], ?_, waiting_grant g c r w s⟩
    rw [State.hasCommand, commands_grant, List.any_append]
    simp [State.hasCommand, Ne.symm hne]
  · have hvd : d ≠ v := by
      rintro rfl
      have hflies := routine_inFlight (of_mem_victims hv).1
      rw [Cannon.inFlight, hd] at hflies
      exact absurd hflies (by decide)
    refine ⟨shut_cannon_ne s false hvd, ?_, fun h => waiting_updStation (s.shut v false) g _ (by exact fun _ => rfl) h⟩
    show (s.shut v false).hasCommand d = s.hasCommand d
    unfold State.hasCommand State.shut
    dsimp only
    split
    · rfl
    · simp [Ne.symm hvd]

/-- Another cannon's arbitration leaves a cannon that may open. -/
theorem mayOpen_arbitrate {g : StationId} {c d : CannonId} {s : State} (hd : s.MayOpen g d) (hne : d ≠ c) :
    (arbitrate g c s).MayOpen g d := by
  obtain ⟨hcannon, hcommand, hwaiting⟩ := arbitrate_leaves g hd.idle hne
  exact ⟨by rw [State.stationOf, hcannon]; exact hd.station, by rw [(frame_arbitrate g c s).cannonEntry]; exact hd.automatic,
    by rw [hcannon]; exact hd.idle, by rw [closeWaiting_congr hwaiting]; exact hd.free, by rw [hcommand]; exact hd.quiet⟩

theorem yardKept_arbitrateAll (g : StationId) (cs : List CannonId) {s : State} (hnodup : cs.Nodup)
    (hcs : ∀ c ∈ cs, s.MayOpen g c) : s.KeepsYard (arbitrateAll g cs s) := by
  induction cs generalizing s with
  | nil => exact .refl s
  | cons c cs ih =>
    obtain ⟨hc, hrest⟩ := List.nodup_cons.mp hnodup
    exact (yardKept_arbitrate (hcs c List.mem_cons_self)).trans (ih hrest fun d hd =>
      mayOpen_arbitrate (hcs d (List.mem_cons_of_mem c hd)) fun e => hc (e ▸ hd))

/-- The order of R94 walks each cannon that passes a test once. -/
theorem ranked_filter (s : State) (g : StationId) (p : CannonId → Bool) :
    (s.ranked g ((List.finRange 48).filter p)).Nodup ∧ ∀ c ∈ s.ranked g ((List.finRange 48).filter p), p c = true := by
  refine ⟨(List.perm_insertionSort _ _).nodup_iff.mpr ((List.nodup_finRange 48).filter _), fun c hc => ?_⟩
  rw [State.ranked, List.mem_insertionSort] at hc
  exact (List.mem_filter.mp hc).2

theorem yardKept_arbitrateFires (g : StationId) (s : State) : s.KeepsYard (arbitrateFires g s) :=
  have ⟨hnodup, hall⟩ := ranked_filter s g fun c => s.fireCandidate g c
  yardKept_ite (fun _ => yardKept_arbitrateAll g _ hnodup fun c hc => mayOpen_of_fireCandidate (hall c hc)) fun _ => .refl s

theorem yardKept_arbitrateFire (c : CannonId) (s : State) : s.KeepsYard (arbitrateFire c s) :=
  yardKept_ite (fun h => yardKept_arbitrate (mayOpen_of_fireCandidate (Bool.and_eq_true_iff.mp h).2)) fun _ => .refl s

theorem yardKept_arbitrateSlot (g : StationId) (s : State) : s.KeepsYard (arbitrateSlot g s) :=
  have ⟨hnodup, hall⟩ := ranked_filter s g fun c => s.candidate g c
  yardKept_arbitrateAll g _ hnodup fun c hc => mayOpen_of_candidate (hall c hc)

/-! ## Capacity events and slots (R90, R92) -/

theorem yardKept_capacityEvent (g : StationId) (s : State) : s.KeepsYard (capacityEvent g s) :=
  (yardKept_walkWaiting g s).trans (yardKept_arbitrateFires g _)

theorem yardKept_dueOrder (s : State) : s.KeepsYard (dueOrder s).2 := by
  unfold dueOrder
  dsimp only
  split
  · exact yardKept_shuffle _ s
  · exact .refl s

theorem yardKept_settle (s : State) : s.KeepsYard (settle s) :=
  .after (yardKept_foldl _ (fun t g => yardKept_capacityEvent g t) _ _) ((yardKept_dueOrder s).trans (yardKept_dueCapacity [] _))

theorem closeWaiting_stopWaiting (c : CannonId) (s : State) : (stopWaiting c s).closeWaiting c = false := by
  refine Bool.eq_false_iff.mpr fun h => ?_
  obtain ⟨g, hg⟩ := (closeWaiting_iff _ c).mp h
  rw [stopWaiting, station_mapStations] at hg
  simpa using (List.mem_filter.mp hg).2

/-- A cannon that holds no place and waits for no close goes to another station (R64). -/
theorem yardKept_reassign {c : CannonId} (g : StationId) {s : State} (hplace : (s.cannon c).state.holdsPlace = false)
    (hout : s.closeWaiting c = false) : s.KeepsYard (s.updCannon c fun k => { k with station := g }) := by
  have hne (d : CannonId) (hd : d ≠ c) : (s.updCannon c fun k => { k with station := g }).cannon d = s.cannon d :=
    State.cannon_updCannon_ne _ _ _ _ hd
  have hself : (s.updCannon c fun k => { k with station := g }).cannon c = { s.cannon c with station := g } :=
    State.cannon_updCannon_self _ _ _
  have hstate (d : CannonId) : ((s.updCannon c fun k => { k with station := g }).cannon d).state = (s.cannon d).state ∧
      ((s.updCannon c fun k => { k with station := g }).cannon d).ackTimer = (s.cannon d).ackTimer := by
    by_cases hd : d = c
    · subst hd; rw [hself]; exact ⟨rfl, rfl⟩
    · rw [hne d hd]; exact ⟨rfl, rfl⟩
  refine ⟨.ofCannon c rfl (by rw [hself]; exact .same rfl rfl rfl rfl rfl) hne, id,
    fun ⟨ha, hw⟩ => ⟨⟨fun d => ?_, ?_⟩, fun hp => ?_, fun hq => ?_⟩⟩
  · by_cases hd : d = c
    · subst hd; rw [hself]; exact ha d
    · rw [hne d hd]; exact ha d
  · refine waitingHeld_of_kept hw (fun _ => .refl _) fun h d hmem hground => ?_
    have hd : d ≠ c := by rintro rfl; exact Bool.eq_false_iff.mp hout ((closeWaiting_iff s d).mpr ⟨h, hmem⟩)
    rw [hne d hd]
    exact ⟨rfl, hground⟩
  · refine placesHeld_of_same hp (fun d => by rw [(hstate d).1]) (fun d hd => ⟨?_, rfl⟩) (fun _ => ⟨rfl, rfl⟩) fun _ h1 h2 => ⟨h1, h2⟩
    have hdc : d ≠ c := by rintro rfl; rw [hplace] at hd; cases hd
    rw [State.stationOf, hne d hdc]; rfl
  · exact commandsHeld_of_kept hq id (.refl _) (fun d _ h1 h2 => ⟨(hstate d).1.trans h1, (hstate d).2.trans h2⟩)
      fun d h => (hstate d).1.trans h

theorem steady_joinWaiting (c : CannonId) (s : State) : s.Steady (joinWaiting c s) :=
  .ofCannons (frame_joinWaiting c s).cfg fun d =>
    have h : (joinWaiting c s).cannon d = s.cannon d := congrArg (·[d]) (joinWaiting_cannons s c)
    h ▸ .refl _

/-- A station takes over a cannon that holds no place, with its place on the waiting list (R64, R89). -/
theorem yardKept_takeOver (g : StationId) (c : CannonId) (s : State) : s.KeepsYard (takeOver g c s) := by
  unfold takeOver
  split
  · next h =>
    have hmoved := (yardKept_stopWaiting c s).trans
      (yardKept_reassign g (Bool.eq_false_iff.mpr h.2.2) (closeWaiting_stopWaiting c s))
    dsimp only
    split
    · next hwaits =>
      have hstate : (((stopWaiting c s).updCannon c fun k => { k with station := g }).cannon c).state = (s.cannon c).state :=
        by rw [State.cannon_updCannon_self]; rfl
      refine ⟨hmoved.steady.trans (steady_joinWaiting c _), fun hl h => hmoved.live hl ((frame_joinWaiting c _).phase.symm.trans h), fun ha =>
        (hmoved.trans (yardKept_joinWaiting ?_)).held ha⟩
      rw [hstate]
      exact grounded_of_closeWaiting ha.2 hwaits
    · exact hmoved
  · exact .refl s

theorem yardKept_loseSlot (g : StationId) (s : State) : s.KeepsYard (loseSlot g s) :=
  yardKept_foldl _ (fun t c => yardKept_owe c t) _ s

theorem yardKept_slotStart (g : StationId) (s : State) : s.KeepsYard (slotStart g s) := by
  have hwalked : s.KeepsYard (walkWaiting g (eachCannon (takeOver g) (s.updStation g fun x =>
      { x with slot := x.slot + 1, slotTimer := some (s.stationEntry g).slotLength }))) :=
    .after (yardKept_walkWaiting g _) <| .after (yardKept_foldl _ (fun t c => yardKept_takeOver g c t) _ _)
      (yardKept_updStation g _ s fun _ => ⟨rfl, rfl, rfl⟩)
  unfold slotStart
  dsimp only
  split
  · exact yardKept_ite (fun _ => hwalked.trans (yardKept_arbitrateSlot g _)) fun _ => hwalked.trans (yardKept_loseSlot g _)
  · exact yardKept_ite (fun _ => hwalked.trans (yardKept_arbitrateFires g _)) fun _ => hwalked
  · exact yardKept_ite (fun _ => hwalked.trans (yardKept_arbitrateFires g _)) fun _ => hwalked
  · exact hwalked

end Sys2Proof.Machine
end

section
namespace Sys2Proof.Machine

/-! ## Valve status (R108 to R111) -/

theorem openQueued_removeOpen (c : CannonId) (s : State) : (removeOpen c s).openQueued c = false := by
  refine Bool.eq_false_iff.mpr fun h => ?_
  have hmem := List.mem_filter.mp ((openQueued_iff _ c).mp h)
  simp at hmem

theorem yardKept_removeOpen (c : CannonId) (s : State) : s.KeepsYard (removeOpen c s) :=
  ⟨.ofCannons rfl fun _ => .refl _, id, fun ha => ⟨ha, id, fun hq =>
    commandsHeld_of_kept hq id List.filter_sublist (fun _ _ h1 h2 => ⟨h1, h2⟩) fun _ h => h⟩⟩

/-- The burst begins to spray, its OPEN no longer queued (R108). -/
theorem yardKept_startSpraying {c : CannonId} {s : State} (hopening : (s.cannon c).state = .opening)
    (hsent : s.openQueued c = false) : s.KeepsYard (startSpraying c s) := by
  refine yardKept_restate (by rw [hopening]; rfl) rfl (fun ⟨hmode, hburst, _, _, _⟩ => ⟨?_, fun _ => ?_, fun _ => rfl, fun _ => rfl, ?_⟩)
    (.same rfl rfl rfl rfl rfl) (fun _ hground => ?_) (fun _ => hsent) fun _ => by rw [hopening]; decide
  · exact (belongs_automatic (x := .spraying) (by decide) (by rw [hopening]; decide)).trans hmode
  · rw [Option.isSome_map]; exact hburst (by simp [Cannon.inFlight, hopening])
  · rintro ⟨⟩
  · exact absurd hground.noPlace (by rw [hopening]; decide)

theorem yardKept_statusOpen (c : CannonId) (s : State) : s.KeepsYard (statusOpen c s) := by
  unfold statusOpen
  split
  case h_1 h => exact (yardKept_removeOpen c s).trans (yardKept_startSpraying h (openQueued_removeOpen c s))
  case h_5 | h_6 => exact (yardKept_raise _ s).trans (yardKept_closeWithoutBurst c _)
  case h_7 => exact yardKept_closeWithoutBurst c s
  case h_8 h =>
    refine yardKept_restate (by rw [h]; rfl) rfl (agrees_restated (by rw [h]; rfl) rfl (by rw [h]; exact id) rfl rfl rfl)
      (.same rfl rfl rfl rfl rfl) (fun _ hground => ?_) (fun hq => not_openQueued hq (by rw [h]; decide)) fun _ => by rw [h]; decide
    obtain e | e | e := hground <;> rw [h] at e <;> cases e
  all_goals exact .refl s

/-- The draw of a BYPASS opening touches the books of a source alone (R111, R133). -/
theorem yardKept_chargeBypass (c : CannonId) (litres : Nat) (s : State) :
    s.KeepsYard (chargeBypass c litres s) ∧ (chargeBypass c litres s).cannons = s.cannons := by
  unfold chargeBypass
  split
  · exact ⟨yardKept_updSource _ _ s, rfl⟩
  · exact ⟨.refl s, rfl⟩

theorem yardKept_statusClosed (c : CannonId) (litres : Nat) (s : State) : s.KeepsYard (statusClosed c litres s) := by
  unfold statusClosed
  dsimp only
  split
  case h_2 h =>
    exact (yardKept_raise _ s).trans (yardKept_leaveBurst (.inr (.inl rfl)) litres (congrArg CannonState.holdsPlace h)
      fun e => absurd (h.symm.trans e) (by decide))
  case h_3 h =>
    refine yardKept_leaveBurst ?_ litres (by rw [h]; rfl) (by rw [h]; decide)
    split
    · exact .inr (.inr rfl)
    · exact .inr (.inl rfl)
  case h_4 h => exact yardKept_leaveBurst (.inr (.inr rfl)) litres (by rw [h]; rfl) (by rw [h]; decide)
  case h_5 h =>
    exact .after (yardKept_confirmingClose c _) (.after (yardKept_stopWaiting c _)
      (yardKept_toGrounded (.inr (.inl rfl)) (.inl h)))
  case h_6 | h_7 => exact yardKept_stopWaiting c s
  case h_8 h =>
    obtain ⟨hkept, hcannons⟩ := yardKept_chargeBypass c litres s
    have hstate : ((chargeBypass c litres s).cannon c).state = .bypassOpen := by
      rw [State.cannon, hcannons]; exact h
    refine .after (yardKept_capacityDue _ _) (hkept.trans (yardKept_restate (by rw [hstate]; rfl) rfl
      (agrees_restated (by rw [hstate]; rfl) rfl (by rw [hstate]; exact id) rfl rfl rfl)
      (.same rfl rfl rfl rfl rfl) (fun _ hground => ?_) (fun hq => not_openQueued hq (by rw [hstate]; decide)) fun _ => by
        rw [hstate]; decide))
    obtain e | e | e := hground <;> rw [hstate] at e <;> cases e
  all_goals exact .refl s

theorem yardKept_statusFault (c : CannonId) (litres : Nat) (s : State) : s.KeepsYard (statusFault c litres s) := by
  unfold statusFault
  dsimp only
  split
  case h_1 h =>
    exact .after (yardKept_raise _ _) (yardKept_ite (fun _ => yardKept_dropUnsent (.inr (.inr rfl)) h) fun hq =>
      yardKept_startClosing true (by simp [Cannon.inFlight, h]) fun _ => Bool.eq_false_iff.mpr hq)
  case h_2 h =>
    exact .after (yardKept_raise _ _) (yardKept_startClosing true (by simp [Cannon.inFlight, h]) fun hq =>
      not_openQueued hq (by rw [h]; decide))
  case h_3 h | h_4 h =>
    split
    · exact yardKept_leaveBurst (.inr (.inr rfl)) litres (by rw [h]; rfl) (by rw [h]; decide)
    · exact (yardKept_raise _ s).trans (yardKept_leaveBurst (.inr (.inr rfl)) litres (congrArg CannonState.holdsPlace h)
        fun e => absurd (h.symm.trans e) (by decide))
  case h_5 h => exact .after (yardKept_raise _ _) (yardKept_toGrounded (.inr (.inr rfl)) (.inl h))
  case h_6 h => exact .after (yardKept_raise _ _) (yardKept_toGrounded (.inr (.inr rfl)) (.inr (.inl h)))
  all_goals exact .refl s

theorem yardKept_valveStatus (c : CannonId) (v : ValveReport) (litres : Nat) (s : State) :
    s.KeepsYard (valveStatus c v litres s) := by
  cases v with
  | opened => exact yardKept_statusOpen c s
  | closed => exact yardKept_statusClosed c litres s
  | fault => exact yardKept_statusFault c litres s

/-! ## Pumps (R86, R87) -/

theorem yardKept_pumpStatus (g : StationId) (p : PumpState) (pressure : Nat) (s : State) :
    s.KeepsYard (pumpStatus g p pressure s) := by
  have htold : s.KeepsYard (s.updStation g fun x =>
      { x with pump := p, pressure := pressure, pumpTimer := some s.settings.pumpStale }) :=
    yardKept_updStation g _ s fun _ => ⟨rfl, rfl, rfl⟩
  have hshut (cs : List CannonId) := htold.trans
    (yardKept_ite (p := p = .stopped ∨ p = .tripped) (fun _ => yardKept_closeAnyOrder cs _) fun _ => .refl _)
  unfold pumpStatus
  dsimp only
  split
  · exact (hshut _).trans (yardKept_raise _ _)
  · exact (hshut _).trans ((yardKept_raise _ _).trans (yardKept_capacityDue g _))
  · exact hshut _
  · exact hshut _

theorem yardKept_pumpExpiry (g : StationId) (s : State) : s.KeepsYard (pumpExpiry g s) := by
  have hshut (cs : List CannonId) := (yardKept_updStation g (fun x => { x with pump := .unknown, pumpTimer := none }) s
    fun _ => ⟨rfl, rfl, rfl⟩).trans (yardKept_closeAnyOrder cs _)
  exact yardKept_ite (fun _ => (hshut _).trans (yardKept_raise _ _)) fun _ => hshut _

/-! ## The timers of a cannon (R77, R106, R107) -/

/-- A cannon stays in CLOSING or STUCK, or passes from CLOSING to STUCK, with its acknowledgement timer set anew (R106). -/
theorem yardKept_retry {c : CannonId} {f : Cannon → Cannon} {s : State}
    (hwas : (s.cannon c).state = .closing ∨ (s.cannon c).state = .stuck) (hnow : (f (s.cannon c)).state = .stuck)
    (hstation : (f (s.cannon c)).station = (s.cannon c).station) (htimer : (f (s.cannon c)).burstTimer = (s.cannon c).burstTimer)
    (hsteady : (s.cannon c).Steady (f (s.cannon c))) : s.KeepsYard (s.updCannon c f) := by
  have hplace : (s.cannon c).state.holdsPlace = true := by obtain h | h := hwas <;> rw [h] <;> rfl
  refine yardKept_restate (by rw [hplace, hnow]; rfl) hstation (fun ⟨hmode, _, _, hrun, _⟩ => agrees_of_closing (.inr hnow) ?_ ?_)
    hsteady (fun _ hground => absurd (hground.noPlace.symm.trans hplace) (by decide)) (fun hq => not_openQueued hq ?_) fun _ => ?_
  · rw [hnow, ← hmode]
    exact belongs_automatic (by decide) (by obtain h | h := hwas <;> rw [h] <;> decide)
  · rw [htimer]
    refine Option.isSome_eq_false_iff.mp (Bool.eq_false_iff.mpr fun h => ?_) |> Option.isNone_iff_eq_none.mp
    obtain e | e := hwas <;> rw [hrun h] at e <;> cases e
  all_goals obtain h | h := hwas <;> rw [h] <;> decide

/-- A timer that stops. -/
theorem yardKept_stopAck (c : CannonId) (s : State) : s.KeepsYard (s.updCannon c fun k => { k with ackTimer := none }) :=
  yardKept_updCannon c _ s (.ofSame rfl rfl rfl id (by rintro ⟨⟩) (.same rfl rfl rfl rfl rfl))

theorem yardKept_becomeStuck {c : CannonId} {s : State} (hclosing : (s.cannon c).state = .closing) :
    s.KeepsYard (becomeStuck c s) :=
  .after (yardKept_foldl _ (fun t f => yardKept_arbitrateFire f t) _ _) (.after (yardKept_endClosing c _)
    (.after (yardKept_raise _ _) (yardKept_retry (.inl hclosing) rfl rfl rfl (.same rfl rfl rfl rfl rfl))))

/-- A closing that begins stops the acknowledgement timer itself (R106). -/
theorem startClosing_stopAck (forFault : Bool) (c : CannonId) (s : State) :
    startClosing forFault c (s.updCannon c fun k => { k with ackTimer := none }) = startClosing forFault c s := by
  unfold startClosing
  exact congrArg (queueClose c) (by simp only [State.updCannon, updAt_updAt])

theorem yardKept_ackExpiry {c : CannonId} {s : State} (hruns : (s.cannon c).ackTimer.isSome) : s.KeepsYard (ackExpiry c s) := by
  have hstopped := yardKept_stopAck c s
  have hstate : ((s.updCannon c fun k => { k with ackTimer := none }).cannon c).state = (s.cannon c).state := by
    rw [State.cannon_updCannon_self]
  unfold ackExpiry
  dsimp only
  split
  case h_1 h =>
    rw [startClosing_stopAck]
    refine .after (yardKept_raise _ _) (yardKept_startClosing true (by simp [Cannon.inFlight, h]) fun hq =>
      Bool.eq_false_iff.mpr fun ho => ?_)
    rw [(opening_of_openQueued hq ho).2] at hruns
    cases hruns
  case h_2 h => exact hstopped.trans (yardKept_becomeStuck (hstate.trans h))
  case h_3 h =>
    refine hstopped.trans ((yardKept_queueClose c _ (by rw [hstate, h]; decide)).trans ?_)
    have hqueued (t : State) : (queueClose c t).cannon c = t.cannon c := by rw [queueClose_eq]; rfl
    exact yardKept_retry (.inr (by rw [hqueued, hstate, h])) (by rw [hqueued, hstate, h]) rfl rfl (.same rfl rfl rfl rfl rfl)
  all_goals exact hstopped

/-- The burst timer runs in SPRAYING alone, where the records agree (R107). -/
theorem yardKept_burstExpiry {c : CannonId} {s : State} (hruns : (s.cannon c).burstTimer.isSome) : s.KeepsYard (burstExpiry c s) := by
  refine ⟨.ofCannons (frame_startClosing false c s).cfg fun d => ?_, (frame_startClosing false c s).phase ▸ id, fun ha => ?_⟩
  · by_cases hd : d = c
    · subst hd
      rw [burstExpiry, startClosing_cannon]
      exact .same rfl rfl rfl rfl rfl
    · rw [burstExpiry, startClosing_cannon_ne s c false d hd]
      exact .refl _
  · have hspraying : (s.cannon c).state = .spraying := (ha.1 c).2.2.2.1 hruns
    exact (yardKept_startClosing false (by simp [Cannon.inFlight, hspraying]) fun hq =>
      not_openQueued hq (by rw [hspraying]; decide)).held ha

theorem yardKept_holdTimer (c : CannonId) (timer : Option Nat) (s : State) :
    s.KeepsYard (s.updCannon c fun k => { k with holdTimer := timer }) :=
  yardKept_updCannon c _ s (.ofSteady rfl rfl rfl rfl rfl (.same rfl rfl rfl rfl rfl))

end Sys2Proof.Machine
end

section
namespace Sys2Proof.Machine

/-! ## Mode changes (R67, R177) -/

theorem yardKept_closeUnknown (c : CannonId) (s : State) : s.KeepsYard (closeUnknown c s) :=
  yardKept_ite (fun _ => yardKept_closeWithoutBurst c s) fun _ => .refl s

/-- A cannon without a place passes to another mode and its state; it leaves its close waiting list (R66, R67, R89). -/
theorem yardKept_remode {s t : State} (c : CannonId) (hsteady : s.Steady t) (hphase : t.phase = s.phase)
    (hlive : s.phase ≠ .loading) (hne : ∀ d, d ≠ c → t.cannon d = s.cannon d)
    (hentry : ∀ d, d ≠ c → t.cannonEntry d = s.cannonEntry d) (hlimits : t.cfg.stations = s.cfg.stations)
    (hout : (s.cannon c).state.holdsPlace = false) (hout' : (t.cannon c).state.holdsPlace = false)
    (hagrees : (s.cannon c).Agrees (s.cannonEntry c).mode → (t.cannon c).Agrees (t.cannonEntry c).mode)
    (hfigures : ∀ g, (t.station g).inUse = (s.station g).inUse ∧ (t.station g).inUseFlow = (s.station g).inUseFlow)
    (hwaiting : ∀ g, (t.station g).waiting.Sublist (s.station g).waiting) (hoff : s.Agreed → t.closeWaiting c = false)
    (hcommands : t.commands = s.commands) : s.KeepsYard t := by
  refine ⟨hsteady, hphase ▸ id, fun ⟨ha, hw⟩ => ⟨⟨fun d => ?_, ?_⟩, fun hp => ?_, fun hq => ?_⟩⟩
  · by_cases hd : d = c
    · subst hd; exact hagrees (ha d)
    · rw [hne d hd, hentry d hd]; exact ha d
  · refine waitingHeld_of_kept hw hwaiting fun g d hmem hground => ?_
    have hd : d ≠ c := by rintro rfl; exact Bool.eq_false_iff.mp (hoff ⟨ha, hw⟩) ((closeWaiting_iff t d).mpr ⟨g, hmem⟩)
    rw [hne d hd]
    exact ⟨rfl, hground⟩
  · refine placesHeld_of_same hp (fun d => ?_) (fun d hd => ?_) hfigures fun g h1 h2 => ?_
    · by_cases e : d = c
      · subst e; rw [hout, hout']
      · rw [hne d e]
    · have e : d ≠ c := by rintro rfl; rw [hout] at hd; cases hd
      exact ⟨congrArg Cannon.station (hne d e), by rw [hentry d e]⟩
    · have hsame : t.stationEntry g = s.stationEntry g := congrArg (fun v : Vector StationEntry 4 => v[g]) hlimits
      rw [hsame]; exact ⟨h1, h2⟩
  · refine ⟨hcommands ▸ hq.1, fun q hmem hv => ?_, fun h => absurd (hphase ▸ h) hlive⟩
    have hopen := hq.2.1 q (hcommands ▸ hmem) hv
    have e : q.cannon ≠ c := by rintro e; rw [e] at hopen; rw [hopen.1] at hout; cases hout
    rw [hne _ e]; exact hopen

theorem changedState_belongs (k : CannonState) (m : CannonMode) :
    (changedState k m).belongs m = true ∧ (changedState k m).holdsPlace = false := by
  cases m with
  | automatic => unfold changedState; dsimp only; split <;> exact ⟨rfl, rfl⟩
  | bypass | outOfService => exact ⟨rfl, rfl⟩

/-- Outside AUTOMATIC no cannon waits for a close (R66, R89). -/
theorem closeWaiting_automatic {s : State} (h : s.Agreed) {c : CannonId} (hmode : (s.cannonEntry c).mode ≠ .automatic) :
    s.closeWaiting c = false := by
  refine Bool.eq_false_iff.mpr fun hw => hmode ?_
  have hbelongs := (h.1 c).1
  obtain e | e | e := grounded_of_closeWaiting h.2 hw <;> rw [e] at hbelongs <;> exact of_decide_eq_true hbelongs

/-- From `s` to `t` entry `e` of cannon `c` is written, and its cannon has the state its new mode gives, is on no waiting list,
and is otherwise changed only in its request and its hold timer (R64, R67). -/
structure State.Remoded (s t : State) (c : CannonId) (e : CannonEntry) (f : Cannon → Cannon) : Prop where
  cfg : t.cfg = { s.cfg with cannons := updAt s.cfg.cannons c fun _ => e }
  cannons : t.cannons = updAt s.cannons c f
  phase : t.phase = s.phase
  commands : t.commands = s.commands
  figures : ∀ g, (t.station g).inUse = (s.station g).inUse ∧ (t.station g).inUseFlow = (s.station g).inUseFlow
  waiting : ∀ g, (t.station g).waiting.Sublist (s.station g).waiting
  off : s.Agreed → t.closeWaiting c = false
  state : (f (s.cannon c)).state = changedState (s.cannon c).state e.mode
  burst : (f (s.cannon c)).burst = (s.cannon c).burst ∧ (f (s.cannon c)).burstTimer = (s.cannon c).burstTimer ∧
    (f (s.cannon c)).ackTimer = (s.cannon c).ackTimer
  steady : (s.cannon c).Steady (f (s.cannon c))

theorem State.Remoded.keeps {s t : State} {c : CannonId} {e : CannonEntry} {f : Cannon → Cannon} (h : s.Remoded t c e f)
    (hlive : s.phase ≠ .loading) (hok : s.cfg.ok = true → e.ok = true) (hout : (s.cannon c).state.holdsPlace = false) : s.KeepsYard t := by
  obtain ⟨hbelongs, hground⟩ := changedState_belongs (s.cannon c).state e.mode
  have hcannon (d : CannonId) : t.cannon d = (updAt s.cannons c f)[d] := congrArg (fun v : Vector Cannon 48 => v[d]) h.cannons
  have hself : t.cannon c = f (s.cannon c) := (hcannon c).trans (updAt_get_self _ _ _)
  have hne (d : CannonId) (hd : d ≠ c) : t.cannon d = s.cannon d := (hcannon d).trans (updAt_get_ne _ _ _ _ hd)
  have hentry (d : CannonId) : t.cannonEntry d = (updAt s.cfg.cannons c fun _ => e)[d] :=
    congrArg (fun x : Tables => x.cannons[d]) h.cfg
  refine yardKept_remode c (.written (fun hold => ?_) (by rw [h.cfg]) fun d => ?_) h.phase hlive hne
    (fun d hd => (hentry d).trans (updAt_get_ne _ _ _ _ hd)) (by rw [h.cfg]) hout (by rw [hself, h.state]; exact hground)
    (fun ha => ?_) h.figures h.waiting h.off h.commands
  · rw [h.cfg]
    exact (tables_ok_iff _).mpr (((tables_ok_iff _).mp hold).withCannon c (hok hold))
  · by_cases hd : d = c
    · subst hd; rw [hself]; exact h.steady
    · rw [hne d hd]; exact .refl _
  · rw [hself, hentry, updAt_get_self]
    exact agrees_restated hout (by rw [h.state]; exact hground) (fun _ => by rw [h.state]; exact hbelongs) h.burst.1 h.burst.2.1
      h.burst.2.2 ha

/-- A cannon that leaves AUTOMATIC (R67, R75, R89, R101). -/
theorem takeMode_leaving (m : CannonMode) (c : CannonId) (s : State) :
    takeMode .automatic m c s = { s with
      cannons := updAt s.cannons c fun k =>
        { k with state := changedState k.state m, request := none, owed := 0, holdTimer := none }
      stations := s.stations.map fun g =>
        { g with waiting := g.waiting.filter (· ≠ c), preempt := g.preempt.filter fun p => p.1 ≠ c } } := by
  simp only [takeMode, stopWaiting, dropRequest, endPreemption, State.updCannon, State.mapStations, updAt_updAt,
    Vector.map_map]
  rfl

/-- A cannon that enters AUTOMATIC (R67, R114, R177). -/
theorem takeMode_entering {was : CannonMode} (hwas : was ≠ .automatic) (c : CannonId) (s : State) :
    takeMode was .automatic c s = closeUnknown c (confirmingClose c (s.updCannon c fun k =>
      { k with state := changedState k.state .automatic, request := none, owed := 0 })) := by
  cases was with
  | automatic => exact absurd rfl hwas
  | bypass | outOfService =>
    simp only [takeMode, State.updCannon, updAt_updAt]

/-- A cannon that passes between BYPASS and OUT-OF-SERVICE (R67). -/
theorem takeMode_outside {was m : CannonMode} (hwas : was ≠ .automatic) (hm : m ≠ .automatic) (c : CannonId) (s : State) :
    takeMode was m c s = s.updCannon c fun k => { k with state := changedState k.state m } := by
  cases was with
  | automatic => exact absurd rfl hwas
  | bypass | outOfService => cases m <;> first | rfl | exact absurd rfl hm

/-- The entry of a cannon without a place is written with another mode, whose effects follow (R64, R67). -/
theorem yardKept_takeMode {c : CannonId} {e : CannonEntry} {s : State} (hlive : s.phase ≠ .loading) (hok : s.cfg.ok = true → e.ok = true)
    (hout : (s.cannon c).state.holdsPlace = false) :
    s.KeepsYard (takeMode (s.cannonEntry c).mode e.mode c
      (s.updCfg fun t => { t with cannons := updAt t.cannons c fun _ => e })) := by
  by_cases hwas : (s.cannonEntry c).mode = .automatic
  · have hstation (g : StationId) : (takeMode .automatic e.mode c (s.updCfg fun t =>
        { t with cannons := updAt t.cannons c fun _ => e })).station g = { s.station g with
          waiting := (s.station g).waiting.filter (· ≠ c), preempt := (s.station g).preempt.filter fun p => p.1 ≠ c } := by
      rw [takeMode_leaving]; exact vector_map_get _ _ _
    rw [hwas]
    refine State.Remoded.keeps (c := c) (e := e) (f := fun k =>
      { k with state := changedState k.state e.mode, request := none, owed := 0, holdTimer := none }) ?_ hlive hok hout
    refine ⟨by rw [takeMode_leaving]; rfl, by rw [takeMode_leaving]; rfl, by rw [takeMode_leaving]; rfl,
      by rw [takeMode_leaving]; rfl, fun g => by rw [hstation]; exact ⟨rfl, rfl⟩,
      fun g => by rw [hstation]; exact List.filter_sublist, fun _ => Bool.eq_false_iff.mpr fun h => ?_, rfl, ⟨rfl, rfl, rfl⟩,
      .cleared rfl rfl rfl rfl⟩
    obtain ⟨g, hg⟩ := (closeWaiting_iff _ c).mp h
    rw [hstation] at hg
    simpa using (List.mem_filter.mp hg).2
  · have hoff (h : s.Agreed) : s.closeWaiting c = false := closeWaiting_automatic h hwas
    by_cases hm : e.mode = .automatic
    · rw [hm, takeMode_entering hwas]
      refine .after (yardKept_closeUnknown c _) (.after (yardKept_confirmingClose c _) ?_)
      refine State.Remoded.keeps (c := c) (e := e) (f := fun k =>
        { k with state := changedState k.state .automatic, request := none, owed := 0 })
        ⟨rfl, rfl, rfl, rfl, fun _ => ⟨rfl, rfl⟩, fun _ => .refl _, hoff, by rw [hm], ⟨rfl, rfl, rfl⟩, .cleared rfl rfl rfl rfl⟩
        hlive hok hout
    · rw [takeMode_outside hwas hm]
      exact State.Remoded.keeps (c := c) (e := e) (f := fun k => { k with state := changedState k.state e.mode })
        ⟨rfl, rfl, rfl, rfl, fun _ => ⟨rfl, rfl⟩, fun _ => .refl _, hoff, rfl, ⟨rfl, rfl, rfl⟩, .same rfl rfl rfl rfl rfl⟩
        hlive hok hout

theorem blocksMode_of_place {x : CannonState} (h : x.blocksMode = false) : x.holdsPlace = false := by
  cases x <;> first | rfl | cases h

theorem writeMode_eq (c : CannonId) (m : CannonMode) (s : State) :
    writeMode c m s = s.updCfg fun t => { t with cannons := updAt t.cannons c fun _ => { s.cannonEntry c with mode := m } } := rfl

theorem yardKept_setMode (c : CannonId) (m : CannonMode) {s : State} (hlive : s.phase ≠ .loading) :
    s.KeepsYard (setMode c m s).1 := by
  unfold setMode
  dsimp only
  split
  · exact .refl s
  split
  · exact .refl s
  · next hfree =>
    rw [writeMode_eq]
    exact yardKept_takeMode (e := { s.cannonEntry c with mode := m }) hlive
      (fun hold => Vector.all_eq_true.mp ((tables_ok_iff _).mp hold).cannons c.val c.isLt)
      (blocksMode_of_place (by simpa using hfree))

/-! ## The station's commands (R74, R77, R115, R116, R117) -/

theorem yardKept_manualClose (c : CannonId) (s : State) : s.KeepsYard (manualClose c s) := by
  have hheld := (yardKept_dropRequest c s).trans (yardKept_holdTimer c (holdOf (s.cannonEntry c).holdTime) _)
  unfold manualClose
  dsimp only
  split
  case h_1 | h_2 => exact hheld.trans (yardKept_earlyClose c _)
  case h_3 => exact hheld.trans (yardKept_closeWithoutBurst c _)
  all_goals exact hheld

theorem yardKept_clearFaultOf (c : CannonId) (s : State) : s.KeepsYard (clearFaultOf c s).1 := by
  unfold clearFaultOf
  split
  case h_1 h => exact (yardKept_toGrounded (.inr (.inl rfl)) (.inr (.inr h))).trans (yardKept_confirmingClose c _)
  all_goals exact .refl s

/-- What the removal of a request leaves of its cannon (R75). -/
theorem dropRequest_cannon (c : CannonId) (s : State) :
    (dropRequest c s).cannon c = { s.cannon c with request := none, owed := 0 } := State.cannon_updCannon_self s c _

theorem yardKept_recordRequest (c : CannonId) (q : StationCommand) (s : State) : s.KeepsYard (recordRequest c q s) := by
  refine (yardKept_dropRequest c s).trans (yardKept_updCannon c _ _ (.ofSteady rfl rfl rfl rfl rfl ⟨fun _ _ h => h, fun _ =>
    owedFits_of_zero ?_⟩))
  rw [dropRequest_cannon]

/-- A conversion changes the burst in flight and its timer (R115). -/
theorem yardKept_convert {c : CannonId} (q : StationCommand) {b : Burst} {s : State}
    (hb : (s.cannon c).burst = some b) : s.KeepsYard (convert c q b s) := by
  unfold convert closeConverted
  dsimp only
  have hpaid (planned : Nat) : s.KeepsYard (dropRequest c (replaceCommit b.source b.planned planned s)) :=
    (yardKept_updSource _ _ s).trans (yardKept_dropRequest c _)
  have hchanged (planned : Nat) (b' : Burst) : s.KeepsYard ((dropRequest c (replaceCommit b.source b.planned planned s)).updCannon c
      fun k => { k with burst := some b', burstTimer := if k.state = .spraying then some q.duration else k.burstTimer }) := by
    refine (hpaid planned).trans (yardKept_updCannon c _ _ ?_)
    rw [dropRequest_cannon]
    refine ⟨rfl, rfl, fun m ⟨h1, _, h3, h4, h5⟩ => ⟨h1, fun _ => rfl, fun _ => h3 ?_, fun h => ?_, h5⟩, id, .cleared rfl rfl rfl rfl⟩
    · exact Option.isSome_iff_exists.mpr ⟨b, hb⟩
    · by_cases hs : (s.cannon c).state = .spraying
      · exact hs
      · exact h4 ((congrArg Option.isSome (if_neg hs)).symm.trans h)
  exact yardKept_ite (fun _ => (hchanged _ _).trans (yardKept_earlyClose c _)) fun _ => hchanged _ _

theorem yardKept_acceptOpen (c : CannonId) (q : StationCommand) (body : List Byte) (addressed : CannonId)
    (substitute : Option CannonId) (s : State) : s.KeepsYard (acceptOpen c q body addressed substitute s) := by
  unfold acceptOpen
  split
  · next _ hb => exact yardKept_ite (fun _ => yardKept_convert q hb) fun _ => yardKept_raise _ s
  · exact yardKept_ite (fun _ => (yardKept_recordRequest c q s).trans (yardKept_arbitrateFire c _)) fun _ =>
      yardKept_recordRequest c q s

/-! ## Field link loss and return (R175, R176) -/

theorem yardKept_confirmAnyOrder (s : State) : s.KeepsYard (confirmAnyOrder s) :=
  (yardKept_shuffle _ s).trans (yardKept_foldl _ (fun t c => yardKept_confirmingClose c t) _ _)

theorem yardKept_fieldUp (s : State) : s.KeepsYard (fieldUp s) := by
  have hclosed := (yardKept_confirmAnyOrder s).trans
    (yardKept_foldl (fun t c => if t.closeWaiting c then t else closeWithoutBurst c t)
      (fun t c => yardKept_ite (fun _ => .refl t) fun _ => yardKept_closeWithoutBurst c t) (confirmAnyOrder s).returning _)
  have htold := hclosed.trans (yardKept_raise (.fieldUp (confirmAnyOrder s).returning.length) _)
  exact .after (yardKept_settle _) (htold.trans (yardKept_dueCapacity _ _))

/-- A cannon that loses its place with the field link, when no command is queued (R132, R175). -/
theorem yardKept_loseCannon (c : CannonId) {s : State} (hnone : s.commands = []) :
    s.KeepsYard (loseCannon c s) ∧ (loseCannon c s).commands = [] := by
  have hlands (u : State) (hu : u.phase = s.phase ∧ u.cfg = s.cfg ∧ u.stations = s.stations ∧ u.cannons = s.cannons ∧
      u.commands = s.commands) (hplace : (s.cannon c).state.holdsPlace = true) :
      s.KeepsYard (endClosing c (leavePlace c (u.updCannon c (Cannon.landed .unknown)))) ∧
      (endClosing c (leavePlace c (u.updCannon c (Cannon.landed .unknown)))).commands = [] := by
    obtain ⟨hphase, hcfg, hstations, hcannons, hcommands⟩ := hu
    have hempty : (endClosing c (leavePlace c (u.updCannon c (Cannon.landed .unknown)))).commands = [] := hcommands.trans hnone
    refine ⟨State.Lands.keeps (lands_of_landed hphase hcfg hstations ?_) hplace (.inl rfl) ?_ fun _ => ?_, hempty⟩
    · rw [State.updCannon_cannons, hcannons]
    · rw [hempty]; exact List.nil_sublist _
    · rw [State.openQueued, hempty]; rfl
  unfold loseCannon
  split
  · next hplace =>
    dsimp only
    split <;> exact hlands _ ⟨rfl, rfl, rfl, rfl, rfl⟩ hplace
  · exact ⟨.refl s, hnone⟩

theorem yardKept_loseEach (cs : List CannonId) {s : State} (hnone : s.commands = []) :
    s.KeepsYard (cs.foldl (fun t c => loseCannon c t) s) := by
  induction cs generalizing s with
  | nil => exact .refl s
  | cons c cs ih =>
    obtain ⟨hkept, hstill⟩ := yardKept_loseCannon c hnone
    exact hkept.trans (ih hstill)

/-- The state with its command queue emptied (R175). -/
def State.silenced (s : State) : State := { s with commands := [] }

theorem silenced_loseCannon (c : CannonId) (s : State) : (loseCannon c s).silenced = loseCannon c s.silenced := by
  have hcannon : s.silenced.cannon c = s.cannon c := rfl
  unfold loseCannon
  rw [hcannon]
  split
  · dsimp only
    cases (s.cannon c).burst <;> rfl
  · rfl

/-- The loss of the places does not read the queue (R175). -/
theorem silenced_loseEach (cs : List CannonId) (s : State) :
    (cs.foldl (fun t c => loseCannon c t) s).silenced = cs.foldl (fun t c => loseCannon c t) s.silenced := by
  induction cs generalizing s with
  | nil => rfl
  | cons c cs ih => rw [List.foldl_cons, ih, silenced_loseCannon, List.foldl_cons]

theorem yardKept_fieldDown (s : State) : s.KeepsYard (fieldDown s) := by
  have hemptied : s.KeepsYard s.silenced :=
    ⟨.ofCannons rfl fun _ => .refl _, id, fun ha => ⟨ha, id, fun hq => commandsHeld_of_kept hq id (List.nil_sublist _)
      (fun _ _ h1 h2 => ⟨h1, h2⟩) fun _ h => h⟩⟩
  refine .after (yardKept_raise _ _) ?_
  have hlost : { eachCannon loseCannon s with commands := [] } = eachCannon loseCannon s.silenced := silenced_loseEach _ s
  rw [hlost]
  exact hemptied.trans (yardKept_loseEach _ rfl)

end Sys2Proof.Machine
end

section
namespace Sys2Proof.Machine

/-! ## Sampled records, machines and targets (R8, R69, R139) -/

/-- A target derived again resets the aim where the pattern is new, and clears what the cannon owes where its request goes
(R70, R71, R78). -/
theorem yardKept_retarget (c : CannonId) (s : State) : s.KeepsYard (retarget c s) := by
  refine yardKept_updCannon c _ s ?_
  have haimed (t : Target) : (s.cannon c).Steady
      (if t.pattern ≠ (s.cannon c).target.pattern then { s.cannon c with target := t, column := 0, row := 0 }
        else { s.cannon c with target := t }) := by
    split
    · exact ⟨fun _ hps _ => hps _, id⟩
    · next h => exact ⟨fun _ _ hk => by simpa only [Cannon.AimFits, not_not.mp h] using hk, id⟩
  have hkept (t : Target) : (s.cannon c).Stays
      (if t.pattern ≠ (s.cannon c).target.pattern then { s.cannon c with target := t, column := 0, row := 0 }
        else { s.cannon c with target := t }) := by
    refine .ofSteady ?_ ?_ ?_ ?_ ?_ (haimed t) <;> split <;> rfl
  dsimp only
  split
  · refine .ofSteady (hkept _).state (hkept _).station ?_ ?_ ?_ ((haimed _).trans (.cleared rfl rfl rfl rfl)) <;>
      (dsimp only; split <;> rfl)
  · exact hkept _

theorem yardKept_deriveAgain (cs : List CannonId) (s : State) : s.KeepsYard (deriveAgain cs s) :=
  (yardKept_foldl _ (fun t c => yardKept_retarget c t) cs s).trans (yardKept_closeAnyOrder _ _)

theorem yardKept_deriveQuality (w : SourceId) (s : State) : s.KeepsYard (deriveQuality w s) :=
  yardKept_ite (fun _ => .refl s) fun _ => .books rfl rfl rfl rfl rfl

theorem yardKept_levelEvent (w : SourceId) (v : Nat) (s : State) : s.KeepsYard (levelEvent w v s) := by
  have htold : s.KeepsYard (s.updSource w fun x => { x with estimate := some (v * 1000) }) := yardKept_updSource _ _ s
  unfold levelEvent
  dsimp only
  split
  · split
    · exact (htold.trans (yardKept_closeAnyOrder _ _)).trans (yardKept_raise _ _)
    · exact htold.trans (yardKept_closeAnyOrder _ _)
  · exact htold

theorem yardKept_directionSample (m : MastId) (d : Nat) (s : State) : s.KeepsYard (directionSample m d s) :=
  yardKept_ite (fun _ => .books rfl rfl rfl rfl rfl) fun _ =>
    .after (yardKept_deriveAgain _ _) (.books rfl rfl rfl rfl rfl)

theorem yardKept_applyRecord (role : NodeRole) (r : SampleRecord) (s : State) : s.KeepsYard (applyRecord role r s) := by
  unfold applyRecord
  split
  case h_1 => exact .after (yardKept_deriveAgain _ _) (.books rfl rfl rfl rfl rfl)
  case h_2 => exact yardKept_ite (fun _ => yardKept_directionSample _ _ s) fun _ => .refl s
  case h_3 | h_4 => exact .books rfl rfl rfl rfl rfl
  case h_5 => exact yardKept_levelEvent _ _ s
  case h_6 | h_7 => exact .after (yardKept_deriveQuality _ _) (.books rfl rfl rfl rfl rfl)
  case h_8 => exact .refl s

theorem yardKept_applyRecords (role : NodeRole) (rs : List SampleRecord) (s : State) : s.KeepsYard (applyRecords role rs s) :=
  yardKept_foldl _ (fun t r => yardKept_ite (fun _ => (yardKept_applyRecord role r t).trans (yardKept_settle _)) fun _ => .refl t)
    rs s

theorem yardKept_exclusionAfter (was : Bool) (z : ZoneId) (s : State) : s.KeepsYard (exclusionAfter was z s) :=
  yardKept_ite (fun _ => yardKept_closeEach _ s) fun _ => .refl s

theorem yardKept_uncount (m : MachineId) (s : State) : s.KeepsYard (uncount m s) := by
  unfold uncount
  split
  · exact .refl s
  · exact .books rfl rfl rfl rfl rfl
  · exact .refl s

theorem yardKept_machineFrame (m : MachineId) (kind : MachineKind) (activity : Activity) (zone : Option ZoneId) (s : State) :
    s.KeepsYard (machineFrame m kind activity zone s) := by
  cases zone with
  | none => exact (yardKept_uncount m s).trans (.books rfl rfl rfl rfl rfl)
  | some z =>
    exact .after (yardKept_exclusionAfter _ z _) (.after (t := uncount m s) (.books rfl rfl rfl rfl rfl) (yardKept_uncount m s))

theorem yardKept_clearMachineOf (m : MachineId) (s : State) : s.KeepsYard (clearMachineOf m s) :=
  yardKept_ite (fun _ => .refl s) fun _ => (yardKept_uncount m s).trans (.books rfl rfl rfl rfl rfl)

theorem isSome_tick (t : Option Nat) : (tick t).isSome = t.isSome := by
  cases t <;> rfl

/-- A second counts and runs timers (R24, R103). -/
theorem yardKept_secondEvent (s : State) : s.KeepsYard (secondEvent s) := by
  rw [secondEvent_eq]
  refine .quiet rfl rfl (fun c => ?_) (fun g => ?_) rfl
  · have hc : (s.cannons.map fun k => k.tickTimers.countOpen)[c] = (s.cannon c).tickTimers.countOpen := vector_map_get _ _ _
    refine (congrArg (Cannon.Stays (s.cannon c)) hc).mpr (.ofSame rfl rfl ?_ ?_ ?_ (.same rfl rfl rfl rfl rfl))
    · exact Option.isSome_map
    · exact (isSome_tick _).le
    · exact (isSome_tick _).le
  · have hg : (s.stations.map fun g => { g with slotTimer := tick g.slotTimer, pumpTimer := tick g.pumpTimer })[g] =
        { s.station g with slotTimer := tick (s.station g).slotTimer, pumpTimer := tick (s.station g).pumpTimer } :=
      vector_map_get _ _ _
    exact (congrArg (Station.SamePlaces (s.station g)) hg).mpr ⟨rfl, rfl, rfl⟩

/-! ## Commands admitted (R164 to R168) -/

theorem yardKept_automaticCommand (c : CannonId) (body : List Byte) (addressed : CannonId) (substitute : Option CannonId)
    (s : State) : s.KeepsYard (automaticCommand c body addressed substitute s) := by
  unfold automaticCommand
  split
  · exact yardKept_raise _ s
  · split
    · exact yardKept_manualClose c s
    · exact yardKept_ite (fun _ => yardKept_raise _ s) fun _ => yardKept_ite (fun _ => yardKept_raise _ s) fun _ =>
        yardKept_ite (fun _ => yardKept_raise _ s) fun _ => yardKept_acceptOpen c _ body addressed substitute s

theorem yardKept_substitutedCommand (c : CannonId) (f : Frame) (s : State) : s.KeepsYard (substitutedCommand c f s) := by
  unfold substitutedCommand
  dsimp only
  split
  · exact yardKept_raise _ s
  · split
    · exact yardKept_raise _ s
    · exact yardKept_ite (fun _ => yardKept_automaticCommand _ _ c _ s) fun _ => yardKept_raise _ s
    · split
      · exact yardKept_updPort _ _ s
      · exact yardKept_raise _ s

theorem yardKept_admission (c : CannonId) (f : Frame) (s : State) : s.KeepsYard (admission c f s) := by
  unfold admission
  split
  · exact yardKept_raise _ s
  · split
    · exact yardKept_updPort _ _ s
    · exact yardKept_automaticCommand c _ c none s
    · exact yardKept_substitutedCommand c f s

/-! ## Completed frames (R151 to R160) -/

theorem yardKept_frameError (p : Port) (k : FlagKind) (s : State) : s.KeepsYard (frameError p k s) :=
  yardKept_ite (fun _ => .refl s) fun _ =>
    yardKept_ite (fun _ => yardKept_updPort p _ s) fun _ => (yardKept_updPort p _ s).trans (yardKept_raise _ _)

theorem yardKept_linkAlive (p : Port) (s : State) : s.KeepsYard (linkAlive p s) := by
  have halive := yardKept_updPort p (fun x => { x with up := true, liveness := some s.settings.linkTimeout }) s
  unfold linkAlive
  dsimp only
  split
  · exact halive.trans (yardKept_fieldUp _)
  · exact halive
  · exact halive

theorem yardKept_linkExpiry (p : Port) (s : State) : s.KeepsYard (linkExpiry p s) := by
  cases p with
  | field => exact (yardKept_updPort .field _ s).trans (yardKept_fieldDown _)
  | control => exact .books rfl rfl rfl rfl rfl

theorem yardKept_snoop (p : Port) (f : Frame) (s : State) : s.KeepsYard (snoop p f s) := by
  cases p with
  | control =>
    obtain h | ⟨day, second, -, -, h⟩ := snoop_control_cases f s <;> rw [h]
    · exact .refl s
    · rw [timeFrame_eq]; exact .books rfl rfl rfl rfl rfl
  | field =>
    unfold snoop
    dsimp only
    split
    · exact yardKept_ite (fun _ => yardKept_applyRecords _ _ s) fun _ => .refl s
    split
    · split
      · split
        · exact (yardKept_valveStatus _ _ _ s).trans (yardKept_settle _)
        · exact .refl s
      · split
        · exact (yardKept_pumpStatus _ _ _ s).trans (yardKept_settle _)
        · exact .refl s
      · exact .refl s
    split
    · split
      · exact (yardKept_machineFrame _ _ _ _ s).trans (yardKept_settle _)
      · exact .refl s
    · exact .refl s

theorem yardKept_ownFrame (p : Port) (f : Frame) (s : State) : s.KeepsYard (ownFrame p f s) :=
  yardKept_ite (fun _ => yardKept_ite (fun _ => .books rfl rfl rfl rfl rfl) fun _ => yardKept_frameError _ _ s) fun _ => .refl s

theorem yardKept_passOn (p : Port) (f : Frame) (s : State) : s.KeepsYard (passOn p f s) := by
  unfold passOn
  split
  · exact yardKept_admission _ f s
  · exact yardKept_updPort _ _ s

theorem yardKept_completeFrame (p : Port) (f : Frame) (s : State) : s.KeepsYard (completeFrame p f s) := by
  unfold completeFrame
  split
  · exact yardKept_frameError p _ s
  · have halive := yardKept_linkAlive p s
    exact yardKept_ite (fun _ => halive.trans (yardKept_ownFrame p f _)) fun _ =>
      yardKept_ite (fun _ => halive.trans (yardKept_frameError p _ _)) fun _ =>
        (halive.trans (yardKept_snoop p f _)).trans (yardKept_passOn p f _)

/-! ## Evaluations (R42 to R58) -/

theorem yardKept_rebandAll {zs : List ZoneId} (hzs : zs.Nodup) (s : State) : s.KeepsYard (rebandAll zs s) := by
  obtain ⟨zones, mode, last, notices, cs, n, hstate⟩ := (rebandAll_rebandedAll zs hzs s).state
  rw [hstate]
  exact .books rfl rfl rfl rfl rfl

/-- A posting leaves what a cannon that held an AUTO request owes (R56, R73). -/
theorem stays_posted (k : Cannon) (p : Nat) (z : ZoneId) : k.Stays (k.posted p z) := by
  unfold Cannon.posted
  split
  · exact .ofSteady rfl rfl rfl rfl rfl ⟨fun _ _ h => h, fun _ => owedFits_of_zero rfl⟩
  · exact .ofSteady rfl rfl rfl rfl rfl ⟨fun _ _ h => h, fun h => ⟨h.1, fun hn => absurd hn (by simp [Cannon.holds, CannonRequest.cls])⟩⟩
  · exact .refl k
  · exact .refl k

theorem yardKept_withdraw (z : ZoneId) (s : State) : s.KeepsYard (withdraw z s) := by
  refine yardKept_foldl _ (fun t c => yardKept_updCannon c _ t ?_) _ s
  split
  · exact .ofSteady rfl rfl rfl rfl rfl (.cleared rfl rfl rfl rfl)
  · exact .refl _

theorem yardKept_postOrWithdraw (z : ZoneId) (s : State) : s.KeepsYard (postOrWithdraw z s) := by
  unfold postOrWithdraw
  split
  · exact .refl s
  split
  · exact yardKept_foldl _ (fun t c => yardKept_ite (fun _ => yardKept_updCannon c _ t (stays_posted _ _ _)) fun _ => .refl t) _ s
  · exact yardKept_withdraw z s

theorem yardKept_evaluate (z : ZoneId) (t : Nat) (s : State) : s.KeepsYard (evaluate z t s) := by
  have hdried := yardKept_updZone z (fun x => x.evaporate s.evapRate t) s
  unfold evaluate
  dsimp only
  split
  · have hmarked := hdried.trans (yardKept_updZone z (fun x => { x with blind := true, forecastOnly := false }) _)
    exact yardKept_ite (fun _ => hmarked) fun _ => hmarked.trans (yardKept_raise _ _)
  · have hseen := yardKept_ite (p := ((s.updZone z fun x => x.evaporate s.evapRate t).zone z).blind = true)
      (fun _ => hdried.trans (yardKept_raise (.zoneBlind z false) _)) fun _ => hdried
    exact .after (yardKept_postOrWithdraw z _) (.after (yardKept_rebandAll (List.nodup_singleton z) _)
      (.after (yardKept_updZone z _ _) hseen))

theorem yardKept_evaluationExpiry (z : ZoneId) (s : State) : s.KeepsYard (evaluationExpiry z s) := by
  unfold evaluationExpiry
  split
  · exact .refl s
  · have hrestarted := yardKept_updZone z
      (fun x => { x with timer := some { remaining := s.settings.evalPeriod, period := s.settings.evalPeriod } }) s
    exact yardKept_ite (fun _ => hrestarted) fun _ => hrestarted.trans (yardKept_evaluate z _ _)

end Sys2Proof.Machine
end

section
namespace Sys2Proof.Machine

/-! ## Written entries (R184) -/

/-- A written configuration that gives each cannon its mode, and its flow while it holds a place, and that leaves the in-use
figures within the limits. -/
theorem placesKept_updCfg (f : Tables → Tables) {s : State} (hmode : ∀ c, ((s.updCfg f).cannonEntry c).mode = (s.cannonEntry c).mode)
    (hflow : ∀ c, (s.cannon c).state.holdsPlace = true → ((s.updCfg f).cannonEntry c).flow = (s.cannonEntry c).flow)
    (hlimits : ∀ g, (s.station g).inUse ≤ (s.stationEntry g).limit → (s.station g).inUseFlow ≤ (s.stationEntry g).maxFlow →
      (s.station g).inUse ≤ ((s.updCfg f).stationEntry g).limit ∧ (s.station g).inUseFlow ≤ ((s.updCfg f).stationEntry g).maxFlow)
    (ha : s.Agreed) : s.KeepsPlaces (s.updCfg f) := by
  refine ⟨⟨fun c => ?_, ha.2⟩, fun hp => placesHeld_of_same hp (fun _ => rfl) (fun c hc => ⟨rfl, hflow c hc⟩)
    (fun _ => ⟨rfl, rfl⟩) hlimits, id⟩
  rw [hmode]
  exact ha.1 c

/-- The same, with the configuration in range and the patterns as they were. -/
theorem yardKept_updCfg (f : Tables → Tables) {s : State} (hok : s.cfg.InRange → (f s.cfg).InRange)
    (hpatterns : (f s.cfg).patterns = s.cfg.patterns) (hmode : ∀ c, ((s.updCfg f).cannonEntry c).mode = (s.cannonEntry c).mode)
    (hflow : ∀ c, (s.cannon c).state.holdsPlace = true → ((s.updCfg f).cannonEntry c).flow = (s.cannonEntry c).flow)
    (hlimits : ∀ g, (s.station g).inUse ≤ (s.stationEntry g).limit → (s.station g).inUseFlow ≤ (s.stationEntry g).maxFlow →
      (s.station g).inUse ≤ ((s.updCfg f).stationEntry g).limit ∧
      (s.station g).inUseFlow ≤ ((s.updCfg f).stationEntry g).maxFlow) : s.KeepsYard (s.updCfg f) :=
  ⟨.written (fun h => (tables_ok_iff _).mpr (hok ((tables_ok_iff _).mp h))) hpatterns fun _ => .refl _, id,
    placesKept_updCfg f hmode hflow hlimits⟩

/-- A written table other than those of cannons, patterns and stations. -/
theorem yardKept_otherTable (f : Tables → Tables) {s : State} (hok : s.cfg.InRange → (f s.cfg).InRange)
    (hpatterns : (f s.cfg).patterns = s.cfg.patterns) (hcannons : (f s.cfg).cannons = s.cfg.cannons)
    (hstations : (f s.cfg).stations = s.cfg.stations) : s.KeepsYard (s.updCfg f) := by
  have hentry (c : CannonId) : (s.updCfg f).cannonEntry c = s.cannonEntry c := congrArg (fun v : Vector CannonEntry 48 => v[c]) hcannons
  have hlimits (g : StationId) : (s.updCfg f).stationEntry g = s.stationEntry g :=
    congrArg (fun v : Vector StationEntry 4 => v[g]) hstations
  exact yardKept_updCfg f hok hpatterns (fun c => by rw [hentry]) (fun c _ => by rw [hentry]) fun g h1 h2 => by
    rw [hlimits]; exact ⟨h1, h2⟩

theorem yardKept_newlyWired (r : NodeRole) (s : State) : s.KeepsYard (newlyWired r s) := by
  cases r
  case valve c => exact (yardKept_confirmingClose c s).trans (yardKept_closeUnknown c _)
  all_goals exact .refl s

theorem yardKept_rederive (old new : NodeRole) (s : State) : s.KeepsYard (rederive old new s) :=
  (yardKept_shuffle _ s).trans (yardKept_foldl _ (fun t w => yardKept_deriveQuality w t) _ _)

theorem yardKept_writeNode (i : Fin 239) (l : List Byte) (s t : State) (h : writeNode i l s = .ok t) : s.KeepsYard t := by
  unfold writeNode at h
  dsimp only at h
  split at h
  · cases h
  rename_i r _
  split at h
  · cases h; exact .refl s
  split at h
  · cases h
  rename_i hfree
  split at h
  · cases h
  · cases h
    have hstored := yardKept_otherTable (s := s) (fun t => { t with nodeMap := updAt t.nodeMap i fun _ => r })
      (fun hold => hold.withNodes (nodeMapUnique_updAt _ i r hold.nodes fun hr hmem =>
        hfree ⟨hr, by simpa only [State.mapped, decide_eq_true_iff] using hmem⟩)) rfl rfl rfl
    exact .after (yardKept_newlyWired r _) (.after (yardKept_rederive _ r _) hstored)

theorem yardKept_disableZone (z : ZoneId) (s : State) : s.KeepsYard (disableZone z s) := by
  have hcleared := (yardKept_withdraw z s).trans (yardKept_updZone z (fun x =>
    { x with timer := none, blind := false, forecastOnly := false, uplift := false, risk := 0, band := .calm }) _)
  exact yardKept_ite (fun _ => hcleared) fun _ => hcleared.trans (yardKept_raise _ _)

theorem yardKept_enabledEffect (z : ZoneId) (was is : Bool) (s : State) : s.KeepsYard (enabledEffect z was is s) := by
  unfold enabledEffect
  split
  · exact yardKept_updZone z _ s
  · exact yardKept_disableZone z s
  · exact .refl s
  · exact .refl s

theorem yardKept_writeZoneEntry (z : ZoneId) (l : List Byte) (s t : State) (h : writeZoneEntry z l s = .ok t) : s.KeepsYard t := by
  unfold writeZoneEntry at h
  split at h
  · cases h
  rename_i e hread
  dsimp only at h
  split at h
  · cases h; exact .refl s
  cases h
  have hswitched := (yardKept_otherTable (s := s) (fun t => { t with zones := updAt t.zones z fun _ => e })
    (fun hold => hold.withZone z (zoneEntry_ok_of_read hread)) rfl rfl rfl).trans
    (yardKept_enabledEffect z (s.zoneEntry z).enabled e.enabled _)
  exact .after (yardKept_exclusionAfter _ z _) (yardKept_ite (fun _ => hswitched) fun _ =>
    hswitched.trans (yardKept_rebandAll (List.nodup_singleton z) _))

theorem yardKept_writeProfileEntry (p : ProfileId) (l : List Byte) (s t : State) (h : writeProfileEntry p l s = .ok t) :
    s.KeepsYard t := by
  unfold writeProfileEntry at h
  split at h
  · cases h
  rename_i e hread
  cases h
  exact .after (yardKept_rebandAll (zonesUsing_nodup _ p) _) (yardKept_otherTable _
    (fun hold => hold.withProfile p (profile_ok_of_read hread)) rfl rfl rfl)

/-- A cannon entry whose mode stays is written while its cannon holds no place (R64). -/
theorem yardKept_cannonTable {c : CannonId} {e : CannonEntry} {s : State} (hok : s.cfg.ok = true → e.ok = true)
    (hmode : e.mode = (s.cannonEntry c).mode) (hout : ¬ (s.cannon c).state.holdsPlace = true) :
    s.KeepsYard (s.updCfg fun t => { t with cannons := updAt t.cannons c fun _ => e }) := by
  have hself : (updAt s.cfg.cannons c fun _ => e)[c] = e := updAt_get_self _ _ _
  have hne (d : CannonId) (hd : d ≠ c) : (updAt s.cfg.cannons c fun _ => e)[d] = s.cannonEntry d := updAt_get_ne _ _ _ _ hd
  refine yardKept_updCfg _ (fun hold => hold.withCannon c (hok ((tables_ok_iff _).mpr hold))) rfl (fun d => ?_) (fun d hd => ?_)
    fun _ h1 h2 => ⟨h1, h2⟩
  · by_cases hdc : d = c
    · subst hdc; exact (congrArg CannonEntry.mode hself).trans hmode
    · exact congrArg CannonEntry.mode (hne d hdc)
  · have hdc : d ≠ c := by rintro rfl; exact hout hd
    exact congrArg CannonEntry.flow (hne d hdc)

theorem yardKept_writeCannonEntry (c : CannonId) (l : List Byte) (s t : State) (hlive : s.phase ≠ .loading)
    (h : writeCannonEntry c l s = .ok t) : s.KeepsYard t := by
  unfold writeCannonEntry at h
  split at h
  · cases h
  rename_i e hread
  have hok := cannonEntry_ok_of_read hread
  dsimp only at h
  split at h
  · cases h; exact .refl s
  split at h
  · cases h
  rename_i hout
  split at h
  · cases h
  cases h
  have hchanged := yardKept_ite (p := e.mode = (s.cannonEntry c).mode)
    (fun hm => yardKept_cannonTable (fun _ => hok) hm hout)
    fun _ => yardKept_takeMode hlive (fun _ => hok) (Bool.eq_false_iff.mpr hout)
  exact yardKept_ite (fun _ => hchanged) fun _ => hchanged.trans (yardKept_deriveAgain [c] _)

theorem yardKept_writeCoverageEntry (i : Fin 768) (l : List Byte) (s t : State) (h : writeCoverageEntry i l s = .ok t) :
    s.KeepsYard t := by
  unfold writeCoverageEntry at h
  split at h
  · cases h
  rename_i e hread
  cases h
  exact .after (yardKept_deriveAgain _ _)
    (yardKept_otherTable _ (fun hold => hold.withCoverage i (coverage_ok_of_read hread)) rfl rfl rfl)

/-- One change of every cannon under which each keeps its place. -/
theorem yardKept_mapCannons (f : Cannon → Cannon) (s : State) (h : ∀ k : Cannon, k.Stays (f k)) :
    s.KeepsYard { s with cannons := s.cannons.map f } := by
  refine .quiet rfl rfl (fun c => ?_) (fun _ => ⟨rfl, rfl, rfl⟩) rfl
  have hc : (s.cannons.map f)[c] = f (s.cannon c) := vector_map_get _ _ _
  exact (congrArg (Cannon.Stays (s.cannon c)) hc).mpr (h _)

/-- A sweep aim at column 0 and row 0 lies within every pattern (R78, R81). -/
theorem stays_aimReset (k : Cannon) (p : PatternId) : k.Stays (k.aimReset p) := by
  unfold Cannon.aimReset
  split
  · exact .ofSteady rfl rfl rfl rfl rfl ⟨fun _ hps _ => hps _, id⟩
  · exact .refl k

theorem yardKept_writePatternEntry (p : PatternId) (l : List Byte) (s t : State) (h : writePatternEntry p l s = .ok t) :
    s.KeepsYard t := by
  unfold writePatternEntry at h
  split at h
  · cases h
  rename_i e hread
  cases h
  have hcannon (c : CannonId) : (s.cannons.map fun k => k.aimReset p)[c] = (s.cannon c).aimReset p := vector_map_get _ _ _
  refine ⟨⟨fun hok ha => ?_, fun ho c => ?_⟩, id, fun ha => ?_⟩
  · have hwritten : { s.cfg with patterns := updAt s.cfg.patterns p fun _ => e }.ok = true :=
      (tables_ok_iff _).mpr (((tables_ok_iff _).mp hok).withPattern p (pattern_ok_of_read hread))
    refine ⟨hwritten, (aimsFit_iff _).mpr fun c => (congrArg (Cannon.AimFits · _) (hcannon c)).mpr ?_⟩
    by_cases hp : (s.cannon c).target.pattern = p
    · rw [Cannon.aimReset, if_pos hp]
      exact patternsSized_of_ok hwritten _
    · have hsame : (updAt s.cfg.patterns p fun _ => e)[(s.cannon c).target.pattern] = s.cfg.patterns[(s.cannon c).target.pattern] :=
        updAt_get_ne _ _ _ _ hp
      rw [Cannon.aimReset, if_neg hp]
      have hold := (aimsFit_iff s).mp ha c
      unfold Cannon.AimFits at hold ⊢
      exact hsame ▸ hold
  · exact (congrArg Cannon.OwedFits (hcannon c)).mpr ((stays_aimReset _ p).steady.owed (ho c))
  · have hstored := placesKept_updCfg (fun t => { t with patterns := updAt t.patterns p fun _ => e }) (s := s) (fun _ => rfl)
      (fun _ _ => rfl) (fun _ h1 h2 => ⟨h1, h2⟩) ha
    exact hstored.trans ((yardKept_mapCannons _ _ fun k => stays_aimReset k p).held hstored.agreed)

theorem yardKept_writeStationEntry (g : StationId) (l : List Byte) (s t : State) (h : writeStationEntry g l s = .ok t) :
    s.KeepsYard t := by
  unfold writeStationEntry at h
  split at h
  · cases h
  rename_i e hread
  dsimp only at h
  split at h
  · cases h; exact .refl s
  split at h
  · cases h
  rename_i hroom
  cases h
  have hstored : s.KeepsYard (s.updCfg fun t => { t with stations := updAt t.stations g fun _ => e }) := by
    refine yardKept_updCfg _ (fun hold => hold.withStation g (stationEntry_ok_of_read hread)) rfl (fun _ => rfl)
      (fun _ _ => rfl) fun h h1 h2 => ?_
    by_cases hg : h = g
    · subst hg
      have hself : (updAt s.cfg.stations h fun _ => e)[h] = e := updAt_get_self _ _ _
      rw [State.stationEntry, State.updCfg, hself]
      omega
    · have hne : (updAt s.cfg.stations g fun _ => e)[h] = s.stationEntry h := updAt_get_ne _ _ _ _ hg
      rw [State.stationEntry, State.updCfg, hne]
      exact ⟨h1, h2⟩
  exact yardKept_ite (fun _ => hstored.trans (yardKept_capacityDue g _)) fun _ => hstored

theorem yardKept_writeSourceEntry (w : SourceId) (l : List Byte) (s t : State) (h : writeSourceEntry w l s = .ok t) :
    s.KeepsYard t := by
  unfold writeSourceEntry at h
  split at h
  · cases h
  rename_i e hread
  cases h
  exact yardKept_otherTable _ (fun hold => hold.withSource w (sourceEntry_ok_of_read hread)) rfl rfl rfl

theorem yardKept_writeWindowEntry (i : Fin 2) (l : List Byte) (s t : State) (h : writeWindowEntry i l s = .ok t) :
    s.KeepsYard t := by
  unfold writeWindowEntry at h
  split at h
  · cases h
  cases h
  refine yardKept_otherTable _ (fun hold => ?_) rfl rfl rfl
  exact ⟨hold.nodes, hold.zones, hold.profiles, hold.cannons, hold.coverage, hold.patterns, hold.stations, hold.sources,
    hold.settings⟩

theorem yardKept_writeSettingsEntry (i : Fin 1) (l : List Byte) (s t : State) (h : writeSettingsEntry i l s = .ok t) :
    s.KeepsYard t := by
  unfold writeSettingsEntry at h
  split at h
  · cases h
  rename_i e hread
  cases h
  exact yardKept_otherTable _ (fun hold => hold.withSettings (settings_ok_of_read hread)) rfl rfl rfl

/-- Every entry of the table that is written outside a store load keeps the laws. -/
abbrev EntryKeepsYard (one : Nat → List Byte → State → Taken) : Prop :=
  ∀ e l s t, s.phase ≠ .loading → one e l s = .ok t → s.KeepsYard t

theorem entryKeepsYard_atEntry {n : Nat} (f : Fin n → List Byte → State → Taken)
    (hf : ∀ i l s t, s.phase ≠ .loading → f i l s = .ok t → s.KeepsYard t) :
    EntryKeepsYard fun e l s => atEntry e fun i => f i l s := by
  intro e l s t hlive h
  dsimp only [atEntry] at h
  split at h
  · exact hf _ l s t hlive h
  · cases h

theorem entryKeepsYard_writeNodeAt : EntryKeepsYard writeNodeAt := by
  intro e l s t hlive h
  unfold writeNodeAt at h
  split at h
  · cases h
  · exact entryKeepsYard_atEntry writeNode (fun i l s t _ => yardKept_writeNode i l s t) _ l s t hlive h

theorem yardKept_writeWork (table : Nat) (one : Nat → List Byte → State → Taken) (hone : EntryKeepsYard one)
    (body : List Byte) {s : State} (hlive : s.phase ≠ .loading) : s.KeepsYard (writeWork table one body s).1 := by
  have hloop : ∀ size n e bytes done, s.KeepsYard (writeLoop size one n e bytes done s).state :=
    fun size n e bytes done => writeLoop_induction (fun t => s.KeepsYard t) size one
      (fun e l u t hu ht => (hu.trans (hone e l u t (hu.live hlive) ht)).trans (yardKept_settle t)) n e bytes done s (.refl s)
  unfold writeWork
  dsimp only
  split
  · exact .refl s
  split
  · exact .refl s
  split
  · exact .refl s
  · split <;> exact hloop _ _ _ _ _

end Sys2Proof.Machine
end

section
namespace Sys2Proof.Machine

/-! ## Dispatch modes (R171 to R174) -/

theorem yardKept_enterMode (m : DispatchMode) (s : State) : s.KeepsYard (enterMode m s) := .books rfl rfl rfl rfl rfl

theorem yardKept_startDispatch (s : State) : s.KeepsYard (startDispatch s) :=
  (yardKept_enterMode .run s).trans (yardKept_foldl _ (fun t c => yardKept_closeWithoutBurst c t) _ _)

theorem yardKept_quietDispatch (m : DispatchMode) (s : State) : s.KeepsYard (quietDispatch m s) :=
  (yardKept_enterMode m s).trans (yardKept_closeEach _ _)

theorem yardKept_stopDispatch (s : State) : s.KeepsYard (stopDispatch s) := by
  have hcleared : s.KeepsYard (clearRequests s) :=
    (yardKept_mapCannons (fun k => { k with request := none, owed := 0 }) s fun _ =>
      .ofSteady rfl rfl rfl rfl rfl (.cleared rfl rfl rfl rfl)).trans
      (yardKept_mapStations (fun g => { g with preempt := [] }) _ fun _ => ⟨rfl, rfl, rfl⟩)
  exact .after (yardKept_enterMode .off _) (hcleared.trans (yardKept_closeEach _ _))

/-! ## Resets (R65, R66, R85, R186, R187) -/

/-- Every cannon is as after a reset, in the state of its mode, and every station's list and figures are empty (R65, R66, R85). -/
structure State.Bare (t : State) : Prop where
  cannon : ∀ c, ∃ g target, t.cannon c = Cannon.initial (t.cannonEntry c).mode.resetState g target
  station : ∀ g, (t.station g).inUse = 0 ∧ (t.station g).inUseFlow = 0 ∧ (t.station g).waiting = []

/-- Such a state keeps the laws of cannons and places. -/
theorem State.Bare.held {t : State} (h : t.Bare) : t.Agreed ∧ t.PlacesHeld := by
  have hground (c : CannonId) : (t.cannon c).state.holdsPlace = false := by
    obtain ⟨g, target, hc⟩ := h.cannon c
    rw [hc]; cases (t.cannonEntry c).mode <;> rfl
  refine ⟨⟨fun c => (agrees_of_grounded (hground c)).mpr ?_, fun g => ?_⟩, (placesHeld_iff t).mpr fun g => ?_⟩
  · obtain ⟨g, target, hc⟩ := h.cannon c
    rw [hc]
    refine ⟨?_, rfl, rfl, rfl⟩
    cases (t.cannonEntry c).mode <;> rfl
  · rw [(h.station g).2.2]
    exact ⟨List.nodup_nil, fun _ hc => absurd hc List.not_mem_nil⟩
  · obtain ⟨hcount, hflow, -⟩ := h.station g
    have hnone (w : CannonId → Nat) : t.placedWeight g w = 0 :=
      Finset.sum_eq_zero fun c _ => if_neg fun hc => by rw [hground] at hc; cases hc.2
    rw [hcount, hflow, hnone, hnone]
    exact ⟨rfl, rfl, Nat.zero_le _, Nat.zero_le _⟩

theorem State.Bare.steady {s t : State} (h : t.Bare) (hok : s.cfg.ok = true → t.cfg.ok = true) : s.Steady t := by
  refine ⟨fun hs _ => ⟨hok hs, (aimsFit_iff t).mpr fun c => ?_⟩, fun _ c => ?_⟩
  · obtain ⟨g, target, hc⟩ := h.cannon c
    rw [hc]
    exact patternsSized_of_ok (hok hs) _
  · obtain ⟨g, target, hc⟩ := h.cannon c
    rw [hc]
    exact owedFits_of_zero rfl

/-- The records that the start of the blocks leaves (R186, R187). -/
theorem startBlocks_frame (s : State) :
    (startBlocks s).cfg = s.cfg ∧ (startBlocks s).phase = s.phase ∧ (startBlocks s).commands = s.commands := by
  unfold startBlocks
  exact ⟨rfl, rfl, rfl⟩

theorem bare_startBlocks (s : State) : (startBlocks s).Bare where
  cannon c := by
    have hentry : (startBlocks s).cannonEntry c = s.cannonEntry c :=
      congrArg (fun f : Tables => f.cannons[c]) (startBlocks_frame s).1
    exact ⟨_, _, by rw [startBlocks_cannon, hentry]⟩
  station g := by rw [startBlocks_station]; exact ⟨rfl, rfl, rfl⟩

/-- The blocks start outside a store load, with the queue empty. -/
theorem yardKept_startBlocks {s t : State} (hok : s.cfg.ok = true → t.cfg.ok = true)
    (hlive : t.phase ≠ .loading) (hcommands : s.CommandsHeld → t.commands = []) : s.KeepsYard (startBlocks t) := by
  obtain ⟨hcfg, hphase, hqueue⟩ := startBlocks_frame t
  have hbare := bare_startBlocks t
  generalize startBlocks t = u at hcfg hphase hqueue hbare ⊢
  rw [← hphase] at hlive
  refine ⟨hbare.steady fun h => by rw [hcfg]; exact hok h, fun _ => hlive, fun _ => ⟨hbare.held.1, fun _ => hbare.held.2,
    fun hq => ?_⟩⟩
  have hnone : u.commands = [] := hqueue.trans (hcommands hq)
  refine ⟨by rw [hnone]; exact List.nodup_nil, fun q hmem => ?_, fun h => absurd h hlive⟩
  rw [hnone] at hmem
  cases hmem

theorem yardKept_endLoad {s : State} (hloading : s.phase = .loading) : s.KeepsYard (endLoad s) := by
  have hloaded : s.KeepsYard
      (startBlocks { s with phase := .running, cfg := s.loadedCfg, storeFound := decide (s.store.fault = none) }) := by
    refine yardKept_startBlocks (fun hok => ?_) (fun h => by cases h) fun hq => (hq.2.2 hloading).1
    show s.loadedCfg.ok = true
    unfold State.loadedCfg
    split
    · exact store_content_ok ‹_›
    · exact hok
  unfold endLoad
  dsimp only
  split
  · exact hloaded
  · exact hloaded.trans (yardKept_raise _ _)

/-- From `s` to `t` the laws of aims and owed counts hold on, and so do those of cannons, places and commands together. -/
structure State.HoldsYard (s t : State) : Prop where
  steady : s.Steady t
  held : s.Agreed → s.PlacesHeld → s.CommandsHeld → t.Agreed ∧ t.PlacesHeld ∧ t.CommandsHeld

theorem State.KeepsYard.holds {s t : State} (h : s.KeepsYard t) : s.HoldsYard t :=
  ⟨h.steady, fun ha hp hq => ⟨(h.held ha).agreed, (h.held ha).places hp, (h.held ha).commands hq⟩⟩

theorem State.HoldsYard.trans {s t u : State} (h : s.HoldsYard t) (k : t.HoldsYard u) : s.HoldsYard u :=
  ⟨h.steady.trans k.steady, fun ha hp hq => by
    obtain ⟨ha', hp', hq'⟩ := h.held ha hp hq
    exact k.held ha' hp' hq'⟩

theorem State.HoldsYard.refl (s : State) : s.HoldsYard s := (State.KeepsYard.refl s).holds

/-- After reset the queue is empty and every cannon in RETIRED, with the default configuration. -/
theorem yardHolds_afterRelease {s t : State} (straps : BitVec 4) (store : Store)
    (hcfg : t.cfg = (State.afterRelease straps store).cfg) (hcannons : t.cannons = (State.afterRelease straps store).cannons)
    (hstations : t.stations = (State.afterRelease straps store).stations) (hcommands : t.commands = []) : s.HoldsYard t := by
  have hcannon (c : CannonId) : t.cannon c = Cannon.initial .retired 0 { zone := none, efficiency := 0, pattern := 0 } := by
    rw [State.cannon, hcannons]; exact vector_replicate_get _ _ c
  have hmode (c : CannonId) : (t.cannonEntry c).mode = .outOfService := by
    rw [State.cannonEntry, hcfg]
    exact congrArg CannonEntry.mode (vector_replicate_get 48 CannonEntry.default c)
  have hstation (g : StationId) : t.station g = Station.initial := by
    rw [State.station, hstations]; exact vector_replicate_get _ _ g
  have hbare : t.Bare := ⟨fun c => ⟨0, _, by rw [hcannon, hmode]; rfl⟩, fun g => by rw [hstation]; exact ⟨rfl, rfl, rfl⟩⟩
  refine ⟨hbare.steady fun _ => by rw [hcfg]; exact tables_default_ok straps, fun _ _ _ => ⟨hbare.held.1, hbare.held.2, ?_⟩⟩
  refine ⟨by rw [hcommands]; exact List.nodup_nil, fun q hmem => ?_, fun _ => ⟨hcommands, fun c => by rw [hcannon]; rfl⟩⟩
  rw [hcommands] at hmem
  cases hmem

/-! ## Requests (R179) -/

/-- The work of a request outside a store load keeps the laws. -/
abbrev WorkKeepsYard (work : MgmtRequest → State → Answer) : Prop :=
  ∀ (q : MgmtRequest) (s : State), s.phase ≠ .loading → s.KeepsYard (work q s).state

theorem yardKept_conclude (q : MgmtRequest) (a : Answer) : a.state.KeepsYard (conclude q a) := by
  unfold conclude
  split
  · rename_i status body _
    obtain ⟨r, cs, k, h⟩ := replyTo_state q status body a.state
    rw [h]
    exact .books rfl rfl rfl rfl rfl
  · exact .refl _

/-- While the store loads every request is refused BUSY (R180, R187). -/
theorem live_of_refusal {s : State} {q : MgmtRequest} (h : s.refusal q = none) : s.phase ≠ .loading := by
  intro hp
  rw [State.refusal, if_pos hp] at h
  cases h

theorem yardKept_judge (work : MgmtRequest → State → Answer) (hwork : WorkKeepsYard work) (q : MgmtRequest) (s : State) :
    s.KeepsYard (judge work q s).state := by
  unfold judge
  split
  · exact .refl s
  · next hnone _ => exact hwork q s (live_of_refusal hnone)
  · unfold unlistedAnswer
    split <;> exact .refl s

theorem yardKept_takeRequest (row : Instr) (work : MgmtRequest → State → Answer) (hwork : WorkKeepsYard work) (s : State) :
    s.KeepsYard (takeRequest row work s) := by
  unfold takeRequest
  split
  · exact .refl s
  · rename_i q rest _
    have htaken : s.KeepsYard { s with requests := rest } := .books rfl rfl rfl rfl rfl
    exact yardKept_ite (fun _ => .after (yardKept_conclude q _) (htaken.trans (yardKept_judge work hwork q _))) fun _ => .refl s

theorem workKeepsYard_writeAnswer (table : Nat) (one : Nat → List Byte → State → Taken) (hone : EntryKeepsYard one) :
    WorkKeepsYard (writeAnswer table one) := fun q _ hlive => yardKept_writeWork table one hone q.body hlive

theorem workKeepsYard_loadForecast : WorkKeepsYard loadForecastAnswer := by
  intro q s _
  unfold loadForecastAnswer
  dsimp only
  split
  · exact .refl s
  · rw [answered, loadForecast_state]
    exact .books rfl rfl rfl rfl rfl

theorem workKeepsYard_dispatch (allowed : DispatchMode → Bool) (change : State → State)
    (hchange : ∀ s : State, s.KeepsYard (change s)) : WorkKeepsYard (dispatchAnswer allowed change) := by
  intro q s _
  have hverb : s.KeepsYard (verbWork allowed change s).1 := by
    unfold verbWork
    split
    · exact hchange s
    · exact .refl s
  exact hverb

theorem workKeepsYard_setMode : WorkKeepsYard setModeAnswer := by
  intro q s hlive
  unfold setModeAnswer
  split
  · exact .refl s
  · exact .refl s
  · exact yardKept_setMode _ _ hlive

theorem workKeepsYard_clearFault : WorkKeepsYard clearFaultAnswer := by
  intro q s _
  unfold clearFaultAnswer
  split
  · exact .refl s
  · exact yardKept_clearFaultOf _ s

theorem yardKept_clearFlagsOf (p : Port) (named : Byte) (s : State) : s.KeepsYard (clearFlagsOf p named s).state := by
  unfold clearFlagsOf
  split
  · exact .refl s
  · exact yardKept_updPort p (fun x => { x with flags := x.flags.without named }) s

theorem workKeepsYard_clearFlags : WorkKeepsYard clearFlagsAnswer := by
  intro q s _
  unfold clearFlagsAnswer
  split
  · exact yardKept_clearFlagsOf _ _ s
  · exact yardKept_clearFlagsOf _ _ s
  · exact .refl s

theorem workKeepsYard_clearMachine : WorkKeepsYard clearMachineAnswer := by
  intro q s _
  unfold clearMachineAnswer
  split
  · exact .refl s
  · exact yardKept_clearMachineOf _ s

theorem workKeepsYard_restart : WorkKeepsYard restartAnswer :=
  fun _ s hlive => yardKept_startBlocks (t := clearBlocks s) id hlive fun _ => rfl

theorem workKeepsYard_save : WorkKeepsYard saveAnswer := fun _ _ _ => .books rfl rfl rfl rfl rfl

/-- IDENTIFY and the reads change nothing but what they answer (R182, R183). -/
theorem workKeepsYard_identify : WorkKeepsYard identifyWork := fun _ s _ => .refl s
theorem workKeepsYard_readEntries : WorkKeepsYard readEntriesAnswer := fun _ s _ => .refl s
theorem workKeepsYard_readState : WorkKeepsYard readStateAnswer := fun _ s _ => .refl s

theorem yardKept_completeSave (s : State) : s.KeepsYard (completeSave s) := by
  unfold completeSave
  split
  · exact .refl s
  · exact .books rfl rfl rfl rfl rfl

end Sys2Proof.Machine
end

section
namespace Sys2Proof.Machine

/-! ## Sendings (R79, R105, R157) -/

/-- The sweep advances within its pattern (R78, R79). -/
theorem advance_fits {p : Pattern} {column row : Nat} (hc : column < p.cols) (hr : row < p.rows) :
    (p.advance column row).1 < p.cols ∧ (p.advance column row).2 < p.rows := by
  unfold Pattern.advance
  split
  · exact ⟨by omega, hr⟩
  · dsimp only
    split <;> constructor <;> omega

theorem yardKept_sendForward (p : Port) (s : State) : s.KeepsYard (sendForward p s) := by
  unfold sendForward
  split
  · exact .refl s
  · exact (yardKept_updPort p _ s).trans (yardKept_updPort p _ _)

/-- The aim of the cannon whose OPEN is sent stays within its pattern, and nothing else that the law of aims speaks of changes
(R78, R79). -/
theorem steady_commandSent (q : Command) (s : State) : s.Steady (commandSent q s) := by
  unfold commandSent
  split
  · refine ⟨fun hok ha => ⟨hok, (aimsFit_iff _).mpr fun d => ?_⟩, fun ho d => ?_⟩
    · rw [State.cannon_updCannon]
      split
      · obtain ⟨hcolumn, hrow⟩ := ha q.cannon
        show _ < (s.patternOf q.cannon).cols ∧ _ < (s.patternOf q.cannon).rows
        unfold Cannon.openSentBy
        dsimp only
        split
        · exact advance_fits hcolumn hrow
        · exact ⟨hcolumn, hrow⟩
      · exact ha d
    · rw [State.cannon_updCannon]
      split
      · exact ho q.cannon
      · exact ho d
  · exact .ofCannon q.cannon rfl (by rw [State.cannon_updCannon_self]; exact .same rfl rfl rfl rfl rfl)
      fun d hd => State.cannon_updCannon_ne _ _ _ _ hd

/-- A command that is sent leaves the queue and starts the timer that its cannon's state allows (R104, R105). -/
theorem yardHolds_sent {q : Command} {rest : List Command} {s : State} (hhead : (q :: rest).Sublist s.commands) :
    s.HoldsYard (commandSent q { s with commands := rest }) := by
  refine ⟨State.Steady.trans (t := { s with commands := rest }) (.ofCannons rfl fun _ => .refl _) (steady_commandSent q _),
    fun ha hp hq => ?_⟩
  have hmem : q ∈ s.commands := hhead.subset List.mem_cons_self
  have hnodup := List.nodup_cons.mp (hq.1.sublist (hhead.map _))
  have htaken : { s with commands := rest }.CommandsHeld := commandsHeld_of_kept hq id ((List.sublist_cons_self q rest).trans hhead)
    (fun _ _ h1 h2 => ⟨h1, h2⟩) fun _ h => h
  have hnone : { s with commands := rest }.openQueued q.cannon = false := Bool.eq_false_iff.mpr fun ho =>
    hnodup.1 (List.mem_map.mpr ⟨_, (openQueued_iff _ _).mp ho, rfl⟩)
  have hlive : s.phase = .loading → (s.cannon q.cannon).state ≠ .retired := fun h => by
    rw [(hq.2.2 h).1] at hmem; cases hmem
  have hkept : { s with commands := rest }.KeepsPlaces (commandSent q { s with commands := rest }) := by
    unfold commandSent
    split
    · next hopen =>
      have hopening := (hq.2.1 q hmem hopen).1
      refine placesKept_restate rfl rfl (fun ⟨h1, h2, h3, h4, _⟩ => ⟨h1, fun h => ?_, fun h => h3 ?_, h4, fun _ => .inl hopening⟩)
        (fun _ h => h) (fun _ => hnone) hlive ha
      · exact Option.isSome_map.trans (h2 h)
      · exact Option.isSome_map.symm.trans h
    · refine placesKept_restate rfl rfl (fun ⟨h1, h2, h3, h4, h5⟩ => ⟨h1, h2, h3, h4, fun h => ?_⟩) (fun _ h => h) (fun _ => hnone)
        hlive ha
      by_cases hclosing : (s.cannon q.cannon).state = .closing
      · exact .inr (.inl hclosing)
      · exact h5 ((congrArg Option.isSome (if_neg hclosing)).symm.trans h)
  exact ⟨hkept.agreed, hkept.places hp, hkept.commands htaken⟩

/-- Commands that leave the queue unsent (R105). -/
theorem yardKept_unqueued {rest : List Command} {s : State} (h : rest.Sublist s.commands) :
    s.KeepsYard { s with commands := rest } :=
  ⟨.ofCannons rfl fun _ => .refl _, id, fun ha => ⟨ha, id, fun hq =>
    commandsHeld_of_kept hq id h (fun _ _ h1 h2 => ⟨h1, h2⟩) fun _ h => h⟩⟩

theorem yardHolds_sendCommand (s : State) : s.HoldsYard (sendCommand s) := by
  unfold sendCommand
  split
  · exact ((yardKept_unqueued (List.nil_sublist _)).trans (yardKept_sendForward .field _)).holds
  · next q rest hdrop =>
    have hhead : (q :: rest).Sublist s.commands := hdrop ▸ List.dropWhile_sublist _
    split
    · exact (yardHolds_sent hhead).trans (yardKept_updPort .field _ _).holds
    · exact ((yardKept_unqueued ((List.sublist_cons_self q rest).trans hhead)).trans (yardKept_sendForward .field _)).holds

theorem yardKept_sendReplyOrNotice (s : State) : s.KeepsYard (sendReplyOrNotice s) := by
  unfold sendReplyOrNotice
  split
  · exact .books rfl rfl rfl rfl rfl
  · unfold sendNotice
    split
    · exact .books rfl rfl rfl rfl rfl
    · exact .books rfl rfl rfl rfl rfl
    · exact .refl s
  · exact .refl s

theorem yardHolds_sendFrom (p : Port) (t : Turn) (s : State) : s.HoldsYard (sendFrom p t s) := by
  cases t with
  | forward => exact (yardKept_sendForward p s).holds
  | insertion =>
    cases p with
    | field => exact yardHolds_sendCommand s
    | control => exact (yardKept_sendReplyOrNotice s).holds

theorem yardHolds_decideNext (p : Port) (s : State) : s.HoldsYard (decideNext p s) := by
  unfold decideNext
  split
  · exact yardHolds_sendFrom p _ s
  · exact yardHolds_sendFrom p _ s
  · exact yardHolds_sendFrom p _ s
  · exact .refl s

theorem yardHolds_transmit (p : Port) (s : State) : s.HoldsYard (transmit p s) := by
  unfold transmit decideIdle
  split
  · split
    · have hchosen : s.KeepsYard s.choose := .books rfl rfl rfl rfl rfl
      exact hchosen.holds.trans (yardHolds_sendFrom p _ s.choose)
    · exact yardHolds_sendFrom p _ s
    · exact yardHolds_sendFrom p _ s
    · exact .refl s
  · exact .refl s

theorem yardHolds_endSending (p : Port) (s : State) : s.HoldsYard (endSending p s) :=
  (yardKept_updPort p _ s).holds.trans (yardHolds_decideNext p _)

/-! ## The rows -/

theorem yardHolds_stepOf (f : State → State) (s : State) (hf : s.KeepsYard (f s)) : s.HoldsYard (stepOf f s) := by
  unfold stepOf
  split
  · exact (hf.trans (yardKept_settle _)).holds.trans ((yardHolds_transmit .field _).trans (yardHolds_transmit .control _))
  · exact .refl s

/-- A timer's row: its expiry acts only while the timer runs. -/
theorem yardHolds_expiry (p : State → Prop) [DecidablePred p] (f : State → State) (s : State) (hf : p s → s.KeepsYard (f s)) :
    s.HoldsYard (stepOf (fun u => if p u then f u else u) s) :=
  yardHolds_stepOf _ s (yardKept_ite hf fun _ => .refl s)

theorem yardHolds_request (row : Instr) (work : MgmtRequest → State → Answer) (s : State) (hwork : WorkKeepsYard work) :
    s.HoldsYard (stepOf (takeRequest row work) s) := yardHolds_stepOf _ s (yardKept_takeRequest row work hwork s)

theorem yardHolds_write {n : Nat} (row : Instr) (table : Nat) (f : Fin n → List Byte → State → Taken) (s : State)
    (hf : ∀ (i : Fin n) (l : List Byte) (s t : State), s.phase ≠ .loading → f i l s = .ok t → s.KeepsYard t) :
    s.HoldsYard (stepOf (takeRequest row (writeAnswer table fun e l s => atEntry e fun i => f i l s)) s) :=
  yardHolds_request row _ s (workKeepsYard_writeAnswer table _ (entryKeepsYard_atEntry f hf))

theorem yardHolds_dispatch (row : Instr) (allowed : DispatchMode → Bool) (change : State → State) (s : State)
    (hchange : ∀ s : State, s.KeepsYard (change s)) :
    s.HoldsYard (stepOf (takeRequest row (dispatchAnswer allowed change)) s) :=
  yardHolds_request row _ s (workKeepsYard_dispatch allowed change hchange)

theorem yardHolds_ite {p : Prop} [Decidable p] {s a b : State} (ha : p → s.HoldsYard a) (hb : ¬ p → s.HoldsYard b) :
    s.HoldsYard (if p then a else b) := by
  split
  · exact ha ‹_›
  · exact hb ‹_›

/-- A part that ends up without power or held in reset with an empty queue (R169, R185). -/
theorem yardKept_halted {s t : State} (hlive : t.phase ≠ .loading) (hcfg : t.cfg = s.cfg) (hcannons : t.cannons = s.cannons)
    (hstations : t.stations = s.stations) (hcommands : t.commands.Sublist s.commands) : s.KeepsYard t := by
  have hcannon (c : CannonId) : t.cannon c = s.cannon c := congrArg (fun v : Vector Cannon 48 => v[c]) hcannons
  have hstation (g : StationId) : t.station g = s.station g := congrArg (fun v : Vector Station 4 => v[g]) hstations
  have hentry (c : CannonId) : t.cannonEntry c = s.cannonEntry c := congrArg (fun f : Tables => f.cannons[c]) hcfg
  have hlimits (g : StationId) : t.stationEntry g = s.stationEntry g := congrArg (fun f : Tables => f.stations[g]) hcfg
  refine ⟨.ofCannons hcfg fun c => by rw [hcannon]; exact .refl _, fun _ => hlive,
    fun ⟨ha, hw⟩ => ⟨⟨fun c => by rw [hcannon, hentry]; exact ha c, ?_⟩, fun hp => ?_, fun hq => ?_⟩⟩
  · exact waitingHeld_of_kept hw (fun g => by rw [hstation]) fun g c _ hground => by rw [hcannon]; exact ⟨rfl, hground⟩
  · exact placesHeld_of_same hp (fun c => by rw [hcannon]) (fun c _ => ⟨congrArg Cannon.station (hcannon c), by rw [hentry]⟩)
      (fun g => by rw [hstation]; exact ⟨rfl, rfl⟩) fun g h1 h2 => by rw [hlimits]; exact ⟨h1, h2⟩
  · exact commandsHeld_of_kept hq (fun h => absurd h hlive) hcommands (fun c _ h1 h2 => by rw [hcannon]; exact ⟨h1, h2⟩)
      fun c h => by rw [hcannon]; exact h

/-- Every row keeps the laws. -/
theorem yardHolds_exec (i : Instr) (s : State) : ∃ t, exec i s = .next t ∧ s.HoldsYard t := by
  cases i with
  | powerOn => exact ⟨_, rfl, yardHolds_afterRelease s.straps s.store rfl rfl rfl rfl⟩
  | pinResetAsserted =>
    exact ⟨_, rfl, yardHolds_ite (fun _ => .refl s) fun _ =>
      (yardKept_halted (s := s) (t := pinReset s) (by rintro ⟨⟩) rfl rfl rfl (List.nil_sublist _)).holds⟩
  | resetRelease straps =>
    exact ⟨_, rfl, yardHolds_ite (fun _ => yardHolds_afterRelease straps s.store rfl rfl rfl rfl) fun _ => .refl s⟩
  | powerFail => exact ⟨_, rfl, (yardKept_halted (s := s) (t := powerFailPart s) (by rintro ⟨⟩) rfl rfl rfl (.refl _)).holds⟩
  | storeLoadEnd => exact ⟨_, rfl, yardHolds_expiry (fun u => u.phase = .loading) endLoad s fun h => yardKept_endLoad h⟩
  | frameCompletion p bytes => exact ⟨_, rfl, yardHolds_stepOf _ s (yardKept_completeFrame p bytes s)⟩
  | endOfSending p => exact ⟨_, rfl, yardHolds_ite (fun _ => yardHolds_endSending p s) fun _ => .refl s⟩
  | secondEvent => exact ⟨_, rfl, yardHolds_stepOf _ s (yardKept_secondEvent s)⟩
  | mastStalenessExpiry m => exact ⟨_, rfl, yardHolds_expiry _ (mastExpiry m) s fun _ => .books rfl rfl rfl rfl rfl⟩
  | dustStalenessExpiry d => exact ⟨_, rfl, yardHolds_expiry _ (dustExpiry d) s fun _ => .books rfl rfl rfl rfl rfl⟩
  | probeStalenessExpiry z => exact ⟨_, rfl, yardHolds_expiry _ (probeExpiry z) s fun _ => .books rfl rfl rfl rfl rfl⟩
  | evaluationTimerExpiry z => exact ⟨_, rfl, yardHolds_stepOf _ s (yardKept_evaluationExpiry z s)⟩
  | pumpStalenessExpiry g => exact ⟨_, rfl, yardHolds_expiry _ (pumpExpiry g) s fun _ => yardKept_pumpExpiry g s⟩
  | slotStart g => exact ⟨_, rfl, yardHolds_expiry _ (slotStart g) s fun _ => yardKept_slotStart g s⟩
  | holdTimerExpiry c =>
    exact ⟨_, rfl, yardHolds_expiry _ (fun u => u.updCannon c fun k => { k with holdTimer := none }) s
      fun _ => yardKept_holdTimer c none s⟩
  | acknowledgementTimerExpiry c => exact ⟨_, rfl, yardHolds_expiry _ (ackExpiry c) s fun h => yardKept_ackExpiry h⟩
  | burstTimerExpiry c => exact ⟨_, rfl, yardHolds_expiry _ (burstExpiry c) s fun h => yardKept_burstExpiry h⟩
  | qualityStalenessExpiry w =>
    exact ⟨_, rfl, yardHolds_expiry _ (qualityExpiry w) s fun _ => .after (yardKept_deriveQuality w _) (yardKept_updSource w _ s)⟩
  | machineStalenessExpiry m => exact ⟨_, rfl, yardHolds_expiry _ (machineExpiry m) s fun _ => .books rfl rfl rfl rfl rfl⟩
  | livenessTimerExpiry p => exact ⟨_, rfl, yardHolds_expiry _ (linkExpiry p) s fun _ => yardKept_linkExpiry p s⟩
  | saveCompletion => exact ⟨_, rfl, yardHolds_stepOf _ s (yardKept_completeSave s)⟩
  | identify => exact ⟨_, rfl, yardHolds_request _ _ s workKeepsYard_identify⟩
  | readEntries => exact ⟨_, rfl, yardHolds_request _ _ s workKeepsYard_readEntries⟩
  | readState => exact ⟨_, rfl, yardHolds_request _ _ s workKeepsYard_readState⟩
  | writeNodeMap =>
    exact ⟨_, rfl, yardHolds_request _ _ s (workKeepsYard_writeAnswer 1 writeNodeAt entryKeepsYard_writeNodeAt)⟩
  | writeZone => exact ⟨_, rfl, yardHolds_write _ 2 writeZoneEntry s fun z l s t _ => yardKept_writeZoneEntry z l s t⟩
  | writeProfile => exact ⟨_, rfl, yardHolds_write _ 3 writeProfileEntry s fun p l s t _ => yardKept_writeProfileEntry p l s t⟩
  | writeCannon => exact ⟨_, rfl, yardHolds_write _ 4 writeCannonEntry s yardKept_writeCannonEntry⟩
  | writeCoverage => exact ⟨_, rfl, yardHolds_write _ 5 writeCoverageEntry s fun i l s t _ => yardKept_writeCoverageEntry i l s t⟩
  | writePattern => exact ⟨_, rfl, yardHolds_write _ 6 writePatternEntry s fun p l s t _ => yardKept_writePatternEntry p l s t⟩
  | writeStation => exact ⟨_, rfl, yardHolds_write _ 7 writeStationEntry s fun g l s t _ => yardKept_writeStationEntry g l s t⟩
  | writeSource => exact ⟨_, rfl, yardHolds_write _ 8 writeSourceEntry s fun w l s t _ => yardKept_writeSourceEntry w l s t⟩
  | writeSubstitution => exact ⟨_, rfl, yardHolds_write _ 9 writeWindowEntry s fun i l s t _ => yardKept_writeWindowEntry i l s t⟩
  | writeSettings => exact ⟨_, rfl, yardHolds_write _ 10 writeSettingsEntry s fun i l s t _ => yardKept_writeSettingsEntry i l s t⟩
  | loadForecast => exact ⟨_, rfl, yardHolds_request _ _ s workKeepsYard_loadForecast⟩
  | start => exact ⟨_, rfl, yardHolds_dispatch _ _ startDispatch s yardKept_startDispatch⟩
  | watch => exact ⟨_, rfl, yardHolds_dispatch _ _ (quietDispatch .watch) s (yardKept_quietDispatch .watch)⟩
  | halt => exact ⟨_, rfl, yardHolds_dispatch _ _ (quietDispatch .halt) s (yardKept_quietDispatch .halt)⟩
  | resume => exact ⟨_, rfl, yardHolds_dispatch _ _ resumeDispatch s (yardKept_enterMode .run)⟩
  | stop => exact ⟨_, rfl, yardHolds_dispatch _ _ stopDispatch s yardKept_stopDispatch⟩
  | setCannonMode => exact ⟨_, rfl, yardHolds_request _ _ s workKeepsYard_setMode⟩
  | clearFault => exact ⟨_, rfl, yardHolds_request _ _ s workKeepsYard_clearFault⟩
  | clearFlags => exact ⟨_, rfl, yardHolds_request _ _ s workKeepsYard_clearFlags⟩
  | clearMachine => exact ⟨_, rfl, yardHolds_request _ _ s workKeepsYard_clearMachine⟩
  | save => exact ⟨_, rfl, yardHolds_request _ _ s workKeepsYard_save⟩
  | restart => exact ⟨_, rfl, yardHolds_request _ _ s workKeepsYard_restart⟩

theorem yardHolds_step {s t : State} (h : step s = .next t) : s.HoldsYard t := by
  unfold step at h
  split at h
  · cases h; exact .refl s
  · next c rest _ =>
    have hpopped : s.KeepsYard { s with pending := rest } := .books rfl rfl rfl rfl rfl
    obtain ⟨u, hu, hholds⟩ := yardHolds_exec c { s with pending := rest }
    cases hu.symm.trans h
    exact hpopped.holds.trans hholds

/-- Settles O56: every operation is walked with the four laws together, a place taken where there is room, given back where a
burst or close ends, and kept through every other change of state. -/
theorem stepKeepsPlaces : Obligations.StepKeepsPlaces := fun _ _ ⟨ha, hw, hp, hq⟩ h =>
  have ⟨⟨ha', hw'⟩, hp', hq'⟩ := (yardHolds_step h).held ⟨ha, hw⟩ hp hq
  ⟨ha', hw', hp', hq'⟩

/-- Settles O54: an aim moves by the sweep of its pattern and returns to column 0 and row 0 with a new pattern, and what is owed
goes with its AUTO request. -/
theorem stepKeepsAimsAndOwedCounts : Obligations.StepKeepsAimsAndOwedCounts :=
  ⟨fun _ _ hs h => (yardHolds_step h).steady.aims hs.1 hs.2, fun _ _ hs h => (yardHolds_step h).steady.owed hs⟩

end Sys2Proof.Machine
end

section
namespace Sys2Proof.Machine

/-! ## What a sending changes (R79, R105, R157 to R159) -/

/-- A port after a step's end: one frame of its buffer sent at most, and its flags and link as they were (R157, R158). -/
structure PortState.Sent (x y : PortState) : Prop where
  flags : y.flags = x.flags
  up : y.up = x.up
  liveness : y.liveness = x.liveness
  buffer : y.buffer = x.buffer ∨ y.buffer = x.buffer.tail ∧ y.sending = x.buffer.head?

theorem PortState.Sent.refl (x : PortState) : x.Sent x := ⟨rfl, rfl, rfl, .inl rfl⟩

theorem PortState.Sent.starts (x : PortState) (f : Frame) (t : Turn) : x.Sent { x with sending := some f, turn := t } :=
  ⟨rfl, rfl, rfl, .inl rfl⟩

/-- What the sending of a command does to its cannon (R79, R105). -/
def State.sentBy (s : State) (q : Command) (k : Cannon) : Cannon :=
  match q.verb with
  | .openValve => k.openSentBy (s.patternOf q.cannon) s.settings.ackTime
  | .closeValve => k.closeSentBy s.settings.ackTime

theorem commandSent_eq (q : Command) (s : State) : commandSent q s = s.updCannon q.cannon (s.sentBy q) := by
  obtain ⟨c, v⟩ := q
  cases v <;> rfl

theorem sameButSending_refl (k : Cannon) : k.SameButSending k := by constructor <;> rfl

theorem sameButSending_sentBy (s : State) (q : Command) (k : Cannon) : k.SameButSending (s.sentBy q k) := by
  unfold State.sentBy
  split
  · refine ⟨rfl, rfl, rfl, rfl, rfl, rfl, ?_, rfl, rfl, rfl⟩
    simp only [Cannon.openSentBy, Option.map_map]
    rfl
  · exact ⟨rfl, rfl, rfl, rfl, rfl, rfl, rfl, rfl, rfl, rfl⟩

/-- The commands from the first one on that a VALVE entry holds (R105). -/
def State.mappedCommands (s : State) : List Command := s.commands.dropWhile fun q => !s.wired q.cannon

/-- A VALVE entry that is mapped has a node. -/
theorem nodeOf_of_wired {s : State} {c : CannonId} (h : s.wired c = true) : ∃ node, s.nodeOf (.valve c) = some node :=
  Option.isSome_iff_exists.mp ((nodeOf_isSome s _).trans h)

/-- The cannon of the first mapped command is mapped. -/
theorem wired_of_mappedCommands {s : State} {q : Command} {rest : List Command} (h : s.mappedCommands = q :: rest) :
    s.wired q.cannon = true := by
  have hhead := List.head?_dropWhile_not (fun q => !s.wired q.cannon) s.commands
  rw [show s.commands.dropWhile (fun q => !s.wired q.cannon) = q :: rest from h] at hhead
  simpa using hhead

/-- What the end of a step does at the field port (R105, R157 to R159). -/
structure State.FieldSent (s t : State) : Prop where
  state : t = { s with
    commands := t.commands, cannons := t.cannons, fieldPort := t.fieldPort, choices := t.choices, choiceCount := t.choiceCount }
  port : s.fieldPort.Sent t.fieldPort
  queue : (t.commands = s.commands ∧ t.cannons = s.cannons) ∨
    (s.mappedCommands = [] ∧ t.commands = [] ∧ t.cannons = s.cannons) ∨
    ∃ q rest, s.mappedCommands = q :: rest ∧ t.commands = rest ∧ t.cannons = updAt s.cannons q.cannon (s.sentBy q) ∧
      t.fieldPort.buffer = s.fieldPort.buffer

theorem State.FieldSent.refl (s : State) : s.FieldSent s := ⟨rfl, .refl _, .inl ⟨rfl, rfl⟩⟩

/-- What the end of a step does at the control port (R157 to R159, R189). -/
structure State.ControlSent (s t : State) : Prop where
  state : t = { s with
    replies := t.replies, notices := t.notices, controlPort := t.controlPort, choices := t.choices, choiceCount := t.choiceCount }
  port : s.controlPort.Sent t.controlPort
  queue : (t.replies = s.replies ∧ t.notices = s.notices) ∨
    (t.controlPort.buffer = s.controlPort.buffer ∧
      ((t.replies = s.replies.tail ∧ t.notices = s.notices) ∨
       (t.replies = s.replies ∧ t.notices = { s.notices with marker := none, lost := 0 }) ∨
       (t.replies = s.replies ∧ t.notices = { s.notices with entries := s.notices.entries.tail })))

theorem State.ControlSent.refl (s : State) : s.ControlSent s := ⟨rfl, .refl _, .inl ⟨rfl, rfl⟩⟩

/-- The frame at the head of a buffer is sent (R157). -/
theorem sendForward_port (p : Port) (s : State) :
    ∃ x, sendForward p s = s.updPort p (fun _ => x) ∧ (s.port p).Sent x := by
  unfold sendForward
  split
  · exact ⟨s.port p, by cases p <;> rfl, .refl _⟩
  · next f rest h =>
    refine ⟨{ s.port p with buffer := rest, sending := some f, turn := .forward }, by cases p <;> rfl, ⟨rfl, rfl, rfl, .inr ?_⟩⟩
    rw [h]
    exact ⟨rfl, rfl⟩

theorem fieldSent_sendForward (s : State) : s.FieldSent (sendForward .field s) := by
  obtain ⟨x, h, hx⟩ := sendForward_port .field s
  rw [h]
  exact ⟨rfl, hx, .inl ⟨rfl, rfl⟩⟩

theorem controlSent_sendForward (s : State) : s.ControlSent (sendForward .control s) := by
  obtain ⟨x, h, hx⟩ := sendForward_port .control s
  rw [h]
  exact ⟨rfl, hx, .inl ⟨rfl, rfl⟩⟩

theorem fieldSent_sendCommand (s : State) : s.FieldSent (sendCommand s) := by
  unfold sendCommand
  split
  · next h =>
    obtain ⟨x, he, hx⟩ := sendForward_port .field { s with commands := [] }
    rw [he]
    exact ⟨rfl, hx, .inr (.inl ⟨h, rfl, rfl⟩)⟩
  · next q rest h =>
    obtain ⟨node, hnode⟩ := nodeOf_of_wired (wired_of_mappedCommands h)
    rw [hnode]
    rw [commandSent_eq]
    exact ⟨rfl, .starts _ _ _, .inr (.inr ⟨q, rest, h, rfl, rfl, rfl⟩)⟩

theorem controlSent_sendReplyOrNotice (s : State) : s.ControlSent (sendReplyOrNotice s) := by
  unfold sendReplyOrNotice
  split
  · next r rest h => exact ⟨rfl, .starts _ _ _, .inr ⟨rfl, .inl ⟨congrArg List.tail h.symm, rfl⟩⟩⟩
  · unfold sendNotice
    split
    · exact ⟨rfl, .starts _ _ _, .inr ⟨rfl, .inr (.inl ⟨rfl, rfl⟩)⟩⟩
    · next e rest _ h =>
      refine ⟨rfl, .starts _ _ _, .inr ⟨rfl, .inr (.inr ⟨rfl, ?_⟩)⟩⟩
      rw [h]; rfl
    · exact .refl s
  · exact .refl s

theorem fieldSent_sendFrom (t : Turn) (s : State) : s.FieldSent (sendFrom .field t s) := by
  cases t with
  | forward => exact fieldSent_sendForward s
  | insertion => exact fieldSent_sendCommand s

theorem controlSent_sendFrom (t : Turn) (s : State) : s.ControlSent (sendFrom .control t s) := by
  cases t with
  | forward => exact controlSent_sendForward s
  | insertion => exact controlSent_sendReplyOrNotice s

/-- A free choice changes nothing that a sending reads. -/
theorem fieldSent_of_choose {s t : State} (h : s.choose.FieldSent t) : s.FieldSent t := by
  obtain ⟨hstate, hport, hqueue⟩ := h
  exact ⟨hstate.trans rfl, hport, hqueue⟩

theorem controlSent_of_choose {s t : State} (h : s.choose.ControlSent t) : s.ControlSent t := by
  obtain ⟨hstate, hport, hqueue⟩ := h
  exact ⟨hstate.trans rfl, hport, hqueue⟩

theorem fieldSent_transmit (s : State) : s.FieldSent (transmit .field s) := by
  unfold transmit decideIdle
  split
  · split
    · exact fieldSent_of_choose (fieldSent_sendFrom _ _)
    · exact fieldSent_sendFrom _ s
    · exact fieldSent_sendFrom _ s
    · exact .refl s
  · exact .refl s

theorem controlSent_transmit (s : State) : s.ControlSent (transmit .control s) := by
  unfold transmit decideIdle
  split
  · split
    · exact controlSent_of_choose (controlSent_sendFrom _ _)
    · exact controlSent_sendFrom _ s
    · exact controlSent_sendFrom _ s
    · exact .refl s
  · exact .refl s

/-- A port whose transmitter is busy takes nothing (R158). -/
theorem transmit_of_busy {p : Port} {s : State} (h : (s.port p).sending.isSome) : transmit p s = s := by
  have hbusy : s.idlePort p = false := by
    rw [State.idlePort, Option.isNone_eq_false_iff]; exact h
  rw [transmit, hbusy]; rfl

/-- The first mapped command is one that is queued. -/
theorem hasCommand_of_mappedCommands {s : State} {q : Command} {rest : List Command} (h : s.mappedCommands = q :: rest) :
    s.hasCommand q.cannon = true := by
  refine List.any_eq_true.mpr ⟨q, ?_, decide_eq_true rfl⟩
  exact (List.dropWhile_sublist _).subset (h ▸ List.mem_cons_self)

/-- What the field port's end of a step leaves of the cannons (R79, R105). -/
theorem State.FieldSent.cannons {s t : State} (h : s.FieldSent t) (c : CannonId) :
    ((∀ q ∈ s.mappedCommands.head?, q.cannon ≠ c) → t.cannon c = s.cannon c) ∧
    (s.hasCommand c = false → t.cannon c = s.cannon c) ∧ (s.cannon c).SameButSending (t.cannon c) := by
  have hsame (hc : t.cannons = s.cannons) : t.cannon c = s.cannon c := congrArg (fun v : Vector Cannon 48 => v[c]) hc
  have hkept (hc : t.cannons = s.cannons) : (s.cannon c).SameButSending (t.cannon c) := by
    rw [hsame hc]; exact sameButSending_refl _
  obtain ⟨-, hc⟩ | ⟨-, -, hc⟩ | ⟨q, rest, hmapped, -, hc, -⟩ := h.queue
  · exact ⟨fun _ => hsame hc, fun _ => hsame hc, hkept hc⟩
  · exact ⟨fun _ => hsame hc, fun _ => hsame hc, hkept hc⟩
  · have hcannon : t.cannon c = if c = q.cannon then s.sentBy q (s.cannon q.cannon) else s.cannon c :=
      (congrArg (fun v : Vector Cannon 48 => v[c]) hc).trans (updAt_get _ _ _ _)
    by_cases e : c = q.cannon
    · subst e
      rw [hmapped]
      refine ⟨fun hne => absurd rfl (hne q rfl), fun hnone => ?_, ?_⟩
      · rw [hasCommand_of_mappedCommands hmapped] at hnone; cases hnone
      · rw [hcannon, if_pos rfl]; exact sameButSending_sentBy s q _
    · rw [hcannon, if_neg e]
      exact ⟨fun _ => rfl, fun _ => rfl, sameButSending_refl _⟩

/-- A step's end at one port, as the record of the other port's end reads it. -/
theorem State.FieldSent.ports {s u : State} (h : s.FieldSent u) :
    u.controlPort = s.controlPort ∧ u.replies = s.replies ∧ u.notices = s.notices := by
  rw [h.state]; exact ⟨rfl, rfl, rfl⟩

/-- Settles O21: the field port's end of the step, and then the control port's on what it left. -/
theorem transmissionTakesOnlyFromQueues : Obligations.TransmissionTakesOnlyFromQueues := by
  intro s
  have hfield := fieldSent_transmit s
  have hbusy : s.fieldPort.sending.isSome → transmit .field s = s := fun h => transmit_of_busy (p := .field) h
  have hstill : (transmit .field s).controlPort.sending.isSome → transmit .control (transmit .field s) = transmit .field s :=
    fun h => transmit_of_busy (p := .control) h
  have hcontrol := controlSent_transmit (transmit .field s)
  rw [transmitBoth]
  generalize transmit .field s = u at hfield hbusy hstill hcontrol
  generalize transmit .control u = t at hstill hcontrol
  obtain ⟨hports, hreplies, hnotices⟩ := hfield.ports
  have hport := hcontrol.port
  have hqueue := hcontrol.queue
  rw [hports, hreplies, hnotices] at hqueue
  rw [hports] at hport hstill
  have hleft : t.cannons = u.cannons ∧ t.commands = u.commands ∧ t.fieldPort = u.fieldPort := by
    rw [hcontrol.state]; exact ⟨rfl, rfl, rfl⟩
  obtain ⟨hcannons, hcommands, hfieldPort⟩ := hleft
  have hcannon (c : CannonId) : t.cannon c = u.cannon c := congrArg (fun v : Vector Cannon 48 => v[c]) hcannons
  refine ⟨by rw [hcontrol.state, hfield.state]; constructor <;> rfl, by rw [hcontrol.state, hfield.state],
    by rw [hcontrol.state, hfield.state], by rw [hcontrol.state, hfield.state], by rw [hcontrol.state, hfield.state],
    by rw [hcontrol.state, hfield.state], by rw [hcontrol.state, hfield.state], by rw [hcontrol.state, hfield.state],
    fun c hc => (hcannon c).trans ((hfield.cannons c).1 hc), fun c hc => (hcannon c).trans ((hfield.cannons c).2.1 hc),
    fun c => by rw [hcannon]; exact (hfield.cannons c).2.2, ?_, hqueue, fun h => ?_, fun h => ?_, fun p => ?_⟩
  · rw [hcommands, hcannons, hfieldPort]
    obtain ⟨hq, hc⟩ | ⟨hnone, hq, -⟩ | ⟨q, rest, hmapped, hq, -, hb⟩ := hfield.queue
    · exact .inl ⟨hq, hc⟩
    · refine .inr ⟨hq.trans (congrArg List.tail hnone).symm, fun hne => absurd hnone hne⟩
    · exact .inr ⟨hq.trans (congrArg List.tail hmapped).symm, fun _ => hb⟩
  · rw [hcommands, hcannons, hbusy h]; exact ⟨rfl, rfl⟩
  · rw [hstill h]; exact ⟨hreplies, hnotices⟩
  · cases p with
    | control =>
      exact ⟨hport.flags, hport.up, hport.liveness, hport.buffer, fun h => (congrArg State.controlPort (hstill h)).trans hports⟩
    | field =>
      have hsent := hfield.port
      rw [← hfieldPort] at hsent
      exact ⟨hsent.flags, hsent.up, hsent.liveness, hsent.buffer, fun h => hfieldPort.trans (congrArg State.fieldPort (hbusy h))⟩

/-! ## The frame of a queued command (R79, R80, R105, R193) -/

/-- The end of a sending at the field port, where a mapped command is at the head and has its turn (R105, R158, R159). -/
theorem exec_endOfSending_field {s : State} (ho : s.operating) (hs : s.fieldPort.sending.isSome) {q : Command}
    {rest : List Command} {node : Byte} (hq : s.commands = q :: rest) (hn : s.nodeOf (.valve q.cannon) = some node)
    (ht : s.fieldPort.turn = .forward ∨ s.fieldPort.buffer = []) :
    exec (.endOfSending .field) s = .next
      { s with
        commands := rest, cannons := updAt s.cannons q.cannon (s.sentBy q)
        fieldPort := { s.fieldPort with turn := .insertion, sending := some (s.commandFrame q node) } } := by
  have hwaits : s.insertionWaits .field = true := by simp [State.insertionWaits, hq]
  have hwired : s.wired q.cannon = true := by
    rw [State.wired, ← nodeOf_isSome, hn]; rfl
  have hmapped : (s.lineFree .field).commands.dropWhile (fun x => !(s.lineFree .field).wired x.cannon) = q :: rest := by
    show s.commands.dropWhile (fun x => !s.wired x.cannon) = q :: rest
    rw [hq, List.dropWhile_cons_of_neg (by simp [hwired])]
  have hnode : (s.lineFree .field).nodeOf (.valve q.cannon) = some node := hn
  rw [exec_endOfSending .field s ho hs, decideNext_insertion .field (s.lineFree .field) hwaits ht]
  refine congrArg _ ?_
  show sendCommand (s.lineFree .field) = _
  unfold sendCommand
  rw [hmapped]
  dsimp only
  rw [hnode]
  dsimp only
  rw [commandSent_eq]
  rfl

/-- The aim of an OPEN (R79, R80). -/
theorem aimOf_eq (s : State) (c : CannonId) (b : Burst) :
    s.aimOf c b =
      (if b.grantClass = .auto then ((s.patternOf c).azStart + (s.cannon c).column * (s.patternOf c).azStep) % 360 else b.azimuth,
       if b.grantClass = .auto then min 60 ((s.patternOf c).elStart + (s.cannon c).row * (s.patternOf c).elStep)
        else b.elevation) := by
  unfold State.aimOf
  cases b.grantClass <;> rfl

/-- The sweep's next aim, column first (R79). -/
theorem advance_eq (p : Pattern) (column row : Nat) :
    p.advance column row =
      (if column + 1 < p.cols then column + 1 else 0,
       if p.cols ≤ column + 1 then (if row + 1 < p.rows then row + 1 else 0) else row) := by
  unfold Pattern.advance
  by_cases h : column + 1 < p.cols
  · simp only [if_pos h, if_neg (Nat.not_le.mpr h)]
  · simp only [if_neg h, if_pos (Nat.not_lt.mp h)]

/-- The record that the sending of an OPEN leaves of a cannon with a burst (R79, R105). -/
theorem openSentBy_eq {k : Cannon} {b : Burst} (hb : k.burst = some b) (p : Pattern) (ack : Nat) :
    k.openSentBy p ack = { k with
      openMark := true, ackTimer := some ack, burst := some { b with openSent := true }
      column := if b.grantClass = .auto then (if k.column + 1 < p.cols then k.column + 1 else 0) else k.column
      row := if b.grantClass = .auto ∧ p.cols ≤ k.column + 1 then (if k.row + 1 < p.rows then k.row + 1 else 0) else k.row } := by
  unfold Cannon.openSentBy
  rw [hb]
  dsimp only [Option.any_some, Option.map_some]
  by_cases ha : b.grantClass = .auto
  · simp only [ha, decide_true, if_true, advance_eq, true_and]
  · simp only [ha, decide_false, Bool.false_eq_true, if_false, false_and]

/-- The payload of an OPEN (R193). -/
theorem commandPayload_open (duration priority : Nat) (cls : BurstClass) (azimuth elevation : Nat) :
    commandPayload .openValve duration priority (decide (cls = .fire)) azimuth elevation =
      [1] ++ be16 duration ++ [byte priority, if cls = .fire then 1 else 0] ++ be16 azimuth ++ [byte elevation] := by
  cases cls <;> rfl

/-- Settles O19: the command at the head is sent to its node, a CLOSE with every field 0, an OPEN as its burst's record says. -/
theorem sentCommandFrame : Obligations.SentCommandFrame := by
  intro s c v rest node ho _ hs hq hn ht
  have hsent := exec_endOfSending_field ho hs hq hn ht
  refine ⟨fun hv => ?_, fun b hv hb => ?_⟩
  · subst hv
    rw [hsent]
    rfl
  · subst hv
    have hframe : s.commandFrame { cannon := c, verb := .openValve } node =
        buildFrame node s.ownId kindCommand (commandPayload .openValve b.duration b.priority (decide (b.cls = .fire))
          (s.aimOf c b).1 (s.aimOf c b).2) := by
      simp only [State.commandFrame, hb]
    have hcannon := openSentBy_eq hb (s.patternOf c) s.settings.ackTime
    have hcannons := updAt_congr s.cannons c (f := s.sentBy { cannon := c, verb := .openValve }) (g := fun k => { k with
      openMark := true, ackTimer := some s.settings.ackTime, burst := some { b with openSent := true }
      column := if b.grantClass = .auto then (if k.column + 1 < (s.patternOf c).cols then k.column + 1 else 0) else k.column
      row := if b.grantClass = .auto ∧ (s.patternOf c).cols ≤ k.column + 1 then
          (if k.row + 1 < (s.patternOf c).rows then k.row + 1 else 0) else k.row }) hcannon
    rw [hsent, hframe, commandPayload_open, aimOf_eq]
    dsimp only
    rw [hcannons]
    rfl

end Sys2Proof.Machine
end

section
namespace Sys2Proof.Machine

/-! ## Mode changes as statements write them out (R67, R75, R89, R101, R114, R177) -/

theorem changedState_away (k : CannonState) {m : CannonMode} (hm : m ≠ .automatic) :
    changedState k m = if m = .bypass then .bypassClosed else .retired := by
  cases m with
  | automatic => exact absurd rfl hm
  | bypass | outOfService => rfl

/-- A confirming CLOSE is for an IDLE cannon alone (R114). -/
theorem confirmingClose_of_not_idle {c : CannonId} {s : State} (h : (s.cannon c).state ≠ .idle) : confirmingClose c s = s :=
  if_neg fun hc => h hc.1

/-- The close of R177 is for an UNKNOWN cannon alone. -/
theorem closeUnknown_of_known {c : CannonId} {s : State} (h : (s.cannon c).state ≠ .unknown) : closeUnknown c s = s :=
  if_neg fun hc => h hc.2.2.1

/-- The effects of a mode change, the mode already written, are the state that R67 and the rules it brings in give. -/
theorem takeMode_eq {was m : CannonMode} (hne : was ≠ m) {c : CannonId} {s : State} (hentry : (s.cannonEntry c).mode = m) :
    takeMode was m c s = s.modeTaken c was m := by
  have hheld (f : Cannon → Cannon) : updAt s.cannons c f = updAt s.cannons c fun _ => f (s.cannon c) := updAt_congr _ _ rfl
  unfold State.modeTaken
  by_cases hwas : was = .automatic
  · subst hwas
    rw [takeMode_leaving, hheld, changedState_away _ hne.symm, if_pos rfl]
  rw [if_neg hwas]
  by_cases hm : m = .automatic
  · subst hm
    have hself (f : Cannon → Cannon) : (s.updCannon c f).cannon c = f (s.cannon c) := State.cannon_updCannon_self _ _ _
    rw [takeMode_entering hwas, if_neg (not_not.mpr rfl)]
    by_cases hclosed : (s.cannon c).state = .bypassClosed
    · have hidle : changedState (s.cannon c).state .automatic = .idle := if_pos hclosed
      have hstate : ((confirmingClose c (s.updCannon c fun k =>
          { k with state := changedState k.state .automatic, request := none, owed := 0 })).cannon c).state = .idle := by
        rw [confirmingClose_eq]; exact (congrArg Cannon.state (hself _)).trans hidle
      rw [if_pos hclosed, closeUnknown_of_known (by rw [hstate]; decide), confirmingClose_eq, hself]
      simp only [State.updCannon, hheld, hidle, true_and]
      rfl
    · have hunknown : changedState (s.cannon c).state .automatic = .unknown := if_neg hclosed
      have hstate : ((s.updCannon c fun k =>
          { k with state := changedState k.state .automatic, request := none, owed := 0 }).cannon c).state = .unknown :=
        (congrArg Cannon.state (hself _)).trans hunknown
      have hmode : ((s.updCannon c fun k =>
          { k with state := changedState k.state .automatic, request := none, owed := 0 }).cannonEntry c).mode = .automatic := hentry
      rw [if_neg hclosed, confirmingClose_of_not_idle (by rw [hstate]; decide)]
      unfold closeUnknown
      rw [closeWithoutBurst_eq c _ (.inl hstate), hstate, hmode]
      simp only [State.updCannon, hheld, hunknown, true_and]
      rfl
  · rw [takeMode_outside hwas hm, if_pos hm, State.updCannon, hheld, changedState_away _ hm]

/-- A mode change writes no other record, and queues nothing but a CLOSE. -/
theorem modeTaken_frame (t : State) (c : CannonId) (was m : CannonMode) :
    ∃ cannons stations commands, t.modeTaken c was m =
      { t with cannons := cannons, stations := stations, commands := commands } ∧
      ∀ q ∈ commands, q ∈ t.commands ∨ q.verb = .closeValve := by
  have hkeep : ∀ q ∈ t.commands, q ∈ t.commands ∨ q.verb = .closeValve := fun _ h => .inl h
  have hjoin : ∀ q ∈ t.commands ++ [{ cannon := c, verb := .closeValve }], q ∈ t.commands ∨ q.verb = .closeValve := fun q h => by
    obtain h | h := List.mem_append.mp h
    · exact .inl h
    · rw [List.mem_singleton.mp h]; exact .inr rfl
  unfold State.modeTaken State.closeArisen
  dsimp only
  split
  · exact ⟨_, _, _, rfl, hkeep⟩
  split
  · exact ⟨_, _, _, rfl, hkeep⟩
  split
  · refine ⟨_, t.stations, _, rfl, ?_⟩
    split
    · exact hjoin
    · exact hkeep
  split
  · split
    · refine ⟨_, _, _, rfl, ?_⟩
      split
      · exact hkeep
      · exact hjoin
    · split
      · exact ⟨_, _, _, rfl, hkeep⟩
      · exact ⟨_, _, _, rfl, hkeep⟩
  · exact ⟨_, _, _, rfl, hkeep⟩

/-- A close that arises does not read the replies (R89). -/
theorem closeArisen_replies (t : State) (r : List Reply) (c : CannonId) :
    { t with replies := r }.closeArisen c = { t.closeArisen c with replies := r } := by
  have hadmits : { t with replies := r }.Admits c ↔ t.Admits c := Iff.rfl
  have hwaits : { t with replies := r }.closeWaiting c = t.closeWaiting c := rfl
  unfold State.closeArisen
  simp only [hadmits, hwaits]
  split
  · rfl
  · split <;> rfl

/-- A mode change does not read the replies. -/
theorem modeTaken_replies (t : State) (r : List Reply) (c : CannonId) (was m : CannonMode) :
    { t with replies := r }.modeTaken c was m = { t.modeTaken c was m with replies := r } := by
  have hcannon : { t with replies := r }.cannon c = t.cannon c := rfl
  unfold State.modeTaken
  dsimp only
  rw [hcannon]
  by_cases hwas : was = .automatic
  · rw [if_pos hwas, if_pos hwas]
  rw [if_neg hwas, if_neg hwas]
  by_cases hm : m = .automatic
  · rw [if_neg (not_not.mpr hm), if_neg (not_not.mpr hm)]
    by_cases hclosed : (t.cannon c).state = .bypassClosed
    · rw [if_pos hclosed, if_pos hclosed]; rfl
    rw [if_neg hclosed, if_neg hclosed]
    by_cases hsweep : t.mode ≠ .off ∧ t.wired c = true
    · rw [if_pos hsweep]
      exact (if_pos hsweep).trans (closeArisen_replies { t with cannons := updAt t.cannons c fun _ =>
        { t.cannon c with state := .unknown, request := none, owed := 0 } } r c)
    · rw [if_neg hsweep]
      exact if_neg hsweep
  · rw [if_pos hm, if_pos hm]

/-- A close that arises leaves its cannon waiting or takes it to CLOSING (R89). -/
theorem closeArisen_cannon (t : State) (c : CannonId) :
    (t.closeArisen c).cannon c = t.cannon c ∨
    (t.closeArisen c).cannon c = { t.cannon c with state := .closing, faultPending := decide ((t.cannon c).state = .fault) } := by
  unfold State.closeArisen
  split
  · exact .inr (updAt_get_self _ _ _)
  · split <;> exact .inl rfl

/-- What a mode change leaves of its cannon (R67, R75). -/
structure Cannon.Remoded (k k' : Cannon) (was m : CannonMode) (arises : Prop) : Prop where
  state : k'.state = changedState k.state m ∨ (changedState k.state m = .unknown ∧ arises ∧ k'.state = .closing)
  request : was = .automatic ∨ m = .automatic → k'.request = none ∧ k'.owed = 0
  hold : was = .automatic → k'.holdTimer = none
  aim : k'.target = k.target ∧ k'.column = k.column ∧ k'.row = k.row

theorem modeTaken_cannon {was m : CannonMode} (hne : was ≠ m) (t : State) (c : CannonId) :
    (t.cannon c).Remoded ((t.modeTaken c was m).cannon c) was m (t.mode ≠ .off ∧ t.wired c) := by
  have hself (k : Cannon) : (updAt t.cannons c fun _ => k)[c] = k := updAt_get_self _ _ _
  unfold State.modeTaken
  dsimp only
  split
  · next hwas =>
    subst hwas
    refine (congrArg (fun k => Cannon.Remoded (t.cannon c) k _ _ _) (hself _)).mpr
      ⟨.inl (changedState_away _ hne.symm).symm, fun _ => ⟨rfl, rfl⟩, fun _ => rfl, rfl, rfl, rfl⟩
  next hwas =>
  split
  · next hm =>
    exact (congrArg (fun k => Cannon.Remoded (t.cannon c) k _ _ _) (hself _)).mpr
      ⟨.inl (changedState_away _ hm).symm, fun h => absurd h (not_or.mpr ⟨hwas, hm⟩), fun h => absurd h hwas, rfl, rfl, rfl⟩
  next hm =>
  obtain rfl := not_not.mp hm
  split
  · next hclosed =>
    exact (congrArg (fun k => Cannon.Remoded (t.cannon c) k _ _ _) (hself _)).mpr
      ⟨.inl (if_pos hclosed).symm, fun _ => ⟨rfl, rfl⟩, fun h => absurd h hwas, rfl, rfl, rfl⟩
  next hopen =>
  have hunknown : changedState (t.cannon c).state .automatic = .unknown := if_neg hopen
  have hheld := hself { t.cannon c with state := .unknown, request := none, owed := 0 }
  have hstays := (congrArg (fun k => Cannon.Remoded (t.cannon c) k was .automatic (t.mode ≠ .off ∧ t.wired c)) hheld).mpr
      ⟨.inl hunknown.symm, fun _ => ⟨rfl, rfl⟩, fun h => absurd h hwas, rfl, rfl, rfl⟩
  split
  · next hsweep =>
    have hclose := closeArisen_cannon { t with cannons := updAt t.cannons c fun _ =>
      { t.cannon c with state := .unknown, request := none, owed := 0 } } c
    rw [show State.cannon { t with cannons := updAt t.cannons c fun _ =>
      { t.cannon c with state := .unknown, request := none, owed := 0 } } c = _ from hheld] at hclose
    obtain hkept | hclosing := hclose
    · exact (congrArg (fun k => Cannon.Remoded (t.cannon c) k _ _ _) hkept).mpr
        ⟨.inl hunknown.symm, fun _ => ⟨rfl, rfl⟩, fun h => absurd h hwas, rfl, rfl, rfl⟩
    · exact (congrArg (fun k => Cannon.Remoded (t.cannon c) k _ _ _) hclosing).mpr
        ⟨.inr ⟨hunknown, hsweep, rfl⟩, fun _ => ⟨rfl, rfl⟩, fun h => absurd h hwas, rfl, rfl, rfl⟩
  · exact hstays

end Sys2Proof.Machine
end

section
namespace Sys2Proof.Machine

/-! ## SET-CANNON-MODE (R67) -/

/-- A cannon number and a mode code are judged from their bytes (R67; log entry 31). -/
theorem exec_setCannonMode (s : State) (source tag cb mb : Byte) (rest : List MgmtRequest) (hsave : s.saving = none)
    (ht : s.Takes source [7, tag, cb, mb] rest) {u : State} {status : Status}
    (hwork : setModeAnswer { source := source, payload := [7, tag, cb, mb] } { s with requests := rest } =
      answered (u, status, [])) (hdue : u.dueCapacity = []) :
    exec .setCannonMode s = .next (transmitBoth
      { u with replies := u.replies ++ [{ dest := source, code := 7, tag := tag, status := status, body := [] }] }) := by
  have hdone : takeRequest .setCannonMode setModeAnswer s =
      { u with replies := u.replies ++ [{ dest := source, code := 7, tag := tag, status := status, body := [] }] } := by
    rw [takeRequest_passed .setCannonMode setModeAnswer s source 7 tag [cb, mb] rest ht rfl rfl (by rw [hsave]; rfl), hwork]
    rfl
  have hstep : exec .setCannonMode s = .next (stepOf (takeRequest .setCannonMode setModeAnswer) s) := rfl
  rw [hstep, stepOf_of_settled _ s (operating_of_running s ht.1) (by rw [hdone]; exact hdue), hdone]

/-- The answer of SET-CANNON-MODE, by its cannon number and its mode code (R67). -/
theorem setModeAnswer_eq (source tag cb mb : Byte) (s : State) :
    setModeAnswer { source := source, payload := [7, tag, cb, mb] } s =
      match below 48 cb.toNat, CannonMode.ofCode mb.toNat with
      | none, _ => answered (s, .badIndex, [])
      | some _, none => answered (s, .badValue, [])
      | some c, some m => answered ((setMode c m s).1, (setMode c m s).2, []) := by
  unfold setModeAnswer
  rfl

theorem cannonModeOfCode_none {n : Nat} (h : 2 < n) : CannonMode.ofCode n = none := by
  match n, h with
  | n + 3, _ => rfl

theorem cannonModeOfCode_code (m : CannonMode) : CannonMode.ofCode m.code = some m := by
  cases m <;> rfl

theorem blocksMode_iff (k : CannonState) :
    k.blocksMode = true ↔ k = .opening ∨ k = .spraying ∨ k = .closing ∨ k = .stuck ∨ k = .bypassOpen := by
  cases k <;> decide

/-- SET-CANNON-MODE by what it asks (R67). -/
theorem setMode_eq (c : CannonId) (m : CannonMode) (s : State) :
    setMode c m s =
      if (s.cannonEntry c).mode = m then (s, .done)
      else if (s.cannon c).state.blocksMode then (s, .inUse)
      else (State.modeTaken (writeMode c m s) c (s.cannonEntry c).mode m, .done) := by
  unfold setMode
  dsimp only
  by_cases hsame : (s.cannonEntry c).mode = m
  · rw [if_pos hsame, if_pos hsame]
  · have hwritten : ((writeMode c m s).cannonEntry c).mode = m :=
      congrArg CannonEntry.mode (updAt_get_self s.cfg.cannons c _)
    rw [if_neg hsame, if_neg hsame, takeMode_eq hsame hwritten]

/-- At the end of a step at which no OPEN can be sent, no aim moves (R79). -/
theorem aim_transmitBoth {u : State} (h : u.fieldPort.sending = none → ∀ q ∈ u.commands, q.verb = .closeValve) (c : CannonId) :
    ((transmitBoth u).cannon c).column = (u.cannon c).column ∧ ((transmitBoth u).cannon c).row = (u.cannon c).row := by
  have hfield := fieldSent_transmit u
  have hbusy : u.fieldPort.sending.isSome → transmit .field u = u := fun h => transmit_of_busy (p := .field) h
  have hcontrol := controlSent_transmit (transmit .field u)
  have hcannon : (transmitBoth u).cannon c = (transmit .field u).cannon c := by
    rw [transmitBoth, hcontrol.state]; rfl
  rw [hcannon]
  cases hs : u.fieldPort.sending with
  | some f => rw [hbusy (by rw [hs]; rfl)]; exact ⟨rfl, rfl⟩
  | none =>
    have hsame (hc : (transmit .field u).cannons = u.cannons) : (transmit .field u).cannon c = u.cannon c :=
      congrArg (fun v : Vector Cannon 48 => v[c]) hc
    obtain ⟨-, hc⟩ | ⟨-, -, hc⟩ | ⟨q, rest, hmapped, -, hc, -⟩ := hfield.queue
    · rw [hsame hc]; exact ⟨rfl, rfl⟩
    · rw [hsame hc]; exact ⟨rfl, rfl⟩
    · have hclose : q.verb = .closeValve := h hs q ((List.dropWhile_sublist _).subset (hmapped ▸ List.mem_cons_self))
      have hsent : (transmit .field u).cannon c = if c = q.cannon then u.sentBy q (u.cannon q.cannon) else u.cannon c :=
        (congrArg (fun v : Vector Cannon 48 => v[c]) hc).trans (updAt_get _ _ _ _)
      rw [hsent]
      split
      · next e =>
        subst e
        simp only [State.sentBy, hclose]
        exact ⟨rfl, rfl⟩
      · exact ⟨rfl, rfl⟩

/-- At rest an idle field port has no command queued (R158). -/
theorem commands_of_rested {s : State} (ho : s.operating) (hr : s.Rested) (hidle : s.fieldPort.sending = none) :
    s.commands = [] := by
  have hfield := (hr.2 ho .field (by simp) (by simp [State.idlePort, State.port, hidle])).2
  simpa [State.insertionWaits] using hfield

/-- What a taken mode change leaves when its step has ended (R67). -/
theorem transmitBoth_modeTaken {s t : State} {c : CannonId} {was m : CannonMode} (hne : was ≠ m) (ho : s.operating)
    (hr : s.Rested) (hfield : t.fieldPort = s.fieldPort) (hcommands : t.commands = s.commands) :
    let u := transmitBoth (t.modeTaken c was m)
    (t.cannon c).Remoded (u.cannon c) was m (t.mode ≠ .off ∧ t.wired c) ∧ t.SameRecords u ∧ u.zones = t.zones ∧
    u.mode = t.mode ∧ u.requests = t.requests := by
  intro u
  obtain ⟨cannons, stations, commands, hstate, hclose⟩ := modeTaken_frame t c was m
  obtain ⟨hsame, hzones, -, -, hmode, -, hrequests, -, -, -, hsending, -⟩ := transmissionTakesOnlyFromQueues (t.modeTaken c was m)
  have hremoded := modeTaken_cannon hne t c
  have haim := aim_transmitBoth (u := t.modeTaken c was m) (fun hidle q hq => ?_) c
  · refine ⟨?_, ?_, hzones.trans ?_, hmode.trans ?_, hrequests.trans ?_⟩
    · have hkept := hsending c
      exact ⟨by rw [hkept.state]; exact hremoded.state,
        fun h => by rw [hkept.request, hkept.owed]; exact hremoded.request h,
        fun h => hkept.holdTimer.trans (hremoded.hold h),
        hkept.target.trans hremoded.aim.1, haim.1.trans hremoded.aim.2.1, haim.2.trans hremoded.aim.2.2⟩
    · have htaken : t.SameRecords (t.modeTaken c was m) := by rw [hstate]; constructor <;> rfl
      exact htaken.trans hsame
    · rw [hstate]
    · rw [hstate]
    · rw [hstate]
  · rw [hstate] at hidle hq
    obtain hq | hq := hclose q hq
    · rw [hcommands, commands_of_rested ho hr (hfield ▸ hidle)] at hq
      cases hq
    · exact hq

/-- Settles O43: the answer by the cannon and the mode asked, and what the change leaves through the end of the step. -/
theorem setCannonModeTakesState : Obligations.SetCannonModeTakesState := by
  intro s source tag cb mb rest hsave ht
  have hrun {u : State} {status : Status} := exec_setCannonMode s source tag cb mb rest hsave ht (u := u) (status := status)
  have hdue : s.dueCapacity = [] := ht.2.1.1
  have ho := operating_of_running s ht.1
  refine ⟨fun hbig => ?_, fun hsmall hbig => ?_, fun c m hc hm => ?_⟩
  · refine hrun (u := { s with requests := rest }) ?_ hdue
    rw [setModeAnswer_eq, below_of_not_lt (by omega)]
  · refine hrun (u := { s with requests := rest }) ?_ hdue
    rw [setModeAnswer_eq, below_of_lt (by omega), cannonModeOfCode_none hbig]
  · have hcannon : below 48 cb.toNat = some c := by rw [← hc, below_of_lt c.isLt]
    have hanswer : setModeAnswer { source := source, payload := [7, tag, cb, mb] } { s with requests := rest } =
        answered ((setMode c m { s with requests := rest }).1, (setMode c m { s with requests := rest }).2, []) := by
      rw [setModeAnswer_eq, hcannon, ← hm, cannonModeOfCode_code]
    rw [setMode_eq] at hanswer
    refine ⟨fun hsame => ?_, fun hdiff hblocked => ?_, fun hdiff hfree => ?_⟩
    · refine hrun (u := { s with requests := rest }) ?_ hdue
      rw [hanswer]
      exact congrArg (fun r : State × Status => answered (r.1, r.2, [])) (if_pos hsame)
    · refine hrun (u := { s with requests := rest }) ?_ hdue
      rw [hanswer]
      exact congrArg (fun r : State × Status => answered (r.1, r.2, []))
        ((if_neg hdiff).trans (if_pos ((blocksMode_iff _).mpr hblocked)))
    · have hframe := modeTaken_frame (writeMode c m { s with requests := rest }) c (s.cannonEntry c).mode m
      have htaken := hrun (u := (writeMode c m { s with requests := rest }).modeTaken c (s.cannonEntry c).mode m)
        (status := .done) (hanswer.trans (congrArg (fun r : State × Status => answered (r.1, r.2, []))
          ((if_neg hdiff).trans (if_neg fun h => hfree ((blocksMode_iff _).mp h)))))
      have hreplied := modeTaken_replies (writeMode c m { s with requests := rest })
        (s.replies ++ [{ dest := source, code := 7, tag := tag, status := .done, body := [] }]) c (s.cannonEntry c).mode m
      obtain ⟨cannons, stations, commands, hstate, -⟩ := hframe
      have hended := transmitBoth_modeTaken (c := c) hdiff ho ht.2.1 (t := { s.replied rest source 7 tag .done [] with
        cfg := { s.cfg with cannons := updAt s.cfg.cannons c fun e => { e with mode := m } } }) rfl rfl
      obtain ⟨hremoded, hrecords, hzones, hmode, hrequests⟩ := hended
      refine ⟨_, (htaken ?_).trans ?_, hrecords.cfg, ?_, hremoded.request, hremoded.hold, hremoded.aim.1, hremoded.aim.2.1,
        hremoded.aim.2.2, hzones, hmode, hrecords.masts, hrequests, rfl⟩
      · rw [hstate]; exact hdue
      · refine congrArg (fun u : State => Host.Outcome.next (transmitBoth u)) (Eq.trans ?_ hreplied.symm)
        rw [hstate]
        rfl
      · have hstate := hremoded.state.imp_right fun ⟨hunknown, ⟨hon, hwired⟩, hclosing⟩ =>
          And.intro hunknown (And.intro hon (And.intro hwired hclosing))
        cases m <;> exact hstate

end Sys2Proof.Machine
end

section
namespace Sys2Proof.Machine

/-! ## A WRITE-ENTRIES of one entry, by its two-byte entry number (R184, R194) -/

/-- The work of a WRITE-ENTRIES of one entry of a table other than the node map: written or refused (R184). -/
theorem writeWork_single {table n : Nat} (one : Nat → List Byte → State → Taken) (t hi lo : Byte) (bytes : List Byte)
    (s : State) (hnode : table ≠ 1) (hn : nat16 hi lo = n) (hin : inTable table n = true)
    (hsize : bytes.length = entrySize table) :
    (∀ u, one n bytes s = .ok u →
      writeWork table one (t :: hi :: lo :: 1 :: bytes) s = (settle u, .done, [1, 255, 255, 0])) ∧
    ∀ why, one n bytes s = .error why →
      writeWork table one (t :: hi :: lo :: 1 :: bytes) s = (s, .partialDone, writeBody 0 n why.code) := by
  have hfirst : u16 (t :: hi :: lo :: 1 :: bytes) 1 = n := hn
  have hcount : u8 (t :: hi :: lo :: 1 :: bytes) 3 = 1 := rfl
  have hrest : (t :: hi :: lo :: 1 :: bytes).drop 4 = bytes := rfl
  have hwhole : bytes.take (entrySize table) = bytes := by rw [← hsize, List.take_length]
  have hmode : ¬ (table = 1 ∧ (s.mode = .run ∨ s.mode = .watch)) := fun h => hnode h.1
  have hbody : writeBody (0 + 1) 65535 0 = [1, 255, 255, 0] := by decide
  refine ⟨fun u h => ?_, fun why h => ?_⟩
  · have hloop := writeLoop_one_taken (entrySize table) n 0 one bytes s u (by rw [hwhole]; exact h)
    simp only [writeWork, hfirst, hcount, hrest, hin, hloop, hmode, hbody, Nat.one_ne_zero, if_false, Bool.not_true,
      Bool.false_eq_true]
  · have hloop := writeLoop_refused (entrySize table) 0 n 0 one bytes s why (by rw [hwhole]; exact h)
    simp only [writeWork, hfirst, hcount, hrest, hin, hloop, hmode, Nat.one_ne_zero, if_false, Bool.not_true,
      Bool.false_eq_true]

section
variable {s : State} {source tag t hi lo : Byte} {rest : List MgmtRequest} {bytes : List Byte} {row : Instr} {n : Nat}
  {one : Nat → List Byte → State → Taken}

/-- What a WRITE-ENTRIES that passes its checks answers is what its work gives. -/
theorem takeRequest_single (hsave : s.saving = none) (ht : s.Takes source (3 :: tag :: t :: hi :: lo :: 1 :: bytes) rest)
    (hrow : rowOf (3 :: tag :: t :: hi :: lo :: 1 :: bytes) = some row)
    (hwidth : bytes.length = entryWidths.getD (t.toNat - 1) 0) {u : State} {status : Status} {body : List Byte}
    (hwork : writeWork t.toNat one (t :: hi :: lo :: 1 :: bytes) { s with requests := rest } = (u, status, body)) :
    takeRequest row (writeAnswer t.toNat one) s =
      { u with replies := u.replies ++ [{ dest := source, code := 3, tag := tag, status := status, body := body }] } := by
  have hagrees : bodyAgrees 3 (t :: hi :: lo :: 1 :: bytes) = decide (4 ≤ bytes.length + 4 ∧ (t.toNat = 0 ∨
      10 < t.toNat ∨ bytes.length + 4 = 4 + 1 * entryWidths.getD (t.toNat - 1) 0)) := rfl
  have hlength : bodyAgrees 3 (t :: hi :: lo :: 1 :: bytes) = true := by
    rw [hagrees, decide_eq_true_iff]
    omega
  have hanswer : writeAnswer t.toNat one { source := source, payload := 3 :: tag :: t :: hi :: lo :: 1 :: bytes }
      { s with requests := rest } = answered (u, status, body) := congrArg answered hwork
  rw [takeRequest_passed row (writeAnswer t.toNat one) s source 3 tag (t :: hi :: lo :: 1 :: bytes) rest ht hrow hlength
    (by rw [hsave]; rfl), hanswer]
  rfl

/-- The step of a WRITE-ENTRIES of one entry that is written: its effect, the capacity events it brings, and the reply. -/
theorem stepOf_written (hsave : s.saving = none) (ht : s.Takes source (3 :: tag :: t :: hi :: lo :: 1 :: bytes) rest)
    (hrow : rowOf (3 :: tag :: t :: hi :: lo :: 1 :: bytes) = some row) (hnode : t.toNat ≠ 1) (hn : nat16 hi lo = n)
    (hin : inTable t.toNat n = true) (hwidth : bytes.length = entryWidths.getD (t.toNat - 1) 0)
    (hsize : bytes.length = entrySize t.toNat) {u : State} (hone : one n bytes { s with requests := rest } = .ok u) :
    stepOf (takeRequest row (writeAnswer t.toNat one)) s = transmitBoth ((settle u).repliedWritten source tag) := by
  have hwork := (writeWork_single one t hi lo bytes { s with requests := rest } hnode hn hin hsize).1 u hone
  have hdone := takeRequest_single hsave ht hrow hwidth hwork
  rw [stepOf_of_settled _ s (operating_of_running s ht.1) (by rw [hdone]; exact dueCapacity_settle u), hdone]
  rfl

/-- The step of a WRITE-ENTRIES of one entry that is refused: the reply alone. -/
theorem stepOf_refused (hsave : s.saving = none) (ht : s.Takes source (3 :: tag :: t :: hi :: lo :: 1 :: bytes) rest)
    (hrow : rowOf (3 :: tag :: t :: hi :: lo :: 1 :: bytes) = some row) (hnode : t.toNat ≠ 1) (hn : nat16 hi lo = n)
    (hin : inTable t.toNat n = true) (hwidth : bytes.length = entryWidths.getD (t.toNat - 1) 0)
    (hsize : bytes.length = entrySize t.toNat) {why : Status}
    (hone : one n bytes { s with requests := rest } = .error why) :
    stepOf (takeRequest row (writeAnswer t.toNat one)) s =
      transmitBoth (s.replied rest source 3 tag .partialDone (writeBody 0 n why.code)) := by
  have hwork := (writeWork_single one t hi lo bytes { s with requests := rest } hnode hn hin hsize).2 why hone
  have hdone := takeRequest_single hsave ht hrow hwidth hwork
  rw [stepOf_of_settled _ s (operating_of_running s ht.1) (by rw [hdone]; exact ht.2.1.1), hdone]
  rfl

end

/-! ## Reading back the entries of a cannon, a coverage and a pattern (R195) -/

/-- A cannon entry in range is read from the bytes that lay it out. -/
theorem readCannonEntry_bytes (e : CannonEntry) (h : e.ok = true) : readCannonEntry e.bytes = some e := by
  have hranges := of_decide_eq_true h
  have hmask := e.slotMask.isLt
  have h0 : CannonMode.ofCode (u8 e.bytes 0) = some e.mode := by
    have hcode : u8 e.bytes 0 = e.mode.code := u8_at _ 0 (by cases e.mode <;> decide) rfl
    rw [hcode, cannonModeOfCode_code]
  have h1 : below 4 (u8 e.bytes 1) = some e.station := below_byte (by decide) e.station
  have h2 : u16 e.bytes 2 = e.flow := u16_at _ 2 (by omega) rfl rfl
  have h4 : u8 e.bytes 4 = e.slotMask.toNat / 65536 := u8_at _ 4 (by omega) rfl
  have h5 : u16 e.bytes 5 = e.slotMask.toNat % 65536 := by
    have hlow : byte e.slotMask.toNat = byte (e.slotMask.toNat % 65536) := by
      refine BitVec.eq_of_toNat_eq ?_
      simp only [byte, BitVec.toNat_ofNat]
      omega
    have hhigh : byte (e.slotMask.toNat / 256) = byte (e.slotMask.toNat % 65536 / 256) := by
      refine BitVec.eq_of_toNat_eq ?_
      simp only [byte, BitVec.toNat_ofNat]
      omega
    exact u16_at _ 5 (by omega) hhigh hlow
  have hbits : below (2 ^ 20) (u8 e.bytes 4 * 65536 + u16 e.bytes 5) = some e.slotMask.toFin := by
    have hvalue : u8 e.bytes 4 * 65536 + u16 e.bytes 5 = e.slotMask.toNat := by rw [h4, h5]; omega
    rw [hvalue, below_of_lt hmask]
    rfl
  have h7 : below 8 (u8 e.bytes 7) = some e.refMast := below_byte (by decide) e.refMast
  have h8 : u16 e.bytes 8 = e.holdTime := u16_at _ 8 (by omega) rfl rfl
  simp only [readCannonEntry, h0, h1, h2, hbits, h7, h8, BitVec.ofFin_toFin, h, checked, if_true, Option.bind_eq_bind,
    Option.bind_some]

/-- A coverage entry in range is read from the bytes that lay it out. -/
theorem readCoverage_bytes (e : Coverage) (h : e.ok = true) : readCoverage e.bytes = some e := by
  have hranges := of_decide_eq_true h
  have h0 : belowOrNone 32 (u8 e.bytes 0) = some e.zone := belowOrNone_byte (by decide) e.zone
  have h1 : u8 e.bytes 1 = e.efficiency := u8_at _ 1 (by omega) rfl
  have h2 : below 8 (u8 e.bytes 2) = some e.pattern := below_byte (by decide) e.pattern
  have h3 : u16 e.bytes 3 = e.cutoff := u16_at _ 3 (by omega) rfl rfl
  simp only [readCoverage, h0, h1, h2, h3, h, checked, if_true, Option.bind_eq_bind, Option.bind_some]

/-- A pattern in range is read from the bytes that lay it out. -/
theorem readPattern_bytes (e : Pattern) (h : e.ok = true) : readPattern e.bytes = some e := by
  obtain ⟨h1, -, h2, -, h3, h4, h5, -, h6⟩ := of_decide_eq_true h
  have hread : ({ azStart := u16 e.bytes 0, azStep := u8 e.bytes 2, cols := u8 e.bytes 3, elStart := u8 e.bytes 4
                  elStep := u8 e.bytes 5, rows := u8 e.bytes 6 } : Pattern) = e := by
    rw [u16_at e.bytes 0 (n := e.azStart) (by omega) rfl rfl, u8_at e.bytes 2 (n := e.azStep) (by omega) rfl,
      u8_at e.bytes 3 (n := e.cols) (by omega) rfl, u8_at e.bytes 4 (n := e.elStart) (by omega) rfl,
      u8_at e.bytes 5 (n := e.elStep) (by omega) rfl, u8_at e.bytes 6 (n := e.rows) (by omega) rfl]
  unfold readPattern
  rw [hread]
  exact if_pos h

/-! ## One target derived again (R69 to R72) -/

theorem vector_ofFn_get {α : Type} {n : Nat} (f : Fin n → α) (i : Fin n) : (Vector.ofFn f)[i] = f i :=
  Vector.getElem_ofFn i.isLt

/-- The targets of the one cannon `c` derived again. -/
theorem retarget_eq (c : CannonId) (s : State) : retarget c s = s.rederived fun d => decide (d = c) := by
  refine congrArg (fun cannons => { s with cannons := cannons }) (vector_ext_fin fun d => ?_)
  rw [updAt_get, vector_ofFn_get]
  by_cases hd : d = c
  · subst hd
    rw [if_pos rfl, if_pos (decide_eq_true rfl), deriveTarget_eq_targetOf]
    have hasks : ((s.targetOf d).zone ≠ (s.cannon d).target.zone ∧ decide ((s.cannonEntry d).mode = .automatic) = true ∧
        (s.cannon d).holds .auto = true) ↔ ¬ ((s.targetOf d).zone = (s.cannon d).target.zone ∨
          (s.cannonEntry d).mode ≠ .automatic ∨ (s.cannon d).holds .auto = false) := by
      rw [decide_eq_true_iff, not_or, not_or, not_not, Bool.not_eq_false]
    by_cases hkept : (s.targetOf d).zone = (s.cannon d).target.zone ∨ (s.cannonEntry d).mode ≠ .automatic ∨
        (s.cannon d).holds .auto = false
    · refine (if_neg fun h => hasks.mp h hkept).trans ?_
      unfold State.retargeted
      by_cases hp : (s.targetOf d).pattern = (s.cannon d).target.pattern
      · simp only [if_pos hkept, if_pos hp]; exact if_neg (not_not.mpr hp)
      · simp only [if_pos hkept, if_neg hp]; exact if_pos hp
    · refine (if_pos (hasks.mpr hkept)).trans ?_
      unfold State.retargeted
      by_cases hp : (s.targetOf d).pattern = (s.cannon d).target.pattern
      · simp only [if_neg hkept, if_pos hp]
        exact congrArg (fun k : Cannon => { k with request := none, owed := 0 }) (if_neg (not_not.mpr hp))
      · simp only [if_neg hkept, if_neg hp]
        exact congrArg (fun k : Cannon => { k with request := none, owed := 0 }) (if_pos hp)
  · rw [if_neg hd, if_neg (by simpa using hd)]
    rfl

theorem closeAnyOrder_nil (s : State) : closeAnyOrder [] s = s := rfl

theorem closeAnyOrder_singleton (c : CannonId) (s : State) : closeAnyOrder [c] s = earlyClose c s := rfl

/-- Deriving one target again closes that cannon's burst where its zone is lost. -/
theorem deriveAgain_one (c : CannonId) (s : State) :
    deriveAgain [c] s =
      if s.Untargets c then earlyClose c (s.rederived fun d => decide (d = c))
      else s.rederived fun d => decide (d = c) := by
  have hlost : s.losesTarget c = true ↔ s.Untargets c := by
    rw [State.losesTarget, deriveTarget_eq_targetOf]
    simp only [Bool.and_eq_true, Option.isNone_iff_eq_none, and_assoc]
  have hderived : deriveAgain [c] s = closeAnyOrder ([c].filter s.losesTarget) (retarget c s) := rfl
  rw [hderived, retarget_eq]
  by_cases h : s.Untargets c
  · rw [if_pos h, List.filter_cons_of_pos (hlost.mpr h), List.filter_nil, closeAnyOrder_singleton]
  · rw [if_neg h, List.filter_cons_of_neg fun hl => h (hlost.mp hl), List.filter_nil, closeAnyOrder_nil]

end Sys2Proof.Machine
end

section
namespace Sys2Proof.Machine

/-! ## The cannon write (R64) -/

/-- The write of a cannon entry is refused IN-USE (R64). -/
abbrev State.CannonInUse (s : State) (c : CannonId) (e : CannonEntry) : Prop :=
  e ≠ s.cannonEntry c ∧ ((s.cannon c).state.holdsPlace ∨
    ((s.cannon c).state = .bypassOpen ∧ e.mode ≠ (s.cannonEntry c).mode))

/-- The state with the entry of cannon `c` written as `e`. -/
def State.withCannonEntry (s : State) (c : CannonId) (e : CannonEntry) : State :=
  { s with cfg := { s.cfg with cannons := updAt s.cfg.cannons c fun _ => e } }

/-- That state with the new mode taken (R67). -/
def State.withCannonMode (s : State) (c : CannonId) (e : CannonEntry) : State :=
  if e.mode = (s.cannonEntry c).mode then s.withCannonEntry c e
  else (s.withCannonEntry c e).modeTaken c (s.cannonEntry c).mode e.mode

/-- That state with the target of the new reference mast (R69 to R71). -/
def State.withCannonMast (s : State) (c : CannonId) (e : CannonEntry) : State :=
  if e.refMast = (s.cannonEntry c).refMast then s.withCannonMode c e
  else (s.withCannonMode c e).rederived fun d => decide (d = c)

theorem cannonEntry_withCannonEntry (s : State) (c : CannonId) (e : CannonEntry) :
    (s.withCannonEntry c e).cannonEntry c = e := updAt_get_self _ _ _

/-- A cannon in flight holds a place (R88). -/
theorem holdsPlace_of_inFlight {k : Cannon} (h : k.inFlight = true) : k.state.holdsPlace = true := by
  obtain h | h := of_decide_eq_true h <;> rw [h] <;> rfl

theorem changedState_not_flying (k : CannonState) (m : CannonMode) :
    ¬ (changedState k m = .opening ∨ changedState k m = .spraying) := by
  cases m with
  | automatic => unfold changedState; cases k <;> decide
  | bypass => simp [changedState]
  | outOfService => simp [changedState]

/-- The entry number of a cannon from its two bytes. -/
theorem nat16_byte {n : Nat} (h : n < 256) : nat16 0 (byte n) = n := by
  rw [nat16, byte_toNat h]
  exact Nat.zero_add _

/-- A mode change does not set its cannon in flight (R67). -/
theorem inFlight_withCannonMode {s : State} {c : CannonId} (e : CannonEntry) (h : (s.cannon c).state.holdsPlace = false) :
    ((s.withCannonMode c e).cannon c).inFlight = false := by
  have hidle : (s.cannon c).inFlight = false := Bool.eq_false_iff.mpr fun hf => by
    rw [holdsPlace_of_inFlight hf] at h; cases h
  unfold State.withCannonMode
  by_cases hm : e.mode = (s.cannonEntry c).mode
  · rw [if_pos hm]; exact hidle
  · rw [if_neg hm]
    have hstate := (modeTaken_cannon (Ne.symm hm) (s.withCannonEntry c e) c).state
    rw [Cannon.inFlight, decide_eq_false_iff_not]
    obtain hchanged | ⟨-, -, hclosing⟩ := hstate
    · rw [hchanged]
      exact changedState_not_flying _ _
    · rw [hclosing]; simp

/-- The effects of a cannon entry that is not refused, in the order of R64. -/
theorem writeCannonEntry_taken {s : State} {c : CannonId} {e : CannonEntry} (he : e.ok = true) (h : ¬ s.CannonInUse c e) :
    writeCannonEntry c e.bytes s = .ok (s.withCannonMast c e) := by
  unfold writeCannonEntry
  rw [readCannonEntry_bytes e he]
  dsimp only
  by_cases hsame : e = s.cannonEntry c
  · have hkept : s.withCannonEntry c e = s := by rw [State.withCannonEntry, updAt_id s.cfg.cannons c _ hsame]
    rw [if_pos hsame, State.withCannonMast, if_pos (congrArg CannonEntry.refMast hsame), State.withCannonMode,
      if_pos (congrArg CannonEntry.mode hsame), hkept]
  · have hplace : (s.cannon c).state.holdsPlace = false := Bool.eq_false_iff.mpr fun hp => h ⟨hsame, .inl hp⟩
    have hmoded : (if e.mode = (s.cannonEntry c).mode then s.withCannonEntry c e
        else takeMode (s.cannonEntry c).mode e.mode c (s.withCannonEntry c e)) = s.withCannonMode c e := by
      unfold State.withCannonMode
      by_cases hm : e.mode = (s.cannonEntry c).mode
      · rw [if_pos hm, if_pos hm]
      · rw [if_neg hm, if_neg hm, takeMode_eq (Ne.symm hm) (congrArg CannonEntry.mode (cannonEntry_withCannonEntry s c e))]
    have hkeeps : ¬ (s.withCannonMode c e).Untargets c := fun ⟨hflies, _⟩ =>
      Bool.false_ne_true ((inFlight_withCannonMode e hplace).symm.trans hflies)
    rw [if_neg hsame, if_neg (by rw [hplace]; decide), if_neg fun hb => h ⟨hsame, .inr hb⟩]
    refine congrArg Except.ok ?_
    have hderived : deriveAgain [c] (s.withCannonMode c e) = (s.withCannonMode c e).rederived fun d => decide (d = c) :=
      (deriveAgain_one _ _).trans (if_neg hkeeps)
    unfold State.withCannonMast
    rw [← hderived, ← hmoded]
    rfl

/-- A cannon entry refused IN-USE (R64). -/
theorem writeCannonEntry_inUse {s : State} {c : CannonId} {e : CannonEntry} (he : e.ok = true) (h : s.CannonInUse c e) :
    writeCannonEntry c e.bytes s = .error .inUse := by
  unfold writeCannonEntry
  rw [readCannonEntry_bytes e he]
  dsimp only
  rw [if_neg h.1]
  obtain hplace | hbypass := h.2
  · rw [if_pos hplace]
  · rw [if_pos hbypass]; exact ite_self _

/-- What the write leaves but the entry, its cannon, the close waiting lists and the CLOSE that arises. -/
theorem withCannonMast_frame (s : State) (c : CannonId) (e : CannonEntry) :
    ∃ cannons stations commands, s.withCannonMast c e =
      { s.withCannonEntry c e with cannons := cannons, stations := stations, commands := commands } := by
  obtain ⟨cannons, stations, commands, hm, -⟩ := modeTaken_frame (s.withCannonEntry c e) c (s.cannonEntry c).mode e.mode
  unfold State.withCannonMast State.withCannonMode
  split
  · split
    · exact ⟨_, _, _, rfl⟩
    · exact ⟨_, _, _, hm⟩
  · split
    · exact ⟨_, _, _, rfl⟩
    · rw [hm]; exact ⟨_, _, _, rfl⟩

/-- The effects of the write do not read the replies. -/
theorem withCannonMast_replies (s : State) (r : List Reply) (c : CannonId) (e : CannonEntry) :
    { s with replies := r }.withCannonMast c e = { s.withCannonMast c e with replies := r } := by
  have hentry : { s with replies := r }.cannonEntry c = s.cannonEntry c := rfl
  have hmode : { s with replies := r }.withCannonMode c e = { s.withCannonMode c e with replies := r } := by
    unfold State.withCannonMode
    rw [hentry]
    split
    · rfl
    · exact modeTaken_replies (s.withCannonEntry c e) r c _ _
  unfold State.withCannonMast
  rw [hentry, hmode]
  split <;> rfl

section
variable {s : State} {source tag : Byte} {rest : List MgmtRequest} {c : CannonId} {e : CannonEntry}

/-- The step of a cannon write that is not refused. -/
theorem exec_writeCannon_taken (hsave : s.saving = none)
    (ht : s.Takes source ([3, tag, 4, 0, byte c.val, 1] ++ e.bytes) rest) (he : e.ok = true) (h : ¬ s.CannonInUse c e) :
    exec .writeCannon s = .next (transmitBoth
      ((s.replied rest source 3 tag .done [1, 255, 255, 0]).withCannonMast c e)) := by
  have hone : (atEntry c.val fun i => writeCannonEntry i e.bytes { s with requests := rest }) =
      .ok (State.withCannonMast { s with requests := rest } c e) := by
    rw [atEntry_of_lt _ _ c.isLt]
    exact writeCannonEntry_taken he h
  have hin : inTable 4 c.val = true := decide_eq_true ⟨Nat.zero_le _, c.isLt⟩
  have hstep := stepOf_written (t := 4) (hi := 0) (lo := byte c.val)
    (one := fun e l s => atEntry e fun i => writeCannonEntry i l s) hsave ht rfl (by decide)
    (nat16_byte (by omega)) hin rfl rfl hone
  obtain ⟨cannons, stations, commands, hframe⟩ := withCannonMast_frame { s with requests := rest } c e
  have hreplied := withCannonMast_replies { s with requests := rest }
    (s.replies ++ [{ dest := source, code := 3, tag := tag, status := .done, body := [1, 255, 255, 0] }]) c e
  rw [settle_of_nothing_due _ (by rw [hframe]; exact ht.2.1.1)] at hstep
  refine (congrArg Host.Outcome.next hstep).trans (congrArg (fun u => Host.Outcome.next (transmitBoth u)) ?_)
  refine Eq.trans ?_ hreplied.symm
  rw [hframe]
  rfl

/-- The step of a cannon write refused IN-USE. -/
theorem exec_writeCannon_inUse (hsave : s.saving = none)
    (ht : s.Takes source ([3, tag, 4, 0, byte c.val, 1] ++ e.bytes) rest) (he : e.ok = true) (h : s.CannonInUse c e) :
    exec .writeCannon s = .next (transmitBoth (s.replied rest source 3 tag .partialDone [0, 0, byte c.val, 8])) := by
  have hone : (atEntry c.val fun i => writeCannonEntry i e.bytes { s with requests := rest }) = .error .inUse := by
    rw [atEntry_of_lt _ _ c.isLt]
    exact writeCannonEntry_inUse he h
  have hin : inTable 4 c.val = true := decide_eq_true ⟨Nat.zero_le _, c.isLt⟩
  have hstep := stepOf_refused (t := 4) (hi := 0) (lo := byte c.val)
    (one := fun e l s => atEntry e fun i => writeCannonEntry i l s) hsave ht rfl (by decide)
    (nat16_byte (by omega)) hin rfl rfl hone
  have hbody : writeBody 0 c.val Status.inUse.code = [0, 0, byte c.val, 8] := by
    have hhigh : c.val / 256 = 0 := by omega
    rw [writeBody, be16, hhigh]
    rfl
  rw [hbody] at hstep
  exact congrArg Host.Outcome.next hstep

end

/-- Settles O36: a cannon entry is refused in use, and else written with its mode and its target. -/
theorem cannonWrite : Obligations.CannonWrite := by
  intro s source tag rest c e hsave ht he old k inUse written leads
  have htaken (h : ¬ inUse) := exec_writeCannon_taken hsave ht he h
  refine ⟨exec_writeCannon_inUse hsave ht he, fun h hm => ?_, fun h hm => ?_⟩
  · have hmode : (s.replied rest source 3 tag .done [1, 255, 255, 0]).withCannonMode c e = written := if_pos hm
    refine (htaken h).trans ?_
    unfold State.withCannonMast
    rw [hmode]
    rfl
  · have hmode : (s.replied rest source 3 tag .done [1, 255, 255, 0]).withCannonMode c e =
      written.modeTaken c old.mode e.mode := if_neg hm
    refine (htaken h).trans ?_
    unfold State.withCannonMast
    rw [hmode]
    rfl

end Sys2Proof.Machine
end

section
namespace Sys2Proof.Machine

/-! ## What leaves targets, aims and stations (R64, R70, R78)

An early close, a grant and a capacity event change neither the target of a cannon, nor its sweep aim, nor its station. -/

/-- The target, the sweep aim and the station stay. -/
structure Cannon.Aimed (k k' : Cannon) : Prop where
  target : k'.target = k.target
  column : k'.column = k.column
  row : k'.row = k.row
  station : k'.station = k.station

/-- Every cannon's target, sweep aim and station stay. -/
abbrev State.AimsKept (s t : State) : Prop := ∀ c, (s.cannon c).Aimed (t.cannon c)

theorem State.AimsKept.refl (s : State) : s.AimsKept s := fun _ => ⟨rfl, rfl, rfl, rfl⟩

theorem State.AimsKept.trans {s t u : State} (h : s.AimsKept t) (k : t.AimsKept u) : s.AimsKept u := fun c =>
  ⟨(k c).target.trans (h c).target, (k c).column.trans (h c).column, (k c).row.trans (h c).row,
    (k c).station.trans (h c).station⟩

/-- A change of other records alone. -/
theorem State.AimsKept.books {s t : State} (h : t.cannons = s.cannons) : s.AimsKept t := fun c => by
  have hc : t.cannon c = s.cannon c := congrArg (fun v : Vector Cannon 48 => v[c]) h
  rw [hc]
  exact ⟨rfl, rfl, rfl, rfl⟩

theorem aimsKept_updCannon (c : CannonId) (f : Cannon → Cannon) (s : State) (h : (s.cannon c).Aimed (f (s.cannon c))) :
    s.AimsKept (s.updCannon c f) := fun d => by
  rw [State.cannon_updCannon]
  split
  · next e => subst e; exact h
  · exact ⟨rfl, rfl, rfl, rfl⟩

theorem aimsKept_foldl {α : Type} (f : State → α → State) (hf : ∀ (s : State) (a : α), s.AimsKept (f s a)) (l : List α)
    (s : State) : s.AimsKept (l.foldl f s) := by
  induction l generalizing s with
  | nil => exact .refl s
  | cons a l ih => exact (hf s a).trans (ih _)

theorem aimsKept_startClosing (forFault : Bool) (c : CannonId) (s : State) : s.AimsKept (startClosing forFault c s) := by
  rw [startClosing_eq]
  exact (aimsKept_updCannon c _ s ⟨rfl, rfl, rfl, rfl⟩).trans (.books rfl)

theorem aimsKept_dropUnsent (next : CannonState) (c : CannonId) (s : State) : s.AimsKept (dropUnsent next c s) := by
  rw [dropUnsent_eq]
  exact State.AimsKept.trans (aimsKept_updCannon c (fun k =>
    { k with state := next, burst := none, burstTimer := none, ackTimer := none, faultPending := false }) s ⟨rfl, rfl, rfl, rfl⟩)
    (.books rfl)

theorem aimsKept_earlyClose (c : CannonId) (s : State) : s.AimsKept (earlyClose c s) := by
  unfold earlyClose
  split
  case h_1 =>
    split
    · exact aimsKept_dropUnsent _ c s
    · exact aimsKept_startClosing _ c s
  case h_2 => exact aimsKept_startClosing _ c s
  all_goals exact .refl s

theorem aimsKept_takeClose (c : CannonId) (s : State) : s.AimsKept (takeClose c s) := by
  unfold takeClose
  rw [queueClose_eq]
  exact State.AimsKept.trans (aimsKept_updCannon c (fun k =>
    { k with state := .closing, faultPending := decide (k.state = .fault) }) s ⟨rfl, rfl, rfl, rfl⟩) (.books rfl)

theorem aimsKept_walkWaiting (g : StationId) (s : State) : s.AimsKept (walkWaiting g s) :=
  aimsKept_foldl _ (fun t c => by
    split
    · exact aimsKept_takeClose c t
    · exact .refl t) _ s

theorem aimsKept_grant (g : StationId) (c : CannonId) (r : CannonRequest) (w : SourceId) (s : State) :
    s.AimsKept (grant g c r w s) := by
  have hopened (planned duration : Nat) : s.AimsKept (s.updCannon c fun k =>
      { k.afterGrant r with state := .opening, burst := some (newBurst r k.target w planned duration) }) :=
    aimsKept_updCannon c _ s (by cases r <;> exact ⟨rfl, rfl, rfl, rfl⟩)
  cases r <;> exact (hopened _ _).trans (.books rfl)

theorem aimsKept_owe (c : CannonId) (s : State) : s.AimsKept (owe c s) := by
  refine aimsKept_updCannon c _ s ?_
  split <;> exact ⟨rfl, rfl, rfl, rfl⟩

theorem aimsKept_preempt (g : StationId) (c : CannonId) (s : State) : s.AimsKept (preempt g c s) := by
  unfold preempt
  split
  · exact .refl s
  · split
    · exact .refl s
    · exact (aimsKept_earlyClose _ s).trans (.books rfl)

theorem aimsKept_arbitrate (g : StationId) (c : CannonId) (s : State) : s.AimsKept (arbitrate g c s) := by
  unfold arbitrate
  split
  · exact .refl s
  · dsimp only
    split
    · exact aimsKept_grant g c _ _ s
    · split
      · exact aimsKept_preempt g c s
      · exact aimsKept_owe c s
      · exact .refl s
    · exact aimsKept_owe c s

theorem aimsKept_capacityEvent (g : StationId) (s : State) : s.AimsKept (capacityEvent g s) := by
  refine (aimsKept_walkWaiting g s).trans ?_
  unfold capacityEvent arbitrateFires
  split
  · exact aimsKept_foldl _ (fun t c => aimsKept_arbitrate g c t) _ _
  · exact .refl _

/-- The capacity events of a step leave targets, aims and stations. -/
theorem aimsKept_settle (s : State) : s.AimsKept (settle s) := by
  have hordered : s.AimsKept (dueOrder s).2 := by
    unfold dueOrder
    dsimp only
    split
    · obtain ⟨cs, k, h⟩ := shuffle_state s.dueCapacity.dedup s
      rw [h]
      exact .books rfl
    · exact .refl s
  have htaken : s.AimsKept { (dueOrder s).2 with dueCapacity := [] } := hordered.trans (.books rfl)
  exact htaken.trans (aimsKept_foldl _ (fun t g => aimsKept_capacityEvent g t) _ _)

/-! ## One burst closed early, with the capacity event that follows (R90, R112) -/

/-- A close that is sent or of a spraying valve frees no place, and no capacity event follows. -/
theorem settle_earlyClose_sent {s : State} {c : CannonId} (hfly : (s.cannon c).inFlight = true) (hdue : s.dueCapacity = [])
    (h : (s.cannon c).state = .spraying ∨ s.openQueued c = false) : settle (earlyClose c s) = s.shut c false := by
  have hclosed : earlyClose c s = s.shut c false := by
    obtain hopening | hspraying := of_decide_eq_true hfly
    · rw [earlyClose_sent s c hopening (h.resolve_left (by rw [hopening]; decide)), startClosing_eq]
    · rw [earlyClose_spraying s c hspraying, startClosing_eq]
  rw [hclosed]
  exact settle_of_nothing_due _ hdue

/-- A burst whose OPEN is removed unsent stays ended whatever its capacity event does to others. -/
theorem settle_earlyClose_unsent {s : State} {c : CannonId} (hdue : s.dueCapacity = []) (hheld : s.WaitingHeld)
    (hopening : (s.cannon c).state = .opening) (hqueued : s.openQueued c = true) (hfire : (s.cannon c).holds .fire = false) :
    (settle (earlyClose c s)).cannon c = (s.unsent c .idle).cannon c := by
  have hclosed : earlyClose c s = (s.unsent c .idle).withDue [s.stationOf c] := by
    rw [earlyClose_unsent s c hopening hqueued, dropUnsent_eq, capacityDue]
    exact congrArg (fun gs => (s.unsent c .idle).withDue (gs ++ [s.stationOf c])) hdue
  have hwaiting (g : StationId) : ((earlyClose c s).station g).waiting = (s.station g).waiting := by
    rw [hclosed]
    exact (placeEvent_unsent s c .idle s.notices).waiting g
  have hcannon : (earlyClose c s).cannon c = (s.unsent c .idle).cannon c := by rw [hclosed]; rfl
  have hidle : ((earlyClose c s).cannon c).state = .idle := by rw [hcannon, unsent_cannon]
  have hfree : s.closeWaiting c = false := not_closeWaiting_of_inFlight hheld (decide_eq_true (.inl hopening))
  have hwaits (d : CannonId) : (earlyClose c s).closeWaiting d = s.closeWaiting d := closeWaiting_congr hwaiting d
  have hheld' : (earlyClose c s).WaitingHeld := by
    refine waitingHeld_of_sublist hheld (fun g => by rw [hwaiting g]) fun d hd => earlyClose_cannon_ne s c d fun e => ?_
    rw [hwaits, e, hfree] at hd
    cases hd
  have hquiet : ((earlyClose c s).cannon c).holds .fire = false := by
    rw [hcannon, unsent_cannon]; exact hfire
  rw [← hcannon]
  cases (moves_settle hheld').cannons c with
  | kept hk => exact hk
  | admitted hw => rw [hwaits, hfree] at hw; cases hw
  | granted hf => rw [hquiet] at hf; cases hf
  | preempted hr =>
    have hflies := of_decide_eq_true (routine_inFlight hr)
    rw [hidle] at hflies
    simp at hflies

/-! ## A target derived again (R69 to R72) -/

/-- A derivation changes the cannons alone. -/
theorem rederived_state (t : State) (p : CannonId → Bool) : ∃ cannons, t.rederived p = { t with cannons := cannons } := ⟨_, rfl⟩

theorem rederived_repliedWritten (t : State) (p : CannonId → Bool) (source tag : Byte) :
    (t.repliedWritten source tag).rederived p = (t.rederived p).repliedWritten source tag := by
  have hcannon (c : CannonId) : (t.repliedWritten source tag).retargeted c = t.retargeted c := rfl
  have hkept (c : CannonId) : (t.repliedWritten source tag).cannon c = t.cannon c := rfl
  unfold State.rederived
  simp only [hcannon, hkept]
  rfl

theorem rederived_cannon (t : State) (p : CannonId → Bool) (c : CannonId) :
    (t.rederived p).cannon c = if p c then t.retargeted c else t.cannon c := vector_ofFn_get _ _

/-- A derivation keeps each cannon's state and station. -/
theorem rederived_places (t : State) (p : CannonId → Bool) (c : CannonId) :
    ((t.rederived p).cannon c).state = (t.cannon c).state ∧ (t.rederived p).stationOf c = t.stationOf c := by
  rw [State.stationOf, rederived_cannon]
  split <;> exact ⟨rfl, rfl⟩

theorem waitingHeld_rederived {t : State} (h : t.WaitingHeld) (p : CannonId → Bool) : (t.rederived p).WaitingHeld := fun g => by
  have hstation : (t.rederived p).station g = t.station g := by
    obtain ⟨cannons, hstate⟩ := rederived_state t p
    rw [hstate]
    rfl
  rw [hstation]
  refine ⟨(h g).1, fun c hc => ?_⟩
  obtain ⟨hstate, hplace⟩ := rederived_places t p c
  rw [hstate, hplace]
  exact (h g).2 c hc

/-- A derivation gives no cannon a FIRE request. -/
theorem holds_fire_rederived {t : State} (p : CannonId → Bool) {c : CannonId} (h : (t.cannon c).holds .fire = false) :
    ((t.rederived p).cannon c).holds .fire = false := by
  rw [rederived_cannon]
  split
  · have hrequest : (t.retargeted c).request = (t.cannon c).request ∨ (t.retargeted c).request = none := by
      unfold State.retargeted
      dsimp only
      split
      · exact .inl rfl
      · exact .inr rfl
    obtain hkept | hnone := hrequest
    · rw [Cannon.holds, hkept]; exact h
    · rw [Cannon.holds, hnone]
  · exact h

section
variable {o : Host.Outcome State Fault Refusal} {t : State} {c : CannonId}

/-- The derivation of one target and its effects, with the reply that follows them. -/
theorem derivesAgain_written {t v : State} (source tag : Byte) (hdue : t.dueCapacity = [])
    (hv : v = settle (deriveAgain [c] t)) (ho : o = .next (transmitBoth (v.repliedWritten source tag))) :
    DerivesAgain o (t.repliedWritten source tag) fun d => decide (d = c) := by
  obtain ⟨u, hu⟩ : ∃ u, u = t.rederived fun d => decide (d = c) := ⟨_, rfl⟩
  have hderived := deriveAgain_one c t
  rw [← hu] at hderived
  have hyard : u.YardFrame v := by
    rw [hv, hderived]
    exact (yard_ite (yard_earlyClose c _) (.refl _)).trans (yard_settle _)
  have haims : u.AimsKept v := by
    refine State.AimsKept.trans ?_ (hv ▸ aimsKept_settle _)
    rw [hderived]
    split
    · exact aimsKept_earlyClose c _
    · exact .refl _
  have htame : u.Tame v := by
    rw [hv, hderived]
    exact (tame_ite (fun _ => tame_earlyClose c _) fun _ => .refl _).trans (tame_settle _)
  have hheld (h : t.WaitingHeld) : u.WaitingHeld := hu ▸ waitingHeld_rederived h _
  have hrequest (h : (t.cannon c).holds .fire = false) : (u.cannon c).holds .fire = false := hu ▸ holds_fire_rederived _ h
  have hstate : (u.cannon c).state = (t.cannon c).state := hu ▸ (rederived_places t _ c).1
  have hshared : u.dueCapacity = [] ∧ u.openQueued c = t.openQueued c := by
    obtain ⟨cannons, hcannons⟩ := rederived_state t fun d => decide (d = c)
    rw [hu, hcannons]
    exact ⟨hdue, rfl⟩
  obtain ⟨hdue', hqueued'⟩ := hshared
  have hquiet (h : ¬ t.Untargets c) : v = u := by
    rw [hv, hderived, if_neg h, settle_of_nothing_due _ hdue']
  have hlost (h : t.Untargets c) : v = settle (earlyClose c u) := by rw [hv, hderived, if_pos h]
  have hrecords : (t.repliedWritten source tag).SameRecords (v.repliedWritten source tag) := by
    obtain ⟨cannons, hcannons⟩ := rederived_state t fun d => decide (d = c)
    rw [hcannons] at hu
    subst hu
    obtain ⟨h1, h2, h3, h4, h5, h6, h7, h8, h9, h10, h11, h12, h13, h14⟩ := hyard.dispatch.records
    exact ⟨h1, h2, h3, h4, h5, h6, h7, h8, h9, h10, h11, h12, h13, h14⟩
  have hsame : v.zones = t.zones ∧ v.mode = t.mode ∧ v.notices = t.notices ∧ v.requests = t.requests ∧
      v.replies = t.replies ∧ v.controlPort = t.controlPort ∧ v.fieldPort = t.fieldPort := by
    obtain ⟨cannons, hcannons⟩ := rederived_state t fun d => decide (d = c)
    rw [hcannons] at hu
    subst hu
    have hdispatch := hyard.dispatch
    exact ⟨hdispatch.zones, hdispatch.mode, hyard.notices, hdispatch.requests, hdispatch.replies, hdispatch.controlPort,
      hdispatch.fieldPort⟩
  obtain ⟨hzones, hmode, hnotices, hrequests, hreplies, hcontrol, hfield⟩ := hsame
  unfold DerivesAgain
  rw [rederived_repliedWritten, ← hu]
  refine ⟨fun h => ?_, _, ho, hrecords, hzones, hmode, hnotices, hrequests, ?_, hcontrol, hfield, fun d => ?_,
    fun hwaits d hd huntargets => ?_⟩
  · rw [ho, hquiet (h c (decide_eq_true rfl))]
  · exact congrArg (· ++ [{ dest := source, code := 3, tag := tag, status := .done, body := [1, 255, 255, 0] }]) hreplies
  · exact ⟨(haims d).target, (haims d).column, (haims d).row, fun hnone => (htame.asks d).elim id fun e => e.trans hnone⟩
  · obtain rfl : d = c := of_decide_eq_true hd
    have hfly : (u.cannon d).inFlight = true := by
      rw [Cannon.inFlight, hstate]; exact huntargets.1
    refine ⟨fun hsent => ?_, fun hopening hqueued hfire => ?_⟩
    · have hshut : v = u.shut d false := (hlost huntargets).trans
        (settle_earlyClose_sent hfly hdue' (hsent.imp hstate.trans hqueued'.trans))
      subst hshut
      exact ⟨rfl, hasCommand_shut_self u d false⟩
    · have hended := settle_earlyClose_unsent hdue' (hheld hwaits) (hstate.trans hopening) (hqueued'.trans hqueued)
        (hrequest hfire)
      rw [← hlost huntargets] at hended
      exact hended

end

/-! ## The coverage and pattern writes (R68, R78, R81) -/

/-- The state with coverage entry `i` written as `e`, its request taken. -/
def State.withCoverage (s : State) (rest : List MgmtRequest) (i : Fin 768) (e : Coverage) : State :=
  { s with requests := rest, cfg := { s.cfg with coverage := updAt s.cfg.coverage i fun _ => e } }

/-- The step of a coverage write derives its cannon's target again. -/
theorem exec_writeCoverage {s : State} {source tag : Byte} {rest : List MgmtRequest} (hsave : s.saving = none) (i : Fin 768)
    (e : Coverage) (he : e.ok = true) (ht : s.Takes source ([3, tag, 5] ++ be16 i.val ++ [1] ++ e.bytes) rest) :
    exec .writeCoverage s = .next (transmitBoth
      ((settle (deriveAgain [coverCannon i] (s.withCoverage rest i e))).repliedWritten source tag)) := by
  have hone : (atEntry i.val fun i => writeCoverageEntry i e.bytes { s with requests := rest }) =
      .ok (deriveAgain [coverCannon i] (s.withCoverage rest i e)) := by
    rw [atEntry_of_lt _ _ i.isLt, writeCoverageEntry, readCoverage_bytes e he]
    rfl
  have hin : inTable 5 i.val = true := decide_eq_true ⟨Nat.zero_le _, i.isLt⟩
  exact congrArg Host.Outcome.next (stepOf_written (t := 5) (hi := byte (i.val / 256)) (lo := byte i.val)
    (one := fun e l s => atEntry e fun i => writeCoverageEntry i l s) hsave ht rfl (by decide) (nat16_bytes (by omega)) hin rfl
    rfl hone)

/-- The step of a pattern write resets the sweep aims that use it. -/
theorem exec_writePattern {s : State} {source tag : Byte} {rest : List MgmtRequest} (hsave : s.saving = none) (f : PatternId)
    (e : Pattern) (he : e.ok = true) (ht : s.Takes source ([3, tag, 6, 0, byte f.val, 1] ++ e.bytes) rest) :
    exec .writePattern s = .next (transmitBoth
      { s.replied rest source 3 tag .done [1, 255, 255, 0] with
        cfg := { s.cfg with patterns := updAt s.cfg.patterns f fun _ => e }
        cannons := s.cannons.map fun k => if k.target.pattern = f then { k with column := 0, row := 0 } else k }) := by
  have hone : (atEntry f.val fun i => writePatternEntry i e.bytes { s with requests := rest }) =
      .ok { s with
        requests := rest
        cfg := { s.cfg with patterns := updAt s.cfg.patterns f fun _ => e }
        cannons := s.cannons.map fun k => k.aimReset f } := by
    rw [atEntry_of_lt _ _ f.isLt, writePatternEntry, readPattern_bytes e he]
    rfl
  have hin : inTable 6 f.val = true := decide_eq_true ⟨Nat.zero_le _, f.isLt⟩
  have hstep := stepOf_written (t := 6) (hi := 0) (lo := byte f.val)
    (one := fun e l s => atEntry e fun i => writePatternEntry i l s) hsave ht rfl (by decide) (nat16_byte (by omega)) hin rfl rfl
    hone
  have hsettled := settle_of_nothing_due { s with
    requests := rest
    cfg := { s.cfg with patterns := updAt s.cfg.patterns f fun _ => e }
    cannons := s.cannons.map fun k => k.aimReset f } ht.2.1.1
  exact congrArg Host.Outcome.next (hstep.trans (congrArg (fun u : State => transmitBoth (u.repliedWritten source tag)) hsettled))

/-- Settles O37: each write with what follows it. -/
theorem coverageAndPatternWrites : Obligations.CoverageAndPatternWrites := by
  intro s source tag rest hsave
  refine ⟨fun i e he ht => ?_, fun f e he ht => exec_writePattern hsave f e he ht⟩
  have hcannon : (fun c : CannonId => decide (c.val = i.val / 16)) = fun c => decide (c = coverCannon i) :=
    funext fun c => decide_eq_decide.mpr (Fin.ext_iff (b := coverCannon i)).symm
  have hderives := derivesAgain_written source tag (t := s.withCoverage rest i e) ht.2.1.1 rfl
    (exec_writeCoverage hsave i e he ht)
  rw [← hcannon] at hderives
  exact hderives

end Sys2Proof.Machine
end

section
namespace Sys2Proof.Machine

/-! ## The conditions of arbitration as statements write them out (R93, R99, R128, R142) -/

theorem ready_iff (s : State) (c : CannonId) :
    s.ready c = true ↔ (s.cannonEntry c).mode = .automatic ∧ (s.cannon c).state = .idle ∧ (∀ h, c ∉ (s.station h).waiting) ∧
      s.wired c = true ∧ ∀ q ∈ s.commands, q.cannon ≠ c := by
  have hwaiting : s.closeWaiting c = false ↔ ∀ h, c ∉ (s.station h).waiting := by
    rw [← Bool.not_eq_true, closeWaiting_iff, not_exists]
  simp only [State.ready, Bool.and_eq_true, decide_eq_true_iff, Bool.not_eq_true', hwaiting, hasCommand_eq_false_iff]
  tauto

theorem able_iff (s : State) (g : StationId) (c : CannonId) :
    s.Able g c ↔ (decide (s.stationOf c = g) && s.ready c) = true := by
  rw [Bool.and_eq_true, decide_eq_true_iff, ready_iff]

theorem fireCandidate_iff (s : State) (g : StationId) (c : CannonId) :
    s.fireCandidate g c = true ↔ s.Able g c ∧ (s.cannon c).holds .fire = true := by
  rw [State.fireCandidate, Bool.and_eq_true, ← able_iff]

theorem fireServed_iff (s : State) (g : StationId) :
    s.fireServed g = true ↔ s.mode ≠ .off ∧ s.fieldPort.up = true ∧ (s.station g).pump = .running := by
  simp only [State.fireServed, Station.available, Bool.and_eq_true, decide_eq_true_iff, and_assoc]

theorem excluded_iff (s : State) (z : ZoneId) :
    s.excluded z = true ↔ s.machineCount z ≠ 0 ∧ (s.zoneEntry z).policy = false := by
  simp only [State.excluded, Bool.and_eq_true, decide_eq_true_iff, Bool.not_eq_true', Nat.pos_iff_ne_zero]

theorem excludedOpt_iff (s : State) (z : Option ZoneId) :
    s.excludedOpt z = true ↔ ∃ y, z = some y ∧ s.machineCount y ≠ 0 ∧ (s.zoneEntry y).policy = false := by
  rw [State.excludedOpt, Option.any_eq_true]
  exact exists_congr fun y => and_congr_right fun _ => excluded_iff s y

/-- The three tests of a source (R128). -/
theorem sourceFits_iff (e : SourceEntry) (w : Source) (cls : BurstClass) (priority planned committed : Nat) :
    sourceFits e w cls priority planned committed = true ↔ SourcePasses e w cls priority planned committed := by
  have hquality : qualityFits w cls priority = true ↔
      w.quality = .ok ∨ (w.quality = .marginal ∧ (cls = .fire ∨ 2 ≤ priority)) := by
    unfold qualityFits
    cases w.quality <;> simp
  have hvolume : volumeFits e w cls planned committed = true ↔ (e.metered = true → ∃ v, w.estimate = some v ∧
      committed + planned + e.floor + (if cls = .fire then 0 else e.fireReserve) ≤ v) := by
    unfold volumeFits
    cases e.metered <;> cases w.estimate <;> simp
  rw [sourceFits, Bool.and_eq_true, Bool.and_eq_true, hquality, hvolume, allowanceFits, decide_eq_true_iff, and_assoc]

end Sys2Proof.Machine
end

section
namespace Sys2Proof.Machine

/-! ## A COMMAND judged on an AUTOMATIC cannon (R164 to R168) -/

/-- The first window that holds the cannon gives its substitute's number (R167, R168). -/
theorem substituteOf_eq (s : State) (c : CannonId) : s.substituteOf c = s.windowNumber c := by
  have hlist : s.cfg.windows.toList = [s.cfg.windows[0], s.cfg.windows[1]] := by
    refine List.ext_getElem (by simp) fun i h _ => ?_
    obtain rfl | rfl : i = 0 ∨ i = 1 := by simp at h; omega
    · simp
    · simp
  have hheld (w : Window) : w.holds c = decide (w.base ≤ c ∧ c ≤ w.limit) := rfl
  unfold State.substituteOf State.windowNumber
  rw [hlist, List.find?_cons, List.find?_cons, List.find?_nil, hheld, hheld]
  by_cases h0 : s.cfg.windows[0].base ≤ c ∧ c ≤ s.cfg.windows[0].limit
  · simp only [h0, and_self, decide_true, if_true, Option.map_some]
  · by_cases h1 : s.cfg.windows[1].base ≤ c ∧ c ≤ s.cfg.windows[1].limit
    · simp only [h0, h1, and_self, decide_true, decide_false, if_true, if_false, Option.map_some]
    · simp only [h0, h1, decide_false, if_false, Option.map_none]

section
variable {s : State} {f : Frame} {c d : CannonId} {body : List Byte} {substitute : Option CannonId}

/-- A COMMAND at the control port is judged on the cannon it names or on its substitute (R155, R164, R168). -/
theorem completeFrame_judged (hj : s.Judges c d substitute) (hc : s.Commanded f c body) :
    completeFrame .control f s = automaticCommand d body c substitute (s.heard .control) := by
  obtain ⟨-, -, hpass, hkind, hrole, hsupervisor, hbody⟩ := hc
  obtain ⟨hauto, hjudged⟩ := hj
  have hsnoop : snoop .control f (s.heard .control) = s.heard .control := by
    have htime : ¬ (48 : Byte) = kindTime := by decide
    simp only [snoop, hkind, if_neg htime]
  have hcommand : decide (frameKind f = kindCommand) = true := by rw [hkind]; rfl
  have hadmitted : passOn .control f (s.heard .control) = admission c f (s.heard .control) := by
    have hheard : (s.heard .control).roleOf (frameDest f) = .valve c := hrole
    simp only [passOn, hcommand, hheard]
  have hsup : (s.heard .control).isSupervisor (frameSource f) = true := hsupervisor
  have hautoHeard : ((s.heard .control).cannonEntry d).mode = .automatic := hauto
  rw [completeFrame_control_of_passes s f hpass, hsnoop, hadmitted, admission, hsup, ← hbody]
  obtain ⟨rfl, rfl⟩ | ⟨hout, hnumber, hwired, rfl⟩ := hjudged
  · rw [hautoHeard]
    rfl
  · have hmode : ((s.heard .control).cannonEntry c).mode = .outOfService := hout
    have hsub : (s.heard .control).substituteOf c = some d.val := (substituteOf_eq _ c).trans hnumber
    have hbelow : below 48 d.val = some d := below_of_lt d.isLt
    have hwiredHeard : (s.heard .control).wired d = true := hwired
    rw [hmode]
    simp only [substitutedCommand, hsub, Option.bind_some, hbelow, hautoHeard, hwiredHeard, if_true, Bool.not_true,
      Bool.false_eq_true, if_false]

/-- The step of such a COMMAND is its effect, with the capacity events it brings (R90, R164). -/
theorem exec_judged (hj : s.Judges c d substitute) (hc : s.Commanded f c body) {u : State}
    (hu : automaticCommand d body c substitute (s.heard .control) = u) :
    exec (.frameCompletion .control f) s = .next (transmitBoth (settle u)) := by
  have hstep : exec (.frameCompletion .control f) s = .next (stepOf (completeFrame .control f) s) := rfl
  rw [hstep, stepOf, if_pos hc.1, completeFrame_judged hj hc, hu]

theorem exec_judged_settled (hj : s.Judges c d substitute) (hc : s.Commanded f c body) {u : State}
    (hu : automaticCommand d body c substitute (s.heard .control) = u) (hdue : u.dueCapacity = []) :
    exec (.frameCompletion .control f) s = .next (transmitBoth u) := by
  rw [exec_judged hj hc hu, settle_of_nothing_due u hdue]

end

/-! ## A request dropped (R74, R75) -/

/-- A request dropped with a further change of its cannon. -/
theorem dropRequest_updCannon (d : CannonId) (f : Cannon → Cannon) (t : State) :
    (dropRequest d t).updCannon d f =
      { t with
        cannons := updAt t.cannons d fun _ => f { t.cannon d with request := none, owed := 0 }
        stations := t.stations.map fun g => { g with preempt := g.preempt.filter fun p => p.1 ≠ d } } := by
  have hcannons : updAt (updAt t.cannons d fun k => { k with request := none, owed := 0 }) d f =
      updAt t.cannons d fun _ => f { t.cannon d with request := none, owed := 0 } := by
    rw [updAt_updAt]
    exact updAt_congr t.cannons d rfl
  have hdropped : (dropRequest d t).updCannon d f = { dropRequest d t with
      cannons := updAt (updAt t.cannons d fun k => { k with request := none, owed := 0 }) d f } := rfl
  rw [hdropped, hcannons]
  rfl

/-- What a dropped request leaves: its cannon's state and station, every other cannon, the close waiting lists, the commands and
the notices. -/
structure State.Dropped (s u : State) (d : CannonId) : Prop where
  due : u.dueCapacity = s.dueCapacity
  commands : u.commands = s.commands
  notices : u.notices = s.notices
  waiting : ∀ g, (u.station g).waiting = (s.station g).waiting
  others : ∀ e, e ≠ d → u.cannon e = s.cannon e
  state : (u.cannon d).state = (s.cannon d).state
  station : (u.cannon d).station = (s.cannon d).station
  request : (u.cannon d).request = none

section
variable {s u : State} {d : CannonId}

theorem dropped_of {k : Cannon} (hcannons : u.cannons = updAt s.cannons d fun _ => k)
    (hstations : u.stations = s.stations.map fun g => { g with preempt := g.preempt.filter fun p => p.1 ≠ d })
    (hdue : u.dueCapacity = s.dueCapacity) (hcommands : u.commands = s.commands) (hnotices : u.notices = s.notices)
    (hstate : k.state = (s.cannon d).state) (hstation : k.station = (s.cannon d).station) (hrequest : k.request = none) :
    s.Dropped u d := by
  have hself : u.cannon d = k := (congrArg (fun v : Vector Cannon 48 => v[d]) hcannons).trans (updAt_get_self _ _ _)
  refine ⟨hdue, hcommands, hnotices, fun g => ?_, fun e he => ?_, by rw [hself]; exact hstate, by rw [hself]; exact hstation,
    by rw [hself]; exact hrequest⟩
  · have hg : u.station g = { s.station g with preempt := (s.station g).preempt.filter fun p => p.1 ≠ d } :=
      (congrArg (fun v : Vector Station 4 => v[g]) hstations).trans (vector_map_get _ _ _)
    rw [hg]
  · exact (congrArg (fun v : Vector Cannon 48 => v[e]) hcannons).trans (updAt_get_ne _ _ _ _ he)

/-- Every cannon keeps its state and station. -/
theorem State.Dropped.places (h : s.Dropped u d) (e : CannonId) :
    (u.cannon e).state = (s.cannon e).state ∧ (u.cannon e).station = (s.cannon e).station := by
  by_cases he : e = d
  · subst he; exact ⟨h.state, h.station⟩
  · rw [h.others e he]; exact ⟨rfl, rfl⟩

theorem State.Dropped.waitingHeld (h : s.Dropped u d) (hs : s.WaitingHeld) : u.WaitingHeld := fun g => by
  rw [h.waiting g]
  refine ⟨(hs g).1, fun e he => ?_⟩
  obtain ⟨hstate, hstation⟩ := h.places e
  rw [State.stationOf, hstate, hstation]
  exact (hs g).2 e he

theorem State.Dropped.quiet (h : s.Dropped u d) {g : StationId} (hs : s.Quiet g) : u.Quiet g := by
  refine ⟨(h.waiting g).trans hs.1, fun e he => ?_⟩
  by_cases hed : e = d
  · subst hed; rw [Cannon.holds, h.request]
  · rw [h.others e hed]
    exact hs.2 e ((h.places e).2.symm.trans he)

/-- A burst whose OPEN is unsent ends when its request is dropped and its valve closed (R112, R116). -/
theorem settle_earlyClose_dropped (h : s.Dropped u d) (hdue : s.dueCapacity = [])
    (hopening : (s.cannon d).state = .opening) (hqueued : s.openQueued d = true) :
    (s.Quiet (s.stationOf d) → settle (earlyClose d u) = u.unsent d .idle) ∧
    (s.WaitingHeld → (settle (earlyClose d u)).cannon d = (u.unsent d .idle).cannon d ∧
      (settle (earlyClose d u)).notices = s.notices) := by
  have hdue' : u.dueCapacity = [] := h.due.trans hdue
  have hopening' : (u.cannon d).state = .opening := h.state.trans hopening
  have hqueued' : u.openQueued d = true := by rw [State.openQueued, h.commands]; exact hqueued
  refine ⟨fun hquiet => ?_, fun hheld => ⟨?_, ?_⟩⟩
  · have hplace : u.PlaceEvent (u.unsent d .idle) := placeEvent_unsent u d .idle u.notices
    rw [earlyClose_unsent u d hopening' hqueued', dropUnsent_eq, settle_of_quiet]
    · exact congrArg (fun gs => { u.unsent d .idle with dueCapacity := gs }) hdue'.symm
    · intro g hg
      have hstation : g = s.stationOf d := by
        have hmem : g ∈ u.dueCapacity ++ [u.stationOf d] := hg
        rw [hdue', List.nil_append, List.mem_singleton] at hmem
        exact hmem.trans h.station
      subst hstation
      exact hplace.quiet (h.quiet hquiet)
  · exact settle_earlyClose_unsent hdue' (h.waitingHeld hheld) hopening' hqueued' (by rw [Cannon.holds, h.request])
  · exact ((yard_settle _).notices.trans (yard_earlyClose d u).notices).trans h.notices

/-- A burst whose OPEN is sent, or whose valve is open, is closed when its request is dropped (R112, R116). -/
theorem settle_earlyClose_dropped_sent (h : s.Dropped u d) (hdue : s.dueCapacity = [])
    (hsent : (s.cannon d).state = .spraying ∨ ((s.cannon d).state = .opening ∧ s.openQueued d = false)) :
    settle (earlyClose d u) = u.shut d false := by
  have hqueued : u.openQueued d = s.openQueued d := by rw [State.openQueued, h.commands]; rfl
  have hfly : (u.cannon d).inFlight = true := by
    rw [Cannon.inFlight, h.state, decide_eq_true_iff]
    exact hsent.elim .inr fun ho => .inl ho.1
  exact settle_earlyClose_sent hfly (h.due.trans hdue) (hsent.imp h.state.trans fun ho => hqueued.trans ho.2)

end

end Sys2Proof.Machine
end

section
namespace Sys2Proof.Machine

/-! ## An OPEN or a CLOSE accepted (R74, R77, R115, R116, R166) -/

/-- The state after a COMMAND has been heard and the request of cannon `d` dropped, with its record `k` (R74, R75, R101). -/
def State.obeyed (s : State) (d : CannonId) (k : Cannon) : State :=
  { s.heard .control with
    cannons := updAt s.cannons d fun _ => k
    stations := s.stations.map fun g => { g with preempt := g.preempt.filter fun p => p.1 ≠ d } }

/-- The OPEN that eight bytes read as (R166, R193). -/
def openOf (d1 d0 pr fr a1 a0 el : Byte) : StationCommand :=
  { verb := .openValve, duration := min 900 (max 5 (nat16 d1 d0)), priority := min 3 pr.toNat, fire := decide (fr ≠ 0),
    azimuth := min 359 (nat16 a1 a0), elevation := min 60 el.toNat }

/-- The class of a converted burst, by the fire flag's byte (R115, R193). -/
theorem burstClass_of_flag (fr : Byte) :
    (if decide (fr ≠ 0) = true then BurstClass.fire else .manual) = if fr = 0 then .manual else .fire := by
  by_cases hfr : fr = 0
  · rw [if_pos hfr, decide_eq_false (not_not.mpr hfr)]; rfl
  · rw [if_neg hfr, decide_eq_true hfr]; rfl

theorem burstClass_manual_iff (fr : Byte) : (if fr = 0 then BurstClass.manual else .fire) = .manual ↔ fr = 0 := by
  by_cases hfr : fr = 0
  · rw [if_pos hfr]; exact ⟨fun _ => hfr, fun _ => rfl⟩
  · rw [if_neg hfr]; exact ⟨fun h => absurd h (by decide), fun h => absurd h hfr⟩

theorem readCommand_open (d1 d0 pr fr a1 a0 el : Byte) :
    readCommand [1, d1, d0, pr, fr, a1, a0, el] = some (openOf d1 d0 pr fr a1 a0 el) := by
  have hclamp (hi n : Nat) : clamp 0 hi n = min hi n := by rw [clamp, Nat.zero_max]
  have hread : readCommand [1, d1, d0, pr, fr, a1, a0, el] = some
      { verb := .openValve, duration := clamp 5 900 (nat16 d1 d0), priority := clamp 0 3 pr.toNat, fire := decide (fr ≠ 0)
        azimuth := clamp 0 359 (nat16 a1 a0), elevation := clamp 0 60 el.toNat } := rfl
  rw [hread, hclamp, hclamp, hclamp]
  rfl

/-- A payload of eight bytes whose first is 2 reads as a CLOSE (R193). -/
theorem readCommand_close {rest : List Byte} (h : rest.length = 7) : ∃ q, readCommand (2 :: rest) = some q ∧ q.verb = .closeValve := by
  match rest, h with
  | [d1, d0, p, f, a1, a0, e], _ => exact ⟨_, rfl, rfl⟩

section
variable {s : State} {c d : CannonId} {body : List Byte} {substitute : Option CannonId}

/-- The request an OPEN asks for (R74). -/
def StationCommand.request (q : StationCommand) : CannonRequest :=
  if q.fire then .fire q.priority q.duration q.azimuth q.elevation
  else .manual q.priority q.duration q.azimuth q.elevation

/-- The state with that request recorded in place of the one held (R74). -/
def State.asked (s : State) (d : CannonId) (r : CannonRequest) : State :=
  s.obeyed d { s.cannon d with request := some r, owed := 0 }

theorem recordRequest_heard (q : StationCommand) : recordRequest d q (s.heard .control) = s.asked d q.request :=
  dropRequest_updCannon d _ (s.heard .control)

theorem obeyed_cannon (k : Cannon) : (s.obeyed d k).cannon d = k := updAt_get_self _ _ _

theorem obeyed_station (k : Cannon) (h : StationId) :
    (s.obeyed d k).station h =
      { s.station h with preempt := (s.station h).preempt.filter fun p => p.1 ≠ d } := vector_map_get _ _ _

/-- What makes a cannon a candidate stays where its state and station stay. -/
theorem able_obeyed {k : Cannon} (hstate : k.state = (s.cannon d).state) (hstation : k.station = (s.cannon d).station)
    (g : StationId) : (s.obeyed d k).Able g d ↔ s.Able g d := by
  have hwaiting (h : StationId) : ((s.obeyed d k).station h).waiting = (s.station h).waiting := by
    rw [obeyed_station]
  have hplace : (s.obeyed d k).stationOf d = s.stationOf d := by rw [State.stationOf, obeyed_cannon, hstation]; rfl
  unfold State.Able
  rw [hplace, obeyed_cannon, hstate]
  simp only [hwaiting]
  exact Iff.rfl

/-- An OPEN passed by admission is judged by its cannon's flight (R115, R166). -/
theorem automaticCommand_open {q : StationCommand} (hread : readCommand body = some q) (hverb : q.verb = .openValve)
    (hmode : s.mode ≠ .off) (hup : s.fieldPort.up = true) (hfault : (s.cannon d).state ≠ .fault)
    (hstuck : (s.cannon d).state ≠ .stuck) :
    automaticCommand d body c substitute (s.heard .control) = acceptOpen d q body c substitute (s.heard .control) := by
  have hmode' : ¬ (s.heard .control).mode = .off := hmode
  have hup' : (s.heard .control).fieldPort.up = true := hup
  have hgood : ¬ (((s.heard .control).cannon d).state = .fault ∨ ((s.heard .control).cannon d).state = .stuck) :=
    not_or.mpr ⟨hfault, hstuck⟩
  simp only [automaticCommand, hread, hverb, if_neg hmode', hup', if_neg hgood, Bool.not_true, Bool.false_eq_true, if_false]

/-- On a cannon not in flight it is recorded, and a FIRE one judged at once (R74, R99). -/
theorem acceptOpen_grounded {q : StationCommand} (hfly : (s.cannon d).inFlight = false) :
    acceptOpen d q body c substitute (s.heard .control) =
      if q.fire then arbitrateFire d (s.asked d q.request) else s.asked d q.request := by
  have hfly' : ((s.heard .control).cannon d).inFlight = false := hfly
  rw [← recordRequest_heard]
  simp only [acceptOpen, hfly']

/-- A FIRE request recorded is arbitrated where it may be (R99). -/
theorem arbitrateFire_obeyed {k : Cannon} (hmode : s.mode ≠ .off) (hup : s.fieldPort.up = true)
    (hstate : k.state = (s.cannon d).state) (hstation : k.station = (s.cannon d).station) (hfire : k.holds .fire = true) :
    arbitrateFire d (s.obeyed d k) =
      if s.Able (s.stationOf d) d ∧ (s.station (s.stationOf d)).pump = .running then
        arbitrate (s.stationOf d) d (s.obeyed d k)
      else s.obeyed d k := by
  have hplace : (s.obeyed d k).stationOf d = s.stationOf d := by rw [State.stationOf, obeyed_cannon, hstation]; rfl
  have hpump : ((s.obeyed d k).station (s.stationOf d)).pump = (s.station (s.stationOf d)).pump := by
    rw [obeyed_station]
  have hwhen : ((s.obeyed d k).fireServed (s.stationOf d) && (s.obeyed d k).fireCandidate (s.stationOf d) d) = true ↔
      s.Able (s.stationOf d) d ∧ (s.station (s.stationOf d)).pump = .running := by
    rw [Bool.and_eq_true, fireServed_iff, fireCandidate_iff, able_obeyed hstate hstation, hpump, obeyed_cannon]
    exact ⟨fun ⟨⟨_, _, hp⟩, ha, _⟩ => ⟨ha, hp⟩, fun ⟨ha, hp⟩ => ⟨⟨hmode, hup, hp⟩, ha, hfire⟩⟩
  unfold arbitrateFire
  rw [hplace]
  by_cases h : s.Able (s.stationOf d) d ∧ (s.station (s.stationOf d)).pump = .running
  · rw [if_pos h, if_pos (hwhen.mpr h)]
  · rw [if_neg h, if_neg fun hw => h (hwhen.mp hw)]

theorem arbitrateFire_asked {r : CannonRequest} (hmode : s.mode ≠ .off) (hup : s.fieldPort.up = true) (hr : r.cls = .fire) :
    arbitrateFire d (s.asked d r) =
      if s.Able (s.stationOf d) d ∧ (s.station (s.stationOf d)).pump = .running then
        arbitrate (s.stationOf d) d (s.asked d r)
      else s.asked d r :=
  arbitrateFire_obeyed (k := { s.cannon d with request := some r, owed := 0 }) hmode hup rfl rfl (decide_eq_true hr)

/-- The burst that a conversion leaves, before one to MANUAL is closed (R115). -/
def State.converted (s : State) (d : CannonId) (b : Burst) (cls : BurstClass) (priority duration planned : Nat) : State :=
  { s.obeyed d { s.cannon d with
      request := none, owed := 0
      burst := some { b with cls := cls, priority := priority, duration := duration, planned := planned }
      burstTimer := if (s.cannon d).state = .spraying then some duration else (s.cannon d).burstTimer } with
    sources := updAt s.sources b.source fun w => { w with committed := w.committed - b.planned + planned } }

theorem convert_heard (q : StationCommand) (b : Burst) :
    convert d q b (s.heard .control) = closeConverted d b (if q.fire then .fire else .manual)
      (s.converted d b (if q.fire then .fire else .manual) q.priority q.duration
        ((s.cannonEntry d).flow * q.duration / 60)) :=
  congrArg (closeConverted d b _) (dropRequest_updCannon d _ (replaceCommit b.source b.planned _ (s.heard .control)))

/-- On a burst in flight it is a conversion, where the burst's source fits it (R115). -/
theorem acceptOpen_flying {q : StationCommand} {b : Burst} (hfly : (s.cannon d).inFlight = true)
    (hb : (s.cannon d).burst = some b)
    (hfits : SourcePasses (s.sourceEntry b.source) (s.source b.source) (if q.fire then .fire else .manual) q.priority
      ((s.cannonEntry d).flow * q.duration / 60) ((s.source b.source).committed - b.planned)) :
    acceptOpen d q body c substitute (s.heard .control) = convert d q b (s.heard .control) := by
  have hfly' : ((s.heard .control).cannon d).inFlight = true := hfly
  have hb' : ((s.heard .control).cannon d).burst = some b := hb
  have hfits' : (s.heard .control).conversionFits d q b = true := (sourceFits_iff _ _ _ _ _ _).mpr hfits
  simp only [acceptOpen, hfly', hb', hfits', if_true]

theorem dropped_converted (b : Burst) (cls : BurstClass) (priority duration planned : Nat) :
    s.Dropped (s.converted d b cls priority duration planned) d :=
  dropped_of rfl rfl rfl rfl rfl rfl rfl rfl

/-- When a converted burst is closed at once (R144, R172). -/
theorem closeConverted_eq (b : Burst) (cls : BurstClass) (priority duration planned : Nat) :
    closeConverted d b cls (s.converted d b cls priority duration planned) =
      if cls = .manual ∧ (s.mode = .halt ∨ s.mode = .watch ∨
          ∃ z, b.credited = some z ∧ s.machineCount z ≠ 0 ∧ (s.zoneEntry z).policy = false) then
        earlyClose d (s.converted d b cls priority duration planned)
      else s.converted d b cls priority duration planned := by
  have hexcluded := excludedOpt_iff (s.converted d b cls priority duration planned) b.credited
  unfold closeConverted
  simp only [hexcluded]
  rfl

/-- A CLOSE passed by admission, by its cannon's state (R77, R116). -/
theorem automaticCommand_close {q : StationCommand} (hread : readCommand body = some q) (hverb : q.verb = .closeValve) :
    automaticCommand d body c substitute (s.heard .control) = manualClose d (s.heard .control) := by
  simp only [automaticCommand, hread, hverb]

/-- The cannon after its request is removed and its hold timer started or stopped (R77). -/
def State.held (s : State) (d : CannonId) : State :=
  s.obeyed d { s.cannon d with
    request := none, owed := 0
    holdTimer := if (s.cannonEntry d).holdTime = 0 then none else some (s.cannonEntry d).holdTime }

theorem manualClose_heard :
    manualClose d (s.heard .control) =
      match (s.cannon d).state with
      | .opening | .spraying => earlyClose d (s.held d)
      | .unknown => closeWithoutBurst d (s.held d)
      | .idle | .closing | .stuck | .fault | .bypassClosed | .bypassOpen | .retired => s.held d := by
  have hheld := dropRequest_updCannon d
    (fun k => { k with holdTimer := holdOf ((s.heard .control).cannonEntry d).holdTime }) (s.heard .control)
  unfold manualClose
  dsimp only
  rw [hheld]
  rfl

theorem dropped_held : s.Dropped (s.held d) d := dropped_of rfl rfl rfl rfl rfl rfl rfl rfl

/-- What a step answers that has come to state `u` and there removes the unsent OPEN of cannon `d` (R90, R112). -/
abbrev State.DropsUnsent (s : State) (o : Host.Outcome State Fault Refusal) (d : CannonId) (u : State) : Prop :=
  (s.Quiet (s.stationOf d) → o = .next (transmitBoth (u.unsent d .idle))) ∧
  (s.WaitingHeld → ∃ v, o = .next (transmitBoth v) ∧ v.cannon d = (u.unsent d .idle).cannon d ∧ v.notices = s.notices)

variable {f : Frame}

theorem exec_judged_unsent (hj : s.Judges c d substitute) (hc : s.Commanded f c body) {u : State}
    (hu : automaticCommand d body c substitute (s.heard .control) = earlyClose d u) (hdropped : s.Dropped u d)
    (hopening : (s.cannon d).state = .opening) (hqueued : s.openQueued d = true) :
    s.DropsUnsent (exec (.frameCompletion .control f) s) d u := by
  obtain ⟨hquiet, hheld⟩ := settle_earlyClose_dropped hdropped hc.2.1.1 hopening hqueued
  have hexec := exec_judged hj hc hu
  refine ⟨fun hq => ?_, fun hw => ⟨_, hexec, hheld hw⟩⟩
  rw [hexec, hquiet hq]

theorem exec_judged_shut (hj : s.Judges c d substitute) (hc : s.Commanded f c body) {u : State}
    (hu : automaticCommand d body c substitute (s.heard .control) = earlyClose d u) (hdropped : s.Dropped u d)
    (hsent : (s.cannon d).state = .spraying ∨ ((s.cannon d).state = .opening ∧ s.openQueued d = false)) :
    exec (.frameCompletion .control f) s = .next (transmitBoth (u.shut d false)) := by
  rw [exec_judged hj hc hu, settle_earlyClose_dropped_sent hdropped hc.2.1.1 hsent]

/-- An OPEN accepted on a cannon not in flight (R74, R99). -/
theorem exec_open_grounded (hj : s.Judges c d substitute) {q : StationCommand} (hc : s.Commanded f c body)
    (hread : readCommand body = some q) (hverb : q.verb = .openValve) (hmode : s.mode ≠ .off) (hup : s.fieldPort.up = true)
    (hfly : (s.cannon d).inFlight = false) (hfault : (s.cannon d).state ≠ .fault) (hstuck : (s.cannon d).state ≠ .stuck) :
    exec (.frameCompletion .control f) s = .next (transmitBoth
      (if q.fire = true ∧ s.Able (s.stationOf d) d ∧ (s.station (s.stationOf d)).pump = .running then
        arbitrate (s.stationOf d) d (s.asked d q.request)
      else s.asked d q.request)) := by
  have hdue : (s.asked d q.request).dueCapacity = [] := hc.2.1.1
  have hopen := automaticCommand_open (c := c) (substitute := substitute) hread hverb hmode hup hfault hstuck
  rw [acceptOpen_grounded hfly] at hopen
  refine exec_judged_settled hj hc (hopen.trans ?_) ?_
  · cases hq : q.fire with
    | true =>
      have hcls : q.request.cls = .fire := by rw [StationCommand.request, hq]; rfl
      rw [if_pos rfl, arbitrateFire_asked hmode hup hcls]
      by_cases h : s.Able (s.stationOf d) d ∧ (s.station (s.stationOf d)).pump = .running
      · rw [if_pos h, if_pos ⟨rfl, h⟩]
      · rw [if_neg h, if_neg fun hw => h hw.2]
    | false =>
      rw [if_neg Bool.false_ne_true, if_neg fun h => Bool.false_ne_true h.1]
  · split
    · exact (dueCapacity_arbitrate _ d _).trans hdue
    · exact hdue

/-- An OPEN accepted on a burst in flight: the conversion, and the close of one to MANUAL (R115, R144, R172). -/
theorem open_flying {q : StationCommand} (hread : readCommand body = some q)
    (hverb : q.verb = .openValve) (hmode : s.mode ≠ .off) (hup : s.fieldPort.up = true) {b : Burst}
    (hfly : (s.cannon d).inFlight = true) (hb : (s.cannon d).burst = some b)
    (hfits : SourcePasses (s.sourceEntry b.source) (s.source b.source) (if q.fire then .fire else .manual) q.priority
      ((s.cannonEntry d).flow * q.duration / 60) ((s.source b.source).committed - b.planned)) :
    let cls := if q.fire then BurstClass.fire else .manual
    let u := s.converted d b cls q.priority q.duration ((s.cannonEntry d).flow * q.duration / 60)
    automaticCommand d body c substitute (s.heard .control) =
      if cls = .manual ∧ (s.mode = .halt ∨ s.mode = .watch ∨
          ∃ z, b.credited = some z ∧ s.machineCount z ≠ 0 ∧ (s.zoneEntry z).policy = false) then earlyClose d u
      else u := by
  intro cls u
  have hflies := of_decide_eq_true hfly
  have hgood : (s.cannon d).state ≠ .fault ∧ (s.cannon d).state ≠ .stuck := by
    constructor <;> intro h <;> rw [h] at hflies <;> simp at hflies
  rw [automaticCommand_open hread hverb hmode hup hgood.1 hgood.2, acceptOpen_flying hfly hb hfits, convert_heard,
    closeConverted_eq]

end

/-- Settles O17: each command is its effect on the state in which it has been heard and the request dropped. -/
theorem manualOpenIsRecorded : Obligations.ManualOpenIsRecorded := by
  intro s f c d substitute hj k g leads dropsUnsent holding
  refine ⟨fun d1 d0 pr fr a1 a0 el hc hmode hup => ?_, fun rest hlength hc => ?_⟩
  · have hread := readCommand_open d1 d0 pr fr a1 a0 el
    intro priority duration
    refine ⟨fun hfly hfault hstuck => ?_, fun b hfly hb => ?_⟩
    · intro asked fire
      have hasked := exec_open_grounded hj hc hread rfl hmode hup hfly hfault hstuck
      have hfire : (openOf d1 d0 pr fr a1 a0 el).fire = decide (fr ≠ 0) := rfl
      have hrequest (hfr : fr ≠ 0) : s.asked d (openOf d1 d0 pr fr a1 a0 el).request = fire := by
        rw [StationCommand.request, hfire, if_pos (decide_eq_true hfr)]
        rfl
      refine ⟨fun hfr => ?_, fun hfr hable hpump => ?_, fun hfr hnot => ?_⟩
      · have hmanual : (openOf d1 d0 pr fr a1 a0 el).fire = false := decide_eq_false (not_not.mpr hfr)
        rw [if_neg fun h => Bool.false_ne_true (hmanual.symm.trans h.1), StationCommand.request, hmanual] at hasked
        exact hasked
      · rw [if_pos ⟨decide_eq_true hfr, hable, hpump⟩, hrequest hfr] at hasked
        exact hasked
      · rw [if_neg fun h => hnot h.2, hrequest hfr] at hasked
        exact hasked
    · intro cls planned hfits u closes
      have hcls : (if (openOf d1 d0 pr fr a1 a0 el).fire then BurstClass.fire else .manual) = cls :=
        burstClass_of_flag fr
      have hmanual : cls = .manual ↔ fr = 0 := burstClass_manual_iff fr
      have hopen := open_flying (c := c) (substitute := substitute) hread rfl hmode hup hfly hb
      rw [hcls] at hopen
      have hconverted := hopen hfits
      have hdropped : s.Dropped u d := dropped_converted b cls priority duration planned
      refine ⟨fun hnot => ?_, fun hcloses hsent => ?_, fun hcloses hopening hqueued => ?_⟩
      · exact exec_judged_settled hj hc (hconverted.trans (if_neg fun h => hnot ⟨hmanual.mp h.1, h.2⟩)) hc.2.1.1
      · refine exec_judged_shut hj hc (hconverted.trans (if_pos ⟨hmanual.mpr hcloses.1, hcloses.2⟩)) hdropped ?_
        obtain hopening | hspraying := of_decide_eq_true hfly
        · exact .inr ⟨hopening, hsent.resolve_left (by rw [hopening]; decide)⟩
        · exact .inl hspraying
      · exact exec_judged_unsent hj hc (hconverted.trans (if_pos ⟨hmanual.mpr hcloses.1, hcloses.2⟩)) hdropped hopening hqueued
  · intro time u
    obtain ⟨q, hread, hverb⟩ := readCommand_close hlength
    have hclose := automaticCommand_close (s := s) (c := c) (d := d) (substitute := substitute) hread hverb
    rw [manualClose_heard] at hclose
    have hdue : (s.held d).dueCapacity = [] := hc.2.1.1
    refine ⟨fun hmem => ?_, fun hunknown => ?_, fun hsent => ?_, fun hopening hqueued => ?_⟩
    · have hkept : automaticCommand d (2 :: rest) c substitute (s.heard .control) = s.held d := by
        rw [hclose]
        obtain h | h | h | h : (s.cannon d).state = .idle ∨ (s.cannon d).state = .closing ∨ (s.cannon d).state = .stuck ∨
            (s.cannon d).state = .fault := by simpa using hmem
        all_goals rw [h]
      exact exec_judged_settled hj hc hkept hdue
    · refine exec_judged_settled hj hc (hclose.trans ?_) ((dueCapacity_closeArisen _ d).trans hdue)
      have hstate : (s.cannon d).state = .unknown := hunknown
      rw [hstate]
      exact closeWithoutBurst_eq d (s.held d) (.inl (dropped_held.state.trans hunknown))
    · have hclosed : automaticCommand d (2 :: rest) c substitute (s.heard .control) = earlyClose d (s.held d) := by
        rw [hclose]
        obtain h | ⟨h, -⟩ : (s.cannon d).state = .spraying ∨ ((s.cannon d).state = .opening ∧ s.openQueued d = false) := hsent
        all_goals rw [h]
      exact exec_judged_shut hj hc hclosed dropped_held hsent
    · have hclosed : automaticCommand d (2 :: rest) c substitute (s.heard .control) = earlyClose d (s.held d) := by
        have hstate : (s.cannon d).state = .opening := hopening
        rw [hclose, hstate]
      exact exec_judged_unsent hj hc hclosed dropped_held hopening hqueued

end Sys2Proof.Machine
end

section
namespace Sys2Proof.Machine

/-! ## The order of the walk as statements write it out (R93, R94) -/

/-- A candidate placed before another has the smaller key (R94). -/
theorem rankKey_lt_of_ranksBefore {s : State} {g : StationId} {a b : CannonId} (h : s.RanksBefore g a b) :
    s.rankKey g a < s.rankKey g b := by
  have hfar (c : CannonId) : distance (s.station g).pointer c < 48 := Nat.mod_lt _ (by omega)
  have hlow (c : CannonId) : 3 - (s.cannon c).request.elim 0 (·.priority) ≤ 3 := Nat.sub_le _ _
  have hflag (p : Prop) [Decidable p] : (if p then 0 else 1) ≤ 1 := by split <;> omega
  have hfa := hfar a
  have hla := hlow a
  have hoa := hflag ((s.cannon a).holds .auto = true ∧ 0 < (s.cannon a).owed)
  have hob := hflag ((s.cannon b).holds .auto = true ∧ 0 < (s.cannon b).owed)
  unfold State.rankKey
  dsimp only [State.RanksBefore] at h ⊢
  obtain ⟨hfirst, hsecond⟩ | ⟨hfire, hlower | ⟨hsame, ⟨howed, hnone⟩ | ⟨howed, hnear⟩⟩⟩ := h
  · rw [if_pos hfirst, if_neg hsecond]
    omega
  · rw [hfire]
    omega
  · rw [hfire, hsame, if_pos (of_decide_eq_true howed), if_neg fun hb => hnone (decide_eq_true hb)]
    omega
  · have hkeys : (if (s.cannon a).holds .auto = true ∧ 0 < (s.cannon a).owed then 0 else 1) =
        if (s.cannon b).holds .auto = true ∧ 0 < (s.cannon b).owed then 0 else 1 :=
      if_congr (decide_eq_decide.mp howed) rfl rfl
    have hnear' : distance (s.station g).pointer a < distance (s.station g).pointer b := hnear
    rw [hfire, hsame, hkeys]
    omega

/-- The keys of two cannons differ. -/
theorem rankKey_injective (s : State) (g : StationId) {a b : CannonId} (h : s.rankKey g a = s.rankKey g b) : a = b := by
  have hkey (c : CannonId) : s.rankKey g c % 48 = (c.val + 48 - (s.station g).pointer.val) % 48 := by
    unfold State.rankKey distance
    dsimp only
    omega
  have hmod := (hkey a).symm.trans ((congrArg (· % 48) h).trans (hkey b))
  have := (s.station g).pointer.isLt
  exact Fin.ext (by omega)

/-- The cannons that satisfy a test, in the order of R94. -/
theorem ranked_of_walkOf {s : State} {g : StationId} {p : CannonId → Prop} {test : CannonId → Bool}
    (hp : ∀ c, test c = true ↔ p c) {cs : List CannonId} (h : s.WalkOf g p cs) :
    s.ranked g ((List.finRange 48).filter test) = cs := by
  obtain ⟨hmem, hpairs⟩ := h
  have hstrict : cs.Pairwise fun a b => s.rankKey g a < s.rankKey g b := hpairs.imp rankKey_lt_of_ranksBefore
  have hnodup : cs.Nodup := hstrict.imp fun hlt e => by subst e; exact Nat.lt_irrefl _ hlt
  have hperm : (s.ranked g ((List.finRange 48).filter test)).Perm cs := by
    refine (List.perm_insertionSort _ _).trans
      ((List.perm_ext_iff_of_nodup ((List.nodup_finRange 48).filter _) hnodup).mpr fun c => ?_)
    rw [List.mem_filter, hmem, hp]
    exact and_iff_right (List.mem_finRange c)
  have htotal : Std.Total fun a b : CannonId => s.rankKey g a ≤ s.rankKey g b := ⟨fun a b => Nat.le_total _ _⟩
  have htrans : IsTrans CannonId fun a b => s.rankKey g a ≤ s.rankKey g b := ⟨fun _ _ _ => Nat.le_trans⟩
  have hsorted := List.pairwise_insertionSort (fun a b => s.rankKey g a ≤ s.rankKey g b) ((List.finRange 48).filter test)
  exact hperm.eq_of_pairwise (fun a b _ _ hab hba => rankKey_injective s g (Nat.le_antisymm hab hba)) hsorted
    (hstrict.imp Nat.le_of_lt)

/-- The candidates of a slot (R93, R142). -/
theorem candidate_iff (s : State) (g : StationId) (c : CannonId) :
    s.candidate g c = true ↔ s.Candidate g (s.station g).slot.val c := by
  have hfree (z : ZoneId) : (!s.excluded z) = true ↔ s.machineCount z = 0 ∨ (s.zoneEntry z).policy = true := by
    rw [Bool.not_eq_true', ← Bool.not_eq_true, excluded_iff, not_and_or, not_not, Bool.not_eq_false]
  have hfree' (z : Option ZoneId) : (!s.excludedOpt z) = true ↔
      ∀ y, z = some y → s.machineCount y = 0 ∨ (s.zoneEntry y).policy = true := by
    cases z with
    | none => simp [State.excludedOpt]
    | some y => simpa [State.excludedOpt] using hfree y
  rw [State.candidate, Bool.and_eq_true, ← able_iff]
  refine and_congr_right fun _ => ?_
  unfold State.requestOpen Cannon.holds
  cases hr : (s.cannon c).request with
  | none => simp
  | some r =>
    cases r with
    | auto p z => simp [CannonRequest.cls, hfree]
    | manual p d a e => simp [CannonRequest.cls, hfree']
    | fire p d a e => simp [CannonRequest.cls]

/-! ## A slot lost (R98) -/

theorem owe_cannon (c d : CannonId) (s : State) :
    (owe c s).cannon d =
      if d = c ∧ (s.cannon d).holds .auto = true then { s.cannon d with owed := min 2 ((s.cannon d).owed + 1) }
      else s.cannon d := by
  unfold owe
  rw [State.cannon_updCannon]
  by_cases hd : d = c
  · subst hd; simp
  · simp [hd]

/-- Over a list of distinct cannons each is owed one burst more where it holds an AUTO request. -/
theorem foldl_owe (cs : List CannonId) (hnodup : cs.Nodup) (s : State) :
    (∃ cannons, cs.foldl (fun t c => owe c t) s = { s with cannons := cannons }) ∧
    ∀ d, (cs.foldl (fun t c => owe c t) s).cannon d =
      if d ∈ cs ∧ (s.cannon d).holds .auto = true then { s.cannon d with owed := min 2 ((s.cannon d).owed + 1) }
      else s.cannon d := by
  induction cs generalizing s with
  | nil => exact ⟨⟨_, rfl⟩, fun d => by simp⟩
  | cons c cs ih =>
    obtain ⟨hc, hrest⟩ := List.nodup_cons.mp hnodup
    obtain ⟨⟨cannons, hstate⟩, hcannon⟩ := ih hrest (owe c s)
    refine ⟨⟨cannons, hstate⟩, fun d => (hcannon d).trans ?_⟩
    have hone := owe_cannon c d s
    by_cases hd : d = c
    · subst hd
      rw [if_neg fun h => hc h.1, hone]
      simp
    · rw [if_neg fun h => hd h.1] at hone
      rw [hone]
      simp [hd]

/-- A lost slot raises the owed count of each candidate's AUTO request and changes nothing else (R98). -/
theorem loseSlot_eq (g : StationId) (s : State) :
    (∃ cannons, loseSlot g s = { s with cannons := cannons }) ∧
    ∀ d, (s.Candidate g (s.station g).slot.val d ∧ (s.cannon d).holds .auto = true →
        (loseSlot g s).cannon d = { s.cannon d with owed := min 2 ((s.cannon d).owed + 1) }) ∧
      (¬ (s.Candidate g (s.station g).slot.val d ∧ (s.cannon d).holds .auto = true) →
        (loseSlot g s).cannon d = s.cannon d) := by
  obtain ⟨hstate, hcannon⟩ := foldl_owe ((List.finRange 48).filter fun c => s.candidate g c)
    ((List.nodup_finRange 48).filter _) s
  have hmem (d : CannonId) : d ∈ (List.finRange 48).filter (fun c => s.candidate g c) ↔
      s.Candidate g (s.station g).slot.val d := by
    rw [List.mem_filter, candidate_iff]
    exact and_iff_right (List.mem_finRange d)
  refine ⟨hstate, fun d => ⟨fun h => (hcannon d).trans (if_pos ⟨(hmem d).mpr h.1, h.2⟩), fun h => ?_⟩⟩
  exact (hcannon d).trans (if_neg fun hd => h ⟨(hmem d).mp hd.1, hd.2⟩)

end Sys2Proof.Machine
end

section
namespace Sys2Proof.Machine

/-! ## The walk of a close waiting list, written out (R88, R89, R104) -/

/-- The walk of the list `queue` of station `g` has come from state `s` to state `u` past the cannons `past`. -/
structure State.Walking (s u : State) (g : StationId) (queue past : List CannonId) : Prop where
  judged : s.AdmitsInOrder u past
  state : u = { s with cannons := u.cannons, stations := u.stations, commands := u.commands }
  cannons : ∀ c, u.cannon c = s.cannon c ∨
    (c ∈ past ∧ u.cannon c =
      { s.cannon c with state := .closing, faultPending := decide ((s.cannon c).state = .fault) })
  commands : u.commands = s.commands ++
    ((past.filter fun c => (u.cannon c).state = .closing ∧ s.hasCommand c = false).map fun c =>
      { cannon := c, verb := .closeValve })
  others : ∀ h, h ≠ g → u.station h = s.station h
  station : let closing := past.filter fun c => (u.cannon c).state = .closing
    u.station g =
      { s.station g with
        waiting := queue.filter fun c => (u.cannon c).state ≠ .closing
        inUse := (s.station g).inUse + closing.length
        inUseFlow := (s.station g).inUseFlow + (closing.map fun c => (s.cannonEntry c).flow).sum }

section
variable {s u : State} {g : StationId} {queue past : List CannonId} {c : CannonId}

theorem State.Walking.walked (h : s.Walking u g queue queue) : s.Walked u g queue :=
  ⟨h.judged, h.state, h.cannons, h.commands, h.others, h.station⟩

/-- Before the first cannon nothing has changed. -/
theorem walking_nil (hwaiting : (s.station g).waiting = queue) (hstate : ∀ c ∈ queue, (s.cannon c).state ≠ .closing) :
    s.Walking s g queue [] where
  judged i c h := by simp at h
  state := rfl
  cannons _ := .inl rfl
  commands := (List.append_nil _).symm
  others _ _ := rfl
  station := by
    have hall : queue.filter (fun c => decide ((s.cannon c).state ≠ .closing)) = queue :=
      List.filter_eq_self.mpr fun c hc => decide_eq_true (hstate c hc)
    have hkept : s.station g = { s.station g with
        waiting := queue.filter fun c => decide ((s.cannon c).state ≠ .closing) } := by rw [hall, ← hwaiting]
    exact hkept

/-- A cannon not yet reached is as it was. -/
theorem State.Walking.ahead (h : s.Walking u g queue past) (hc : c ∉ past) : u.cannon c = s.cannon c :=
  (h.cannons c).resolve_right fun hp => hc hp.1

/-- Its commands are those it had. -/
theorem State.Walking.hasCommand_ahead (h : s.Walking u g queue past) (hc : c ∉ past) : u.hasCommand c = s.hasCommand c := by
  have hadded : ((past.filter fun d => (u.cannon d).state = .closing ∧ s.hasCommand d = false).map fun d =>
      ({ cannon := d, verb := .closeValve } : Command)).any (fun q => decide (q.cannon = c)) = false := by
    rw [List.any_eq_false]
    intro q hq
    obtain ⟨d, hd, rfl⟩ := List.mem_map.mp hq
    have hdc : d ≠ c := fun e => hc (e ▸ (List.mem_filter.mp hd).1)
    simpa using hdc
  rw [State.hasCommand, h.commands, List.any_append, hadded, Bool.or_false]
  rfl

/-- The next cannon is admitted by the tests of R89 at the places that those before it have left. -/
theorem State.Walking.admits_iff (h : s.Walking u g queue past) (hc : c ∉ past) (hg : s.stationOf c = g) :
    u.Admits c ↔ s.wired c ∧ s.fieldPort.up ∧
      (s.station g).inUse + (past.filter fun d => (u.cannon d).state = .closing).length < (s.stationEntry g).limit ∧
      (s.station g).inUseFlow + ((past.filter fun d => (u.cannon d).state = .closing).map fun d =>
        (s.cannonEntry d).flow).sum + (s.cannonEntry c).flow ≤ (s.stationEntry g).maxFlow := by
  have hplace : u.stationOf c = g := by rw [State.stationOf, h.ahead hc]; exact hg
  have hcfg : u.cfg = s.cfg := by rw [h.state]
  have hfield : u.fieldPort = s.fieldPort := by rw [h.state]
  have hstation := h.station
  unfold State.Admits State.wired State.mapped State.stationEntry State.cannonEntry
  rw [hplace, hstation, hcfg, hfield]
  exact Iff.rfl

/-- The cannons that the walk has taken to CLOSING, where those passed stay as they are. -/
theorem filter_closing_congr {u' : State} {l : List CannonId} (h : ∀ d ∈ l, u'.cannon d = u.cannon d) :
    (l.filter fun d => (u'.cannon d).state = .closing) = l.filter fun d => (u.cannon d).state = .closing :=
  List.filter_congr fun d hd => by rw [h d hd]

/-- The judgement of one cannon more (R89). -/
theorem admitsInOrder_snoc {u' : State} (h : s.AdmitsInOrder u past) (hsame : ∀ d ∈ past, u'.cannon d = u.cannon d)
    (hplaces : ∀ d ∈ past, s.stationOf d = g) (hg : s.stationOf c = g)
    (hc : (u'.cannon c).state = .closing ↔ s.wired c ∧ s.fieldPort.up ∧
      (s.station g).inUse + (past.filter fun d => (u.cannon d).state = .closing).length < (s.stationEntry g).limit ∧
      (s.station g).inUseFlow + ((past.filter fun d => (u.cannon d).state = .closing).map fun d =>
        (s.cannonEntry d).flow).sum + (s.cannonEntry c).flow ≤ (s.stationEntry g).maxFlow) :
    s.AdmitsInOrder u' (past ++ [c]) := by
  intro i d hd
  rw [List.getElem?_append] at hd
  split at hd
  · next hi =>
    have hmem : d ∈ past := List.mem_of_getElem? hd
    have htake : (past ++ [c]).take i = past.take i := List.take_append_of_le_length hi.le
    have hbefore : (past.take i).filter (fun e => s.stationOf e = s.stationOf d ∧ (u'.cannon e).state = .closing) =
        (past.take i).filter fun e => s.stationOf e = s.stationOf d ∧ (u.cannon e).state = .closing :=
      List.filter_congr fun e he => by rw [hsame e (List.mem_of_mem_take he)]
    dsimp only
    rw [htake, hbefore, hsame d hmem]
    exact h i d hd
  · next hi =>
    have hlast : i - past.length = 0 ∧ c = d := by
      cases hk : i - past.length with
      | zero => rw [hk] at hd; exact ⟨rfl, by simpa using hd⟩
      | succ k => rw [hk] at hd; simp at hd
    obtain ⟨hzero, rfl⟩ := hlast
    have htake : (past ++ [c]).take i = past := by
      have hi' : i = past.length := by omega
      rw [hi', List.take_left]
    have hbefore : past.filter (fun e => s.stationOf e = g ∧ (u'.cannon e).state = .closing) =
        past.filter fun e => (u.cannon e).state = .closing :=
      List.filter_congr fun e he => by rw [hsame e he, hplaces e he]; simp
    dsimp only
    rw [htake, hg, hbefore]
    exact hc

/-- A cannon that does not fit stays on the list, and the walk goes on (R89). -/
theorem State.Walking.passed (h : s.Walking u g queue past) (hplaces : ∀ d ∈ past, s.stationOf d = g) (hc : c ∉ past)
    (hg : s.stationOf c = g) (hstate : (s.cannon c).state ≠ .closing) (hfits : ¬ u.Admits c) :
    s.Walking u g queue (past ++ [c]) := by
  have hopen : (u.cannon c).state ≠ .closing := by rw [h.ahead hc]; exact hstate
  have hclosing : ((past ++ [c]).filter fun d => (u.cannon d).state = .closing) =
      past.filter fun d => (u.cannon d).state = .closing := by
    rw [List.filter_append, List.filter_cons_of_neg (by simpa using hopen), List.filter_nil, List.append_nil]
  have hadded : ((past ++ [c]).filter fun d => (u.cannon d).state = .closing ∧ s.hasCommand d = false) =
      past.filter fun d => (u.cannon d).state = .closing ∧ s.hasCommand d = false := by
    rw [List.filter_append, List.filter_cons_of_neg (by simp [hopen]), List.filter_nil, List.append_nil]
  refine ⟨admitsInOrder_snoc h.judged (fun _ _ => rfl) hplaces hg ?_, h.state, fun d => ?_, ?_, h.others, ?_⟩
  · rw [← h.admits_iff hc hg]
    exact iff_of_false hopen hfits
  · exact (h.cannons d).imp_right fun ⟨hd, he⟩ => ⟨List.mem_append_left _ hd, he⟩
  · rw [hadded]; exact h.commands
  · dsimp only
    rw [hclosing]
    exact h.station

/-- One that fits enters CLOSING, takes its place and leaves the list, and its CLOSE is queued (R88, R89, R104). -/
theorem State.Walking.admitted (h : s.Walking u g queue past) (hplaces : ∀ d ∈ past, s.stationOf d = g) (hc : c ∉ past)
    (hg : s.stationOf c = g) (hstate : (s.cannon c).state ≠ .closing) (hothers : ∀ k, k ≠ g → c ∉ (s.station k).waiting)
    (hfits : u.Admits c) :
    s.Walking (takeClose c u) g queue (past ++ [c]) := by
  have hplace : u.stationOf c = g := by rw [State.stationOf, h.ahead hc]; exact hg
  have hself := takeClose_cannon u c
  have hne : ∀ d, d ≠ c → (takeClose c u).cannon d = u.cannon d := fun d hd => takeClose_cannon_ne u c d hd
  have hsame : ∀ d ∈ past, (takeClose c u).cannon d = u.cannon d := fun d hd => hne d fun e => hc (e ▸ hd)
  have hclosed : ((takeClose c u).cannon c).state = .closing := by rw [hself]
  have hclosing : ((past ++ [c]).filter fun d => ((takeClose c u).cannon d).state = .closing) =
      (past.filter fun d => (u.cannon d).state = .closing) ++ [c] := by
    rw [List.filter_append, filter_closing_congr hsame, List.filter_cons_of_pos (by simpa using hclosed), List.filter_nil]
  have hwaiting : queue.filter (fun d => ((takeClose c u).cannon d).state ≠ .closing) =
      (queue.filter fun d => (u.cannon d).state ≠ .closing).filter (· ≠ c) := by
    rw [List.filter_filter]
    refine List.filter_congr fun d _ => ?_
    by_cases hd : d = c
    · subst hd; simp [hclosed]
    · simp [hne d hd, hd]
  have hstation (k : StationId) : (takeClose c u).station k =
      if k = g then
        { u.station k with
          waiting := (u.station k).waiting.filter (· ≠ c)
          inUse := (u.station k).inUse + 1, inUseFlow := (u.station k).inUseFlow + (u.cannonEntry c).flow }
      else { u.station k with waiting := (u.station k).waiting.filter (· ≠ c) } := by
    have hmapped : (u.stations.map fun x => { x with waiting := x.waiting.filter (· ≠ c) })[k] =
        { u.station k with waiting := (u.station k).waiting.filter (· ≠ c) } := vector_map_get _ _ _
    rw [takeClose_eq, hplace]
    refine (updAt_get _ _ _ _).trans ?_
    by_cases hk : k = g
    · subst hk; rw [if_pos rfl, if_pos rfl, hmapped]
    · rw [if_neg hk, if_neg hk, hmapped]
  refine ⟨admitsInOrder_snoc h.judged hsame hplaces hg ?_, ?_, fun d => ?_, ?_, fun k hk => ?_, ?_⟩
  · rw [← h.admits_iff hc hg]
    exact iff_of_true hclosed hfits
  · rw [takeClose_eq, h.state]
  · by_cases hd : d = c
    · subst hd
      exact .inr ⟨by simp, by rw [hself, h.ahead hc]⟩
    · rw [hne d hd]
      exact (h.cannons d).imp_right fun ⟨hd, he⟩ => ⟨List.mem_append_left _ hd, he⟩
  · have hkept : past.filter (fun d => ((takeClose c u).cannon d).state = .closing ∧ s.hasCommand d = false) =
        past.filter fun d => (u.cannon d).state = .closing ∧ s.hasCommand d = false :=
      List.filter_congr fun d hd => by rw [hsame d hd]
    have hqueued : (takeClose c u).commands = if u.hasCommand c then u.commands
        else u.commands ++ [{ cannon := c, verb := .closeValve }] := by rw [takeClose_eq]
    rw [hqueued, h.hasCommand_ahead hc, List.filter_append, hkept, List.map_append, ← List.append_assoc, ← h.commands]
    cases hcommand : s.hasCommand c with
    | true =>
      rw [if_pos rfl, List.filter_cons_of_neg (by simp [hcommand]), List.filter_nil, List.map_nil, List.append_nil]
    | false =>
      rw [if_neg Bool.false_ne_true, List.filter_cons_of_pos (by simp [hcommand, hclosed]), List.filter_nil]
      rfl
  · have hout : (s.station k).waiting.filter (· ≠ c) = (s.station k).waiting :=
      List.filter_eq_self.mpr fun d hd => decide_eq_true fun e => hothers k hk (e ▸ hd)
    rw [hstation k, if_neg hk, h.others k hk, hout]
  · have hentry : u.cannonEntry c = s.cannonEntry c := by rw [h.state]; rfl
    dsimp only
    rw [hclosing, hwaiting, hstation g, if_pos rfl, h.station, hentry]
    simp only [List.length_append, List.length_singleton, List.map_append, List.map_singleton, List.sum_append,
      List.sum_singleton, Nat.add_assoc]

end

/-- The walk of a station's close waiting list (R89). -/
theorem walked_walkWaiting {s : State} (g : StationId) (h : s.WaitingHeld) :
    s.Walked (walkWaiting g s) g (s.station g).waiting := by
  obtain ⟨hnodup, hmembers⟩ := h g
  have hstate : ∀ c ∈ (s.station g).waiting, (s.cannon c).state ≠ .closing := fun c hc hclosing => by
    obtain hs | hs | hs := (hmembers c hc).2 <;> rw [hclosing] at hs <;> cases hs
  have hothers : ∀ c ∈ (s.station g).waiting, ∀ k, k ≠ g → c ∉ (s.station k).waiting := fun c hc k hk hmem =>
    hk (((h k).2 c hmem).1.symm.trans (hmembers c hc).1)
  have hwalk : ∀ (todo past : List CannonId) (u : State), past ++ todo = (s.station g).waiting →
      s.Walking u g (s.station g).waiting past →
      s.Walking (todo.foldl (fun t c => if t.canClose c then takeClose c t else t) u) g (s.station g).waiting
        (s.station g).waiting := by
    intro todo
    induction todo with
    | nil =>
      intro past u hqueue hu
      rw [List.append_nil] at hqueue
      rw [List.foldl_nil]
      exact hqueue ▸ hu
    | cons c todo ih =>
      intro past u hqueue hu
      have hmem : c ∈ (s.station g).waiting := hqueue ▸ List.mem_append_right _ List.mem_cons_self
      have hfresh : c ∉ past := fun hc =>
        (List.nodup_append.mp (hqueue ▸ hnodup)).2.2 c hc c List.mem_cons_self rfl
      have hplaces : ∀ d ∈ past, s.stationOf d = g := fun d hd =>
        (hmembers d (hqueue ▸ List.mem_append_left _ hd)).1
      have hg := (hmembers c hmem).1
      rw [List.foldl_cons]
      refine ih (past ++ [c]) _ (by rw [List.append_assoc]; exact hqueue) ?_
      by_cases hfits : u.Admits c
      · rw [if_pos ((canClose_iff u c).mpr hfits)]
        exact hu.admitted hplaces hfresh hg (hstate c hmem) (hothers c hmem) hfits
      · rw [if_neg fun hc => hfits ((canClose_iff u c).mp hc)]
        exact hu.passed hplaces hfresh hg (hstate c hmem) hfits
  exact (hwalk _ [] s rfl (walking_nil rfl hstate)).walked

end Sys2Proof.Machine
end

section
namespace Sys2Proof.Machine

/-! ## The cannons a station takes over at its slot start, written out (R64, R89) -/

/-- The station takes the cannon over from another. -/
abbrev State.TakenOver (s : State) (g : StationId) (c : CannonId) : Prop :=
  (s.cannonEntry c).station = g ∧ s.stationOf c ≠ g ∧ (s.cannon c).state.holdsPlace = false

/-- From state `s` to state `u` station `g` has taken over those cannons of `cs` that are written to it: each with its station, and
with its place on a close waiting list moved to the tail of `g`'s. -/
structure State.TookOver (s u : State) (g : StationId) (cs : List CannonId) : Prop where
  state : u = { s with cannons := u.cannons, stations := u.stations }
  cannon : ∀ d, u.cannon d = if d ∈ cs ∧ s.TakenOver g d then { s.cannon d with station := g } else s.cannon d
  station : ∀ h, u.station h = { s.station h with
    waiting := if h = g then (s.station g).waiting ++ cs.filter fun c => s.TakenOver g c ∧ s.closeWaiting c
      else (s.station h).waiting.filter fun c => ¬ (c ∈ cs ∧ s.TakenOver g c) }

section
variable {s u : State} {g : StationId} {cs : List CannonId} {c : CannonId}

theorem tookOver_nil (s : State) (g : StationId) : s.TookOver s g [] where
  state := rfl
  cannon d := (if_neg fun h => by cases h.1).symm
  station h := by
    have hall : (s.station h).waiting.filter (fun c => decide (¬ (c ∈ ([] : List CannonId) ∧ s.TakenOver g c))) =
        (s.station h).waiting := List.filter_eq_self.mpr fun c _ => decide_eq_true fun hc => by cases hc.1
    rw [hall]
    by_cases hg : h = g
    · subst hg; rw [if_pos rfl, List.filter_nil, List.append_nil]
    · rw [if_neg hg]

/-- A cannon that is not taken over stays, on its list too. -/
theorem State.TookOver.kept (h : s.TookOver u g cs) (hc : ¬ s.TakenOver g c) : s.TookOver u g (cs ++ [c]) where
  state := h.state
  cannon d := by
    have hiff : (d ∈ cs ++ [c] ∧ s.TakenOver g d) ↔ (d ∈ cs ∧ s.TakenOver g d) :=
      and_congr_left fun hd => by
        rw [List.mem_append, List.mem_singleton]
        exact or_iff_left fun e => hc (e ▸ hd)
    rw [h.cannon d]
    exact if_congr hiff.symm rfl rfl
  station k := by
    have hsame : ∀ d, (d ∈ cs ++ [c] ∧ s.TakenOver g d) ↔ (d ∈ cs ∧ s.TakenOver g d) := fun d =>
      and_congr_left fun hd => by
        rw [List.mem_append, List.mem_singleton]
        exact or_iff_left fun e => hc (e ▸ hd)
    have hnone : [c].filter (fun c => s.TakenOver g c ∧ s.closeWaiting c) = [] :=
      List.filter_eq_nil_iff.mpr fun d hd => by
        rw [List.mem_singleton] at hd
        subst hd
        simp only [decide_eq_true_iff]
        exact fun ht => hc ht.1
    rw [h.station k, List.filter_append, hnone, List.append_nil]
    simp only [hsame]

/-- What the taking over of one cannon does to the stations. -/
theorem takeOver_station (h : u.TakenOver g c) (k : StationId) :
    (takeOver g c u).station k = { u.station k with
      waiting := (u.station k).waiting.filter (· ≠ c) ++ if k = g ∧ u.closeWaiting c then [c] else [] } := by
  have hstopped (d : StationId) : ((stopWaiting c u).updCannon c fun x => { x with station := g }).station d =
      { u.station d with waiting := (u.station d).waiting.filter (· ≠ c) } := vector_map_get _ _ _
  have hplace : ((stopWaiting c u).updCannon c fun x => { x with station := g }).stationOf c = g :=
    congrArg Cannon.station (State.cannon_updCannon_self (stopWaiting c u) c _)
  have hfree : ((stopWaiting c u).updCannon c fun x => { x with station := g }).closeWaiting c = false := by
    rw [← Bool.not_eq_true, closeWaiting_iff]
    rintro ⟨d, hd⟩
    rw [hstopped] at hd
    simpa using (List.mem_filter.mp hd).2
  have hwhen : (u.cannonEntry c).station = g ∧ u.stationOf c ≠ g ∧ ¬ (u.cannon c).state.holdsPlace = true :=
    ⟨h.1, h.2.1, by rw [h.2.2]; exact Bool.false_ne_true⟩
  unfold takeOver
  rw [if_pos hwhen]
  dsimp only
  by_cases hw : u.closeWaiting c = true
  · rw [if_pos hw, joinWaiting, hfree, if_neg Bool.false_ne_true, hplace, State.station_updStation]
    by_cases hk : k = g
    · subst hk
      rw [if_pos rfl, if_pos ⟨rfl, hw⟩, hstopped]
    · rw [if_neg hk, if_neg fun hc => hk hc.1, hstopped, List.append_nil]
  · rw [if_neg hw, if_neg fun hc => hw hc.2, hstopped, List.append_nil]

theorem takeOver_state (g : StationId) (c : CannonId) (u : State) :
    ∃ cannons stations, takeOver g c u = { u with cannons := cannons, stations := stations } := by
  unfold takeOver
  split
  · dsimp only
    split
    · unfold joinWaiting
      split
      · exact ⟨_, _, rfl⟩
      · exact ⟨_, _, rfl⟩
    · exact ⟨_, _, rfl⟩
  · exact ⟨_, _, rfl⟩

/-- One cannon more taken over. -/
theorem State.TookOver.taken (h : s.TookOver u g cs) (hfresh : c ∉ cs) (hc : s.TakenOver g c)
    (hapart : ∀ d, s.TakenOver g d → d ∉ (s.station g).waiting) : s.TookOver (takeOver g c u) g (cs ++ [c]) := by
  have hself : u.cannon c = s.cannon c := by rw [h.cannon c, if_neg fun hd => hfresh hd.1]
  have hentry : u.cannonEntry c = s.cannonEntry c := by rw [h.state]; rfl
  have hcu : u.TakenOver g c := by
    unfold State.TakenOver State.stationOf
    rw [hself, hentry]
    exact hc
  have hlist (k : StationId) : (u.station k).waiting = if k = g then
      (s.station g).waiting ++ cs.filter fun c => s.TakenOver g c ∧ s.closeWaiting c
      else (s.station k).waiting.filter fun c => ¬ (c ∈ cs ∧ s.TakenOver g c) := by rw [h.station k]
  have hwaits : u.closeWaiting c = s.closeWaiting c := by
    rw [Bool.eq_iff_iff, closeWaiting_iff, closeWaiting_iff]
    refine exists_congr fun k => ?_
    rw [hlist k]
    by_cases hk : k = g
    · subst hk
      rw [if_pos rfl, List.mem_append, or_iff_left fun hm => hfresh (List.mem_filter.mp hm).1]
    · rw [if_neg hk, List.mem_filter]
      exact and_iff_left (decide_eq_true fun hd => hfresh hd.1)
  refine ⟨?_, fun d => ?_, fun k => ?_⟩
  · obtain ⟨cannons, stations, htaken⟩ := takeOver_state g c u
    rw [htaken, h.state]
  · rw [takeOver_cannon, hself, hentry]
    by_cases hd : d = c
    · subst hd
      rw [if_pos ⟨rfl, hc.1, hc.2.2⟩, if_pos ⟨by simp, hc⟩, hself]
    · rw [if_neg fun hn => hd hn.1, h.cannon d]
      refine if_congr (and_congr_left fun _ => ?_) rfl rfl
      rw [List.mem_append, List.mem_singleton, or_iff_left hd]
  · rw [takeOver_station hcu, hwaits, hlist k, h.station k]
    by_cases hk : k = g
    · subst hk
      have hout : ((s.station k).waiting ++ cs.filter fun d => s.TakenOver k d ∧ s.closeWaiting d).filter (· ≠ c) =
          (s.station k).waiting ++ cs.filter fun d => s.TakenOver k d ∧ s.closeWaiting d := by
        refine List.filter_eq_self.mpr fun d hd => decide_eq_true fun e => ?_
        subst e
        exact (List.mem_append.mp hd).elim (hapart d hc) fun hm => hfresh (List.mem_filter.mp hm).1
      have hlast : [c].filter (fun d => s.TakenOver k d ∧ s.closeWaiting d) =
          if k = k ∧ s.closeWaiting c = true then [c] else [] := by
        rw [List.filter_cons, List.filter_nil]
        exact if_congr ⟨fun hw => ⟨rfl, (of_decide_eq_true hw).2⟩, fun hw => decide_eq_true ⟨hc, hw.2⟩⟩ rfl rfl
      rw [if_pos rfl, if_pos rfl, hout, List.filter_append, hlast, List.append_assoc]
    · have hleft : ((s.station k).waiting.filter fun d => ¬ (d ∈ cs ∧ s.TakenOver g d)).filter (· ≠ c) =
          (s.station k).waiting.filter fun d => ¬ (d ∈ cs ++ [c] ∧ s.TakenOver g d) := by
        rw [List.filter_filter]
        refine List.filter_congr fun d _ => ?_
        by_cases hd : d = c
        · subst hd; simp [hc]
        · simp [hd]
      rw [if_neg hk, if_neg hk, hleft, if_neg fun hn => hk hn.1, List.append_nil]

/-- Every cannon written to the station is taken over, in ascending cannon number (R64). -/
theorem tookOver_eachCannon (hapart : ∀ d, s.TakenOver g d → d ∉ (s.station g).waiting) :
    s.TookOver (eachCannon (takeOver g) s) g (List.finRange 48) := by
  have hall : ∀ (todo past : List CannonId) (u : State), past ++ todo = List.finRange 48 → s.TookOver u g past →
      s.TookOver (todo.foldl (fun t c => takeOver g c t) u) g (List.finRange 48) := by
    intro todo
    induction todo with
    | nil =>
      intro past u hpast hu
      rw [List.append_nil] at hpast
      exact hpast ▸ hu
    | cons c todo ih =>
      intro past u hpast hu
      have hfresh : c ∉ past := fun hc =>
        (List.nodup_append.mp (hpast ▸ List.nodup_finRange 48)).2.2 c hc c List.mem_cons_self rfl
      refine ih (past ++ [c]) (takeOver g c u) (by rw [List.append_assoc]; exact hpast) ?_
      by_cases hc : s.TakenOver g c
      · exact hu.taken hfresh hc hapart
      · have hself : u.cannon c = s.cannon c := by rw [hu.cannon c, if_neg fun hd => hfresh hd.1]
        have hentry : u.cannonEntry c = s.cannonEntry c := by rw [hu.state]; rfl
        have hstays : takeOver g c u = u := by
          refine if_neg fun ⟨hwritten, haway, hfree⟩ => hc ?_
          unfold State.stationOf at haway
          rw [hself] at haway hfree
          rw [hentry] at hwritten
          exact ⟨hwritten, haway, Bool.eq_false_iff.mpr hfree⟩
        rw [hstays]
        exact hu.kept hc
  exact hall _ [] s rfl (tookOver_nil s g)

end

end Sys2Proof.Machine
end

section
namespace Sys2Proof.Machine

/-! ## What a slot start leaves (R64, R92) -/

/-- The state in which the slot has advanced and its timer restarted (R92). -/
def State.slotAdvanced (s : State) (g : StationId) : State :=
  s.updStation g fun x => { x with slot := x.slot + 1, slotTimer := some (s.stationEntry g).slotLength }

section
variable (s : State) (g : StationId)

theorem yard_takeOver (c : CannonId) (u : State) : u.YardFrame (takeOver g c u) := by
  have hmoved : u.YardFrame ((stopWaiting c u).updCannon c fun k => { k with station := g }) :=
    (yard_mapStations _ u fun _ => rfl).trans (yard_updCannon c _ _)
  have hjoined (v : State) : v.YardFrame (joinWaiting c v) := yard_ite (.refl v) (yard_updStation _ _ v fun _ => rfl)
  exact yard_ite (yard_ite (hmoved.trans (hjoined _)) hmoved) (.refl u)

/-- The slot start after the taking over of cannons, by mode and conditions (R92, R98, R99). -/
theorem slotStart_eq :
    slotStart g s =
      let w := walkWaiting g (eachCannon (takeOver g) (s.slotAdvanced g))
      let served := s.fieldPort.up && (s.station g).available
      match s.mode with
      | .run => if served then arbitrateSlot g w else loseSlot g w
      | .watch | .halt => if served then arbitrateFires g w else w
      | .off => w := by
  have hself : (s.slotAdvanced g).station g =
      { s.station g with slot := (s.station g).slot + 1, slotTimer := some (s.stationEntry g).slotLength } :=
    updAt_get_self _ _ _
  have havailable : ((s.slotAdvanced g).station g).available = (s.station g).available := by rw [hself]; rfl
  unfold slotStart
  dsimp only
  rw [← havailable]
  rfl

theorem yard_slotStart : (s.slotAdvanced g).YardFrame (slotStart g s) := by
  have hwalked : (s.slotAdvanced g).YardFrame (walkWaiting g (eachCannon (takeOver g) (s.slotAdvanced g))) :=
    (yard_foldl _ (fun t c => yard_takeOver g c t) _ _).trans (yard_walkWaiting g _)
  have harbitrated (cs : List CannonId) (u : State) : u.YardFrame (arbitrateAll g cs u) :=
    yard_foldl _ (fun t c => yard_arbitrate g c t) _ _
  have hfires (u : State) : u.YardFrame (arbitrateFires g u) := yard_ite (harbitrated _ u) (.refl u)
  have howed (u : State) : u.YardFrame (loseSlot g u) := yard_foldl _ (fun t c => yard_updCannon c _ t) _ _
  rw [slotStart_eq]
  dsimp only
  cases s.mode with
  | run => exact hwalked.trans (yard_ite (harbitrated _ _) (howed _))
  | watch => exact hwalked.trans (yard_ite (hfires _) (.refl _))
  | halt => exact hwalked.trans (yard_ite (hfires _) (.refl _))
  | off => exact hwalked

/-- No capacity event falls due. -/
theorem dueCapacity_slotStart : (slotStart g s).dueCapacity = s.dueCapacity := by
  have htaken : (eachCannon (takeOver g) (s.slotAdvanced g)).dueCapacity = s.dueCapacity :=
    dueCapacity_foldl _ (fun t c => by
      obtain ⟨cannons, stations, h⟩ := takeOver_state g c t
      rw [h]) _ _
  have hwalked := (dueCapacity_walkWaiting g (eachCannon (takeOver g) (s.slotAdvanced g))).trans htaken
  have harbitrated (cs : List CannonId) (u : State) : (arbitrateAll g cs u).dueCapacity = u.dueCapacity :=
    dueCapacity_foldl _ (fun t c => dueCapacity_arbitrate g c t) _ _
  have hfires (u : State) : (arbitrateFires g u).dueCapacity = u.dueCapacity := by
    unfold arbitrateFires
    split
    · exact harbitrated _ u
    · rfl
  have howed (u : State) : (loseSlot g u).dueCapacity = u.dueCapacity := 
    dueCapacity_foldl (fun t c => owe c t) (fun _ _ => rfl) _ _
  rw [slotStart_eq]
  dsimp only
  split
  · split
    · exact (harbitrated _ _).trans hwalked
    · exact (howed _).trans hwalked
  · split
    · exact (hfires _).trans hwalked
    · exact hwalked
  · split
    · exact (hfires _).trans hwalked
    · exact hwalked
  · exact hwalked

/-- The cannon is written to the station and holds no place (R64). -/
abbrev State.Joins (c : CannonId) : Prop := (s.cannonEntry c).station = g ∧ (s.cannon c).state.holdsPlace = false

/-- The stations of the cannons after a taking over (R64). -/
theorem stationOf_foldl_takeOver (cs : List CannonId) (u : State) (d : CannonId) :
    (cs.foldl (fun t c => takeOver g c t) u).stationOf d = if d ∈ cs ∧ u.Joins g d then g else u.stationOf d := by
  induction cs generalizing u with
  | nil => exact (if_neg fun h => by cases h.1).symm
  | cons c cs ih =>
    have hone := takeOver_cannon u c g d
    have hentry : (takeOver g c u).cannonEntry d = u.cannonEntry d := (frame_takeOver g c u).cannonEntry d
    have hstate : ((takeOver g c u).cannon d).state = (u.cannon d).state := by rw [hone]; split <;> rfl
    have hjoins : (takeOver g c u).Joins g d ↔ u.Joins g d := by unfold State.Joins; rw [hentry, hstate]
    have hnext : (takeOver g c u).stationOf d = if d = c ∧ u.Joins g d then g else u.stationOf d := by
      rw [State.stationOf, hone]
      by_cases hd : d = c
      · subst hd; split <;> rfl
      · rw [if_neg fun h => hd h.1, if_neg fun h => hd h.1]
        rfl
    rw [List.foldl_cons, ih, hnext]
    by_cases hj : u.Joins g d
    · by_cases hd : d = c
      · rw [if_pos (⟨hd, hj⟩ : d = c ∧ u.Joins g d), ite_self, if_pos ⟨List.mem_cons.mpr (.inl hd), hj⟩]
      · rw [if_neg fun h : d = c ∧ u.Joins g d => hd h.1]
        refine if_congr ?_ rfl rfl
        rw [hjoins, List.mem_cons, or_iff_right hd]
    · rw [if_neg fun h => hj (hjoins.mp h.2), if_neg fun h => hj h.2, if_neg fun h => hj h.2]

/-- No station of a cannon changes but by the taking over (R64). -/
theorem stationOf_slotStart (d : CannonId) :
    (slotStart g s).stationOf d = if s.Joins g d then g else s.stationOf d := by
  have hkept : (eachCannon (takeOver g) (s.slotAdvanced g)).AimsKept (slotStart g s) := by
    have harbitrated (cs : List CannonId) (u : State) : u.AimsKept (arbitrateAll g cs u) :=
      aimsKept_foldl _ (fun t c => aimsKept_arbitrate g c t) _ _
    have hfires (u : State) : u.AimsKept (arbitrateFires g u) := by
      unfold arbitrateFires
      split
      · exact harbitrated _ u
      · exact .refl u
    have howed (u : State) : u.AimsKept (loseSlot g u) := aimsKept_foldl _ (fun t c => aimsKept_owe c t) _ _
    have hwalked := aimsKept_walkWaiting g (eachCannon (takeOver g) (s.slotAdvanced g))
    rw [slotStart_eq]
    dsimp only
    split
    · split
      · exact hwalked.trans (harbitrated _ _)
      · exact hwalked.trans (howed _)
    · split
      · exact hwalked.trans (hfires _)
      · exact hwalked
    · split
      · exact hwalked.trans (hfires _)
      · exact hwalked
    · exact hwalked
  have htaken := stationOf_foldl_takeOver g (List.finRange 48) (s.slotAdvanced g) d
  refine ((hkept d).station.trans htaken).trans ?_
  exact if_congr (and_iff_right (List.mem_finRange d)) rfl rfl

/-- The step of a slot start. -/
theorem exec_slotStart (ho : s.operating) (hdue : s.dueCapacity = []) (htimer : (s.station g).slotTimer.isSome) :
    exec (.slotStart g) s = .next (transmitBoth (slotStart g s)) := by
  have hstep : exec (.slotStart g) s =
      .next (stepOf (fun t => if (t.station g).slotTimer.isSome then slotStart g t else t) s) := rfl
  have hdone : (if (s.station g).slotTimer.isSome then slotStart g s else s) = slotStart g s := if_pos htimer
  rw [hstep, stepOf_of_settled _ s ho (by rw [hdone]; exact (dueCapacity_slotStart s g).trans hdue), hdone]

end

end Sys2Proof.Machine
end

section
namespace Sys2Proof.Machine

/-! ## The slot start as statements write it out (R64, R89, R92) -/

section
variable (s : State) (g : StationId)

/-- The slot that follows (R92). -/
def State.nextSlot : Nat := ((s.station g).slot.val + 1) % 20

/-- The state in which the slot has advanced, and the cannons written to the station that hold no place are its own. -/
@[irreducible] def State.slotBegun : State :=
  { s with
    stations := updAt s.stations g fun x =>
      { x with slot := ⟨s.nextSlot g, Nat.mod_lt _ (by decide)⟩, slotTimer := some (s.stationEntry g).slotLength }
    cannons := Vector.ofFn fun c => if s.Joins g c then { s.cannon c with station := g } else s.cannon c }

/-- The close waiting list that the station walks. -/
def State.lined : List CannonId :=
  (s.station g).waiting ++ (List.finRange 48).filter fun c => s.Joins g c ∧ s.stationOf c ≠ g ∧ s.closeWaiting c

/-- That state with the close waiting lists as the taking over leaves them. -/
@[irreducible] def State.slotMoved : State :=
  { s.slotBegun g with
    stations := Vector.ofFn fun h =>
      { (s.slotBegun g).station h with
        waiting := if h = g then s.lined g
          else (s.station h).waiting.filter fun c => (s.slotBegun g).stationOf c = h } }

theorem slotBegun_state : ∃ cannons stations, s.slotBegun g = { s with cannons := cannons, stations := stations } := by
  unfold State.slotBegun
  exact ⟨_, _, rfl⟩

theorem slotMoved_state :
    ∃ stations, s.slotMoved g = { s.slotBegun g with stations := stations } := by
  unfold State.slotMoved
  exact ⟨_, rfl⟩

theorem slotBegun_cannon (c : CannonId) :
    (s.slotBegun g).cannon c = if s.Joins g c then { s.cannon c with station := g } else s.cannon c := by
  unfold State.slotBegun
  exact vector_ofFn_get _ _

theorem slotBegun_stationOf (c : CannonId) :
    (s.slotBegun g).stationOf c = if s.Joins g c then g else s.stationOf c := by
  rw [State.stationOf, slotBegun_cannon]
  split <;> rfl

theorem slotBegun_station (h : StationId) : (s.slotBegun g).station h = (s.slotAdvanced g).station h := by
  have hslot : (⟨s.nextSlot g, Nat.mod_lt _ (by decide)⟩ : Fin 20) = (s.station g).slot + 1 := Fin.ext rfl
  have hstations : (s.slotBegun g).stations = (s.slotAdvanced g).stations := by
    unfold State.slotBegun
    rw [hslot]
    exact updAt_congr s.stations g
      (f := fun x => { x with slot := (s.station g).slot + 1, slotTimer := some (s.stationEntry g).slotLength })
      (g := fun x => { x with slot := x.slot + 1, slotTimer := some (s.stationEntry g).slotLength }) rfl
  exact congrArg (fun v : Vector Station 4 => v[h]) hstations

theorem slotAdvanced_station (h : StationId) :
    (s.slotAdvanced g).station h = if h = g then
      { s.station g with slot := (s.station g).slot + 1, slotTimer := some (s.stationEntry g).slotLength }
    else s.station h := updAt_get _ _ _ _

theorem slotAdvanced_waiting (h : StationId) : ((s.slotAdvanced g).station h).waiting = (s.station h).waiting := by
  rw [slotAdvanced_station]
  split
  · next e => subst e; rfl
  · rfl

theorem slotAdvanced_closeWaiting (c : CannonId) : (s.slotAdvanced g).closeWaiting c = s.closeWaiting c :=
  closeWaiting_congr (slotAdvanced_waiting s g) c

theorem slotMoved_station (h : StationId) :
    (s.slotMoved g).station h = { (s.slotAdvanced g).station h with
      waiting := if h = g then s.lined g
        else (s.station h).waiting.filter fun c => (s.slotBegun g).stationOf c = h } := by
  rw [← slotBegun_station]
  unfold State.slotMoved
  exact vector_ofFn_get _ _

theorem slotMoved_cannon (c : CannonId) : (s.slotMoved g).cannon c = (s.slotBegun g).cannon c := by
  obtain ⟨stations, h⟩ := slotMoved_state s g
  rw [h]
  rfl

end

section
variable {s : State} {g : StationId}

/-- The cannons taken over at a slot start are those written to the station that hold no place. -/
theorem tookOver_cannon {u : State} (h : (s.slotAdvanced g).TookOver u g (List.finRange 48)) (c : CannonId) :
    u.cannon c = (s.slotBegun g).cannon c := by
  have hgiven : u.cannon c = if c ∈ List.finRange 48 ∧ s.TakenOver g c then { s.cannon c with station := g } else s.cannon c :=
    h.cannon c
  rw [hgiven, slotBegun_cannon]
  by_cases hj : s.Joins g c
  · rw [if_pos hj]
    by_cases hg : s.stationOf c = g
    · rw [if_neg fun ht => ht.2.2.1 hg]
      exact congrArg (fun k => { s.cannon c with station := k }) hg
    · rw [if_pos ⟨List.mem_finRange c, hj.1, hg, hj.2⟩]
  · rw [if_neg hj, if_neg fun ht => hj ⟨ht.2.1, ht.2.2.2⟩]

/-- The state that a taking over leaves, from its cannons and its stations. -/
theorem tookOver_ext {u v : State} (h : (s.slotAdvanced g).TookOver u g (List.finRange 48))
    (hv : ∃ stations, v = { s.slotBegun g with stations := stations })
    (hstations : ∀ k, u.station k = v.station k) : u = v := by
  obtain ⟨stations, rfl⟩ := hv
  have hcannons : u.cannons = (s.slotBegun g).cannons := vector_ext_fin (tookOver_cannon h)
  have hlists : u.stations = stations := vector_ext_fin hstations
  calc u = { s.slotAdvanced g with cannons := u.cannons, stations := u.stations } := h.state
    _ = { s.slotAdvanced g with cannons := (s.slotBegun g).cannons, stations := stations } := by rw [hcannons, hlists]
    _ = { s.slotBegun g with stations := stations } := by unfold State.slotBegun; rfl

/-- Where the close waiting lists hold their own cannons, each cannon taken over moves to the tail of the station's (R89). -/
theorem takeOver_moves (hheld : s.WaitingHeld) : eachCannon (takeOver g) (s.slotAdvanced g) = s.slotMoved g := by
  have hapart (d : CannonId) (hd : (s.slotAdvanced g).TakenOver g d) : d ∉ ((s.slotAdvanced g).station g).waiting := by
    rw [slotAdvanced_waiting]
    exact fun hm => hd.2.1 ((hheld g).2 d hm).1
  have htook := tookOver_eachCannon hapart
  refine tookOver_ext htook (slotMoved_state s g) fun k => ?_
  rw [htook.station k, slotMoved_station, slotAdvanced_waiting, slotAdvanced_waiting]
  by_cases hk : k = g
  · have hjoined : (List.finRange 48).filter (fun c => (s.slotAdvanced g).TakenOver g c ∧ (s.slotAdvanced g).closeWaiting c) =
        (List.finRange 48).filter fun c => s.Joins g c ∧ s.stationOf c ≠ g ∧ s.closeWaiting c :=
      List.filter_congr fun c _ => by
        rw [slotAdvanced_closeWaiting]
        exact decide_eq_decide.mpr ⟨fun ⟨⟨ha, hb, hc⟩, hd⟩ => ⟨⟨ha, hc⟩, hb, hd⟩, fun ⟨⟨ha, hc⟩, hb, hd⟩ => ⟨⟨ha, hb, hc⟩, hd⟩⟩
    rw [if_pos hk, if_pos hk, hjoined, State.lined]
  · have hleft : (s.station k).waiting.filter (fun c => ¬ (c ∈ List.finRange 48 ∧ (s.slotAdvanced g).TakenOver g c)) =
        (s.station k).waiting.filter fun c => (s.slotBegun g).stationOf c = k := by
      refine List.filter_congr fun c hc => decide_eq_decide.mpr ?_
      have hown := ((hheld k).2 c hc).1
      rw [slotBegun_stationOf]
      by_cases hj : s.Joins g c
      · rw [if_pos hj]
        exact iff_of_false (fun h => h ⟨List.mem_finRange c, hj.1, fun e => hk (hown.symm.trans e), hj.2⟩) fun e => hk e.symm
      · rw [if_neg hj]
        exact iff_of_true (fun h => hj ⟨h.2.1, h.2.2.2⟩) hown
    rw [if_neg hk, if_neg hk, hleft]

/-- Where no close waits at the station or for a cannon written to it, the lists stay. -/
theorem takeOver_stays (hempty : (s.station g).waiting = []) (hnone : ∀ c, s.Joins g c → s.closeWaiting c = false) :
    eachCannon (takeOver g) (s.slotAdvanced g) = s.slotBegun g := by
  have hapart (d : CannonId) (hd : (s.slotAdvanced g).TakenOver g d) : d ∉ ((s.slotAdvanced g).station g).waiting := by
    rw [slotAdvanced_waiting, hempty]
    exact List.not_mem_nil
  have htook := tookOver_eachCannon hapart
  have hfree (c : CannonId) (hc : (s.slotAdvanced g).TakenOver g c) : s.closeWaiting c = false := hnone c ⟨hc.1, hc.2.2⟩
  refine tookOver_ext htook ⟨(s.slotBegun g).stations, rfl⟩ fun k => ?_
  have hbegun : ({ s.slotBegun g with stations := (s.slotBegun g).stations } : State).station k =
      (s.slotAdvanced g).station k := slotBegun_station s g k
  rw [htook.station k, slotAdvanced_waiting, slotAdvanced_waiting]
  refine Eq.trans ?_ hbegun.symm
  by_cases hk : k = g
  · have hjoined : (List.finRange 48).filter (fun c => (s.slotAdvanced g).TakenOver g c ∧ (s.slotAdvanced g).closeWaiting c) = [] :=
      List.filter_eq_nil_iff.mpr fun c _ hc => by
        have ⟨ht, hw⟩ := of_decide_eq_true hc
        rw [slotAdvanced_closeWaiting, hfree c ht] at hw
        cases hw
    rw [if_pos hk, hjoined, List.append_nil, hk, ← slotAdvanced_waiting s g g]
  · have hall : (s.station k).waiting.filter (fun c => ¬ (c ∈ List.finRange 48 ∧ (s.slotAdvanced g).TakenOver g c)) =
        (s.station k).waiting := List.filter_eq_self.mpr fun c hc => decide_eq_true fun ht => by
      have hw : s.closeWaiting c = true := (closeWaiting_iff s c).mpr ⟨k, hc⟩
      rw [hfree c ht.2] at hw
      cases hw
    rw [if_neg hk, hall, ← slotAdvanced_waiting s g k]

/-- The lists that the taking over leaves hold their own cannons. -/
theorem waitingHeld_slotMoved (hheld : s.WaitingHeld) : (s.slotMoved g).WaitingHeld := fun k => by
  have hplace (c : CannonId) : (s.slotMoved g).stationOf c = if s.Joins g c then g else s.stationOf c := by
    rw [← slotBegun_stationOf, State.stationOf, slotMoved_cannon]; rfl
  have hstate (c : CannonId) : ((s.slotMoved g).cannon c).state = (s.cannon c).state := by
    rw [slotMoved_cannon, slotBegun_cannon]; split <;> rfl
  rw [slotMoved_station]
  simp only [hplace, hstate]
  by_cases hk : k = g
  · subst hk
    rw [if_pos rfl]
    refine ⟨List.nodup_append.mpr ⟨(hheld k).1, (List.nodup_finRange 48).filter _, fun c hc d hd e => ?_⟩, fun c hc => ?_⟩
    · subst e
      exact (of_decide_eq_true (List.mem_filter.mp hd).2).2.1 ((hheld k).2 c hc).1
    · obtain hc | hc := List.mem_append.mp hc
      · obtain ⟨hown, hgrounded⟩ := (hheld k).2 c hc
        refine ⟨?_, hgrounded⟩
        rw [hown, ite_self]
      · obtain ⟨hj, -, hw⟩ := of_decide_eq_true (List.mem_filter.mp hc).2
        exact ⟨if_pos hj, grounded_of_closeWaiting hheld hw⟩
  · rw [if_neg hk]
    refine ⟨(hheld k).1.filter _, fun c hc => ?_⟩
    obtain ⟨hmem, hown⟩ := List.mem_filter.mp hc
    rw [← slotBegun_stationOf]
    exact ⟨of_decide_eq_true hown, ((hheld k).2 c hmem).2⟩

end

end Sys2Proof.Machine
end

section
namespace Sys2Proof.Machine

/-- A change of a station's places and lists leaves its slot, its timer and its pump. -/
theorem Station.PlacesOnly.kept {x y : Station} (h : x.PlacesOnly y) :
    y.slot = x.slot ∧ y.slotTimer = x.slotTimer ∧ y.pump = x.pump := by
  rw [h]
  exact ⟨rfl, rfl, rfl⟩

section
variable {s : State} {g : StationId}

/-- The records that a taking over and a walk leave, as the slot start goes on by them. -/
theorem slotWalked_frame {w : State} (hw : walkWaiting g (eachCannon (takeOver g) (s.slotAdvanced g)) = w) :
    w.mode = s.mode ∧ w.fieldPort = s.fieldPort ∧ (w.station g).pump = (s.station g).pump ∧
    (w.station g).slot.val = s.nextSlot g := by
  have hyard : (s.slotAdvanced g).YardFrame w := by
    rw [← hw]
    exact (yard_foldl _ (fun t c => yard_takeOver g c t) _ _).trans (yard_walkWaiting g _)
  obtain ⟨hslot, -, hpump⟩ := Station.PlacesOnly.kept (hyard.station g)
  rw [slotAdvanced_station, if_pos rfl] at hslot hpump
  exact ⟨hyard.dispatch.mode, hyard.dispatch.fieldPort, hpump, congrArg Fin.val hslot⟩

/-- FIRE requests are arbitrated in the order of R94 where they may be (R94, R99). -/
theorem arbitrateFires_of_walkOf {w : State} (hserved : w.fireServed g = true) {cs : List CannonId}
    (h : w.WalkOf g (fun c => w.Able g c ∧ (w.cannon c).holds .fire) cs) :
    arbitrateFires g w = cs.foldl (fun t c => arbitrate g c t) w := by
  unfold arbitrateFires
  rw [if_pos hserved, ranked_of_walkOf (fun c => fireCandidate_iff w g c) h]
  rfl

/-- What a slot start does after the walk, by mode and conditions (R92 to R95, R98, R99). -/
theorem slotStart_cases {w : State} (hw : walkWaiting g (eachCannon (takeOver g) (s.slotAdvanced g)) = w) :
    (s.mode = .off → slotStart g s = w) ∧
    (s.mode = .run → s.fieldPort.up ∧ (s.station g).pump = .running →
      ∀ cs, w.WalkOf g (w.Candidate g (s.nextSlot g)) cs → slotStart g s = cs.foldl (fun t c => arbitrate g c t) w) ∧
    (s.mode = .run → ¬ (s.fieldPort.up ∧ (s.station g).pump = .running) → slotStart g s = loseSlot g w) ∧
    (s.mode = .watch ∨ s.mode = .halt →
      (s.fieldPort.up ∧ (s.station g).pump = .running → ∀ cs,
        w.WalkOf g (fun c => w.Able g c ∧ (w.cannon c).holds .fire) cs →
        slotStart g s = cs.foldl (fun t c => arbitrate g c t) w) ∧
      (¬ (s.fieldPort.up ∧ (s.station g).pump = .running) → slotStart g s = w)) := by
  obtain ⟨hmode, hfield, hpump, hslot⟩ := slotWalked_frame hw
  have hserved : (s.fieldPort.up && (s.station g).available) = true ↔ s.fieldPort.up ∧ (s.station g).pump = .running := by
    rw [Bool.and_eq_true, Station.available, decide_eq_true_iff]
  have hdone := slotStart_eq s g
  rw [hw] at hdone
  refine ⟨fun h => ?_, fun h hs cs hwalk => ?_, fun h hs => ?_, fun h => ⟨fun hs cs hwalk => ?_, fun hs => ?_⟩⟩
  · rw [hdone, h]
  · have htest (c : CannonId) : w.candidate g c = true ↔ w.Candidate g (s.nextSlot g) c := by rw [candidate_iff, hslot]
    rw [hdone, h]
    dsimp only
    rw [if_pos (hserved.mpr hs), arbitrateSlot, ranked_of_walkOf htest hwalk]
    rfl
  · rw [hdone, h]
    dsimp only
    rw [if_neg fun hb => hs (hserved.mp hb)]
  · have hfires : w.fireServed g = true := by
      rw [fireServed_iff, hmode, hfield, hpump]
      exact ⟨fun hoff => by rw [hoff] at h; simp at h, hs.1, hs.2⟩
    rw [hdone, ← arbitrateFires_of_walkOf hfires hwalk]
    obtain h | h := h <;> rw [h] <;> exact if_pos (hserved.mpr hs)
  · rw [hdone]
    obtain h | h := h <;> rw [h] <;> exact if_neg fun hb => hs (hserved.mp hb)

/-- Changed cannons and stations make nothing wait for a transmitter (R158). -/
theorem transmitBoth_of_rested (ho : s.operating) (hr : s.Rested) (cannons : Vector Cannon 48) (stations : Vector Station 4) :
    transmitBoth { s with cannons := cannons, stations := stations } = { s with cannons := cannons, stations := stations } :=
  transmitBoth_of_noneWaits _ (hr.2 ho)

/-- What the step of a slot start leaves of the other records (R64, R92). -/
theorem slotStart_others (ho : s.operating) (hdue : s.dueCapacity = []) (htimer : (s.station g).slotTimer.isSome) :
    ∃ t, exec (.slotStart g) s = .next t ∧ (t.station g).slot.val = s.nextSlot g ∧
      (t.station g).slotTimer = some (s.stationEntry g).slotLength ∧
      (∀ h, h ≠ g → (t.station h).slot = (s.station h).slot ∧ (t.station h).slotTimer = (s.station h).slotTimer) ∧
      (∀ c, t.stationOf c = (s.slotBegun g).stationOf c) ∧
      t.zones = s.zones ∧ t.mode = s.mode ∧ s.SameRecords t ∧ t.requests = s.requests := by
  obtain ⟨hsame, hzones, hstations, -, hmode, -, hrequests, -, -, -, hsending, -⟩ :=
    transmissionTakesOnlyFromQueues (slotStart g s)
  have hyard := yard_slotStart s g
  have hstation (h : StationId) : (transmitBoth (slotStart g s)).station h = (slotStart g s).station h :=
    congrArg (fun v : Vector Station 4 => v[h]) hstations
  have hkept (h : StationId) : ((slotStart g s).station h).slot = ((s.slotAdvanced g).station h).slot ∧
      ((slotStart g s).station h).slotTimer = ((s.slotAdvanced g).station h).slotTimer :=
    have ⟨hslot, htimer, _⟩ := Station.PlacesOnly.kept (hyard.station h)
    ⟨hslot, htimer⟩
  have hadvanced : s.SameRecords (s.slotAdvanced g) := by constructor <;> rfl
  refine ⟨_, exec_slotStart s g ho hdue htimer, ?_, ?_, fun h hne => ?_, fun c => ?_, hzones.trans hyard.dispatch.zones,
    hmode.trans hyard.dispatch.mode, (hadvanced.trans hyard.dispatch.records).trans hsame,
    hrequests.trans hyard.dispatch.requests⟩
  · rw [hstation, (hkept g).1, slotAdvanced_station, if_pos rfl]
    rfl
  · rw [hstation, (hkept g).2, slotAdvanced_station, if_pos rfl]
  · rw [hstation, (hkept h).1, (hkept h).2, slotAdvanced_station, if_neg hne]
    exact ⟨rfl, rfl⟩
  · rw [slotBegun_stationOf, ← stationOf_slotStart]
    exact (hsending c).station

/-- A cannon that the walk admits has a command queued (R104). -/
theorem State.Walked.hasCommand {s t : State} {queue : List CannonId} (h : s.Walked t g queue) {c : CannonId} (hc : c ∈ queue)
    (hclosing : (t.cannon c).state = .closing) : t.hasCommand c = true := by
  rw [State.hasCommand, h.commands, List.any_append, Bool.or_eq_true]
  cases hold : s.hasCommand c with
  | true => exact .inl hold
  | false =>
    refine .inr (List.any_eq_true.mpr ⟨{ cannon := c, verb := .closeValve }, ?_, decide_eq_true rfl⟩)
    exact List.mem_map.mpr ⟨c, List.mem_filter.mpr ⟨hc, decide_eq_true ⟨hclosing, hold⟩⟩, rfl⟩

/-- The walk of a slot start, as its cannons and lists stand in OFF (R89). -/
theorem slotWalked_cannons {w : State} (hw : (s.slotMoved g).Walked w g (s.lined g)) :
    (s.slotBegun g).AdmitsInOrder w (s.lined g) ∧
    (w.station g).waiting = (s.lined g).filter (fun c => (w.cannon c).state ≠ .closing) ∧
    (∀ h, h ≠ g → (w.station h).waiting = (s.station h).waiting.filter fun c => (s.slotBegun g).stationOf c = h) ∧
    (∀ c, c ∉ s.lined g → w.cannon c = (s.slotBegun g).cannon c) ∧
    (∀ c, c ∈ s.lined g → w.cannon c = (s.slotBegun g).cannon c ∨
      (w.hasCommand c ∧ w.cannon c = { (s.slotBegun g).cannon c with
        state := .closing, faultPending := decide ((s.cannon c).state = .fault) })) := by
  have hcannon := slotMoved_cannon s g
  have hstate (c : CannonId) : ((s.slotBegun g).cannon c).state = (s.cannon c).state := by
    rw [slotBegun_cannon]; split <;> rfl
  refine ⟨?_, ?_, fun h hne => ?_, fun c hc => ?_, fun c hc => ?_⟩
  · have hplaces (k : StationId) : ((s.slotMoved g).station k).inUse = ((s.slotBegun g).station k).inUse ∧
        ((s.slotMoved g).station k).inUseFlow = ((s.slotBegun g).station k).inUseFlow := by
      rw [slotMoved_station, slotBegun_station]
      exact ⟨rfl, rfl⟩
    obtain ⟨stations, hmoved⟩ := slotMoved_state s g
    intro i c hi
    have hjudged := hw.judged i c hi
    dsimp only at hjudged ⊢
    rw [(hplaces _).1, (hplaces _).2, hmoved] at hjudged
    exact hjudged
  · rw [hw.station]
  · rw [hw.others h hne, slotMoved_station, if_neg hne]
  · rw [← hcannon]
    exact (hw.cannons c).resolve_right fun hq => hc hq.1
  · rw [← hcannon]
    refine (hw.cannons c).imp_right fun ⟨_, hclosed⟩ => ⟨?_, ?_⟩
    · exact hw.hasCommand hc (by rw [hclosed])
    · rw [hclosed, hcannon, hstate c]

end

end Sys2Proof.Machine
end

section
namespace Sys2Proof.Machine

section
variable {s : State} {g : StationId}

/-- A slot start at which a close may wait (R64, R89, R92 to R95, R98, R99). -/
theorem slotStart_moved (ho : s.operating) (hdue : s.dueCapacity = []) (htimer : (s.station g).slotTimer.isSome)
    (hheld : s.WaitingHeld) :
    ∃ w, (s.slotMoved g).Walked w g (s.lined g) ∧
      (s.mode = .off → exec (.slotStart g) s = .next (transmitBoth w)) ∧
      (s.mode = .run → s.fieldPort.up ∧ (s.station g).pump = .running → ∀ cs, w.WalkOf g (w.Candidate g (s.nextSlot g)) cs →
        exec (.slotStart g) s = .next (transmitBoth (cs.foldl (fun t c => arbitrate g c t) w))) ∧
      (s.mode = .run → ¬ (s.fieldPort.up ∧ (s.station g).pump = .running) →
        ∃ t, exec (.slotStart g) s = .next (transmitBoth t) ∧ t = { w with cannons := t.cannons } ∧
          ∀ c, (w.Candidate g (s.nextSlot g) c ∧ (w.cannon c).holds .auto →
              t.cannon c = { w.cannon c with owed := min 2 ((w.cannon c).owed + 1) }) ∧
            (¬ (w.Candidate g (s.nextSlot g) c ∧ (w.cannon c).holds .auto) → t.cannon c = w.cannon c)) ∧
      (s.mode = .watch ∨ s.mode = .halt →
        (s.fieldPort.up ∧ (s.station g).pump = .running → ∀ cs,
          w.WalkOf g (fun c => w.Able g c ∧ (w.cannon c).holds .fire) cs →
          exec (.slotStart g) s = .next (transmitBoth (cs.foldl (fun t c => arbitrate g c t) w))) ∧
        (¬ (s.fieldPort.up ∧ (s.station g).pump = .running) → exec (.slotStart g) s = .next (transmitBoth w))) := by
  have hqueue : ((s.slotMoved g).station g).waiting = s.lined g := by rw [slotMoved_station, if_pos rfl]
  have hwalked := walked_walkWaiting g (waitingHeld_slotMoved (g := g) hheld)
  rw [hqueue] at hwalked
  have hw : walkWaiting g (eachCannon (takeOver g) (s.slotAdvanced g)) = walkWaiting g (s.slotMoved g) := by
    rw [takeOver_moves hheld]
  obtain ⟨-, -, -, hslot⟩ := slotWalked_frame hw
  obtain ⟨hoff, hrun, hlost, hfires⟩ := slotStart_cases hw
  have hexec := exec_slotStart s g ho hdue htimer
  refine ⟨walkWaiting g (s.slotMoved g), hwalked, fun h => ?_, fun h hs cs hcs => ?_, fun h hs => ?_, fun h =>
    ⟨fun hs cs hcs => ?_, fun hs => ?_⟩⟩
  · rw [hexec, hoff h]
  · rw [hexec, hrun h hs cs hcs]
  · obtain ⟨⟨cannons, hstate⟩, howed⟩ := loseSlot_eq g (walkWaiting g (s.slotMoved g))
    rw [hslot] at howed
    refine ⟨loseSlot g (walkWaiting g (s.slotMoved g)), by rw [hexec, hlost h hs], ?_, howed⟩
    rw [hstate]
  · rw [hexec, (hfires h).1 hs cs hcs]
  · rw [hexec, (hfires h).2 hs]

/-- A slot start at which none waits (R64, R92 to R95, R98, R99). -/
theorem slotStart_begun (ho : s.operating) (hr : s.Rested) (htimer : (s.station g).slotTimer.isSome)
    (hempty : (s.station g).waiting = []) (hnone : ∀ c, s.Joins g c → s.closeWaiting c = false) :
    (s.mode = .off → exec (.slotStart g) s = .next (s.slotBegun g)) ∧
    (s.mode = .run → s.fieldPort.up ∧ (s.station g).pump = .running → ∀ cs,
      (s.slotBegun g).WalkOf g ((s.slotBegun g).Candidate g (s.nextSlot g)) cs →
      exec (.slotStart g) s = .next (transmitBoth (cs.foldl (fun t c => arbitrate g c t) (s.slotBegun g)))) ∧
    (s.mode = .run → ¬ (s.fieldPort.up ∧ (s.station g).pump = .running) →
      ∃ t, exec (.slotStart g) s = .next t ∧ t = { s.slotBegun g with cannons := t.cannons } ∧
        ∀ c, ((s.slotBegun g).Candidate g (s.nextSlot g) c ∧ (s.cannon c).holds .auto →
            t.cannon c = { (s.slotBegun g).cannon c with owed := min 2 ((s.cannon c).owed + 1) }) ∧
          (¬ ((s.slotBegun g).Candidate g (s.nextSlot g) c ∧ (s.cannon c).holds .auto) →
            t.cannon c = (s.slotBegun g).cannon c)) ∧
    (s.mode = .watch ∨ s.mode = .halt →
      (s.fieldPort.up ∧ (s.station g).pump = .running → ∀ cs,
        (s.slotBegun g).WalkOf g (fun c => (s.slotBegun g).Able g c ∧ (s.cannon c).holds .fire) cs →
        exec (.slotStart g) s = .next (transmitBoth (cs.foldl (fun t c => arbitrate g c t) (s.slotBegun g)))) ∧
      (¬ (s.fieldPort.up ∧ (s.station g).pump = .running) → exec (.slotStart g) s = .next (s.slotBegun g))) := by
  have hasked (c : CannonId) : ((s.slotBegun g).cannon c).owed = (s.cannon c).owed ∧
      ∀ cls, ((s.slotBegun g).cannon c).holds cls = (s.cannon c).holds cls := by
    rw [slotBegun_cannon]
    split <;> exact ⟨rfl, fun _ => rfl⟩
  have hstays : walkWaiting g (s.slotBegun g) = s.slotBegun g := by
    have hlist : ((s.slotBegun g).station g).waiting = [] := by rw [slotBegun_station, slotAdvanced_waiting, hempty]
    rw [walkWaiting, hlist, List.foldl_nil]
  have hw : walkWaiting g (eachCannon (takeOver g) (s.slotAdvanced g)) = s.slotBegun g := by
    rw [takeOver_stays hempty hnone, hstays]
  have hrests (cannons : Vector Cannon 48) :
      transmitBoth { s.slotBegun g with cannons := cannons } = { s.slotBegun g with cannons := cannons } := by
    obtain ⟨_, stations, hbegun⟩ := slotBegun_state s g
    rw [hbegun]
    exact transmitBoth_of_rested ho hr cannons stations
  obtain ⟨-, -, -, hslot⟩ := slotWalked_frame hw
  obtain ⟨hoff, hrun, hlost, hfires⟩ := slotStart_cases hw
  have hexec := exec_slotStart s g ho hr.1 htimer
  refine ⟨fun h => ?_, fun h hs cs hcs => ?_, fun h hs => ?_, fun h => ⟨fun hs cs hcs => ?_, fun hs => ?_⟩⟩
  · rw [hexec, hoff h]
    exact congrArg _ (hrests (s.slotBegun g).cannons)
  · rw [hexec, hrun h hs cs hcs]
  · obtain ⟨⟨cannons, hstate⟩, howed⟩ := loseSlot_eq g (s.slotBegun g)
    rw [hslot] at howed
    refine ⟨loseSlot g (s.slotBegun g), ?_, by rw [hstate], fun c => ?_⟩
    · rw [hexec, hlost h hs, hstate, hrests]
    · obtain ⟨hsame, hholds⟩ := hasked c
      rw [← hsame, ← hholds]
      exact howed c
  · refine hexec.trans (congrArg (fun u => Host.Outcome.next (transmitBoth u)) ((hfires h).1 hs cs ⟨fun c => ?_, hcs.2⟩))
    exact (hcs.1 c).trans (and_congr_right fun _ => by rw [(hasked c).2])
  · rw [hexec, (hfires h).2 hs]
    exact congrArg _ (hrests (s.slotBegun g).cannons)

end

/-- Settles O27: the slot, the taking over, the walk, and the arbitration by mode and conditions. -/
theorem slotStartAdvancesSlot : Obligations.SlotStartAdvancesSlot := by
  intro s g ho hr htimer k joins begun queue served
  have hbegun : begun = s.slotBegun g := by
    unfold State.slotBegun
    rfl
  clear_value begun
  subst hbegun
  have hmoved : s.slotMoved g = { s.slotBegun g with
      stations := Vector.ofFn fun h =>
        { (s.slotBegun g).station h with
          waiting := if h = g then queue else (s.station h).waiting.filter fun c => (s.slotBegun g).stationOf c = h } } := by
    unfold State.slotMoved
    rfl
  refine ⟨slotStart_others ho hr.1 htimer, fun hoff hheld => ?_, fun hheld => ?_, fun hempty hnone => ?_⟩
  · obtain ⟨w, hw, hexec, -⟩ := slotStart_moved ho hr.1 htimer hheld
    exact ⟨w, hexec hoff, slotWalked_cannons hw⟩
  · obtain ⟨w, hw, hcases⟩ := slotStart_moved ho hr.1 htimer hheld
    rw [hmoved] at hw
    exact ⟨w, hw, hcases⟩
  · exact slotStart_begun ho hr htimer hempty hnone

end Sys2Proof.Machine
end
